-- ==== Sys2Proof/Word.lean ====
section
/-! DEFINITION. The word types of the Porzel 6416: bytes, addresses, service numbers, ticks and sequence numbers.
Only what the manual treats as bits is a bit vector (R1, R7, R19). -/

namespace Sys2Proof

/-- One byte of a frame. -/
abbrev Byte := BitVec 8

/-- A run of bytes, the first byte on the wire first. -/
abbrev Bytes := List Byte

/-- A 48-bit Ethernet station address. -/
abbrev Station := BitVec 48

/-- A 32-bit IPv4 network address. -/
abbrev NetAddr := BitVec 32

/-- A 16-bit UDP or TCP service number. -/
abbrev Service := BitVec 16

/-- A value of the ms tick (R19). -/
abbrev Tick := BitVec 32

/-- A journal sequence number or till record number, which wraps (R1, Serial order). -/
abbrev Seq := BitVec 32

/-- FF-FF-FF-FF-FF-FF (R5). -/
abbrev broadcastStation : Station := 0xFFFFFFFFFFFF#48

end Sys2Proof
end

