-- ==== Sys2Proof/Machine/Wire.lean ====
section
/-! DEFINITION. Bytes on the wire: the byte order of R1 and R192, the one's-complement arithmetic of R45, the
readers with which a received message is taken apart field by field, and the writers that build one. -/

namespace Sys2Proof.Machine

/-! ## Byte order -/

/-- Byte `i` of a run of bytes; 0 beyond its end. -/
def byteAt (bs : Bytes) (i : Nat) : Byte := bs.getD i 0

/-- The 16-bit field at offset `i`, most significant byte first (R1). -/
def word16 (bs : Bytes) (i : Nat) : BitVec 16 := byteAt bs i ++ byteAt bs (i + 1)

/-- The 32-bit field at offset `i`. -/
def word32 (bs : Bytes) (i : Nat) : BitVec 32 := word16 bs i ++ word16 bs (i + 2)

/-- The 48-bit station address at offset `i`. -/
def word48 (bs : Bytes) (i : Nat) : BitVec 48 := word16 bs i ++ word32 bs (i + 2)

/-- A 16-bit field as its two bytes, most significant first (R1). -/
def be16 (x : BitVec 16) : Bytes := [x.extractLsb' 8 8, x.extractLsb' 0 8]

/-- A 24-bit field as its three bytes. -/
def be24 (x : BitVec 24) : Bytes := x.extractLsb' 16 8 :: be16 (x.extractLsb' 0 16)

/-- A 32-bit field as its four bytes. -/
def be32 (x : BitVec 32) : Bytes := be16 (x.extractLsb' 16 16) ++ be16 (x.extractLsb' 0 16)

/-- A 40-bit field as its five bytes. -/
def be40 (x : BitVec 40) : Bytes := x.extractLsb' 32 8 :: be32 (x.extractLsb' 0 32)

/-- A station address as its six bytes. -/
def be48 (x : BitVec 48) : Bytes := be16 (x.extractLsb' 32 16) ++ be32 (x.extractLsb' 0 32)

/-- A 64-bit field as its eight bytes. -/
def be64 (x : BitVec 64) : Bytes := be32 (x.extractLsb' 32 32) ++ be32 (x.extractLsb' 0 32)

/-- A number within 0 to 255 as one byte (R196). -/
def num8 (n : Nat) : Bytes := [BitVec.ofNat 8 n]

/-- A number within 0 to 65,535 as two bytes (R196). -/
def num16 (n : Nat) : Bytes := be16 (BitVec.ofNat 16 n)

/-- A number of 32 bits as four bytes (R196). -/
def num32 (n : Nat) : Bytes := be32 (BitVec.ofNat 32 n)

/-- A yes/no field: 0 for no, 1 for yes (R192). -/
def yesNo (b : Bool) : Bytes := [if b then 1 else 0]

/-- An optional field: a presence byte, then the value at its full width, zeros when absent (R192). -/
def optField {α : Type} (width : Nat) (enc : α → Bytes) : Option α → Bytes
  | none => 0 :: List.replicate width 0
  | some x => 1 :: enc x

/-- `bs` with the bytes from offset `i` on replaced by `new`. -/
def patch (bs : Bytes) (i : Nat) (new : Bytes) : Bytes := bs.take i ++ new ++ bs.drop (i + new.length)

/-! ## One's-complement arithmetic (R45) -/

/-- R45: two 16-bit values added as whole numbers, with the end-around carry. -/
def onesAdd (a b : BitVec 16) : BitVec 16 :=
  if a.toNat + b.toNat > 0xFFFF then BitVec.ofNat 16 (a.toNat + b.toNat - 0x10000 + 1)
  else BitVec.ofNat 16 (a.toNat + b.toNat)

/-- The one's-complement sum of 16-bit words, each addition folded at once (R45). -/
def onesSum (words : List (BitVec 16)) : BitVec 16 := words.foldl onesAdd 0

/-- The 16-bit words of a run of bytes, with one zero byte added after an odd last byte (R7). -/
def wordsOf : Bytes → List (BitVec 16)
  | [] => []
  | [a] => [a ++ (0 : Byte)]
  | a :: b :: rest => (a ++ b) :: wordsOf rest

/-- The words of a UDP checksum: the pseudo-header and the datagram (R7). -/
def udpWords (source destination : NetAddr) (datagram : Bytes) : List (BitVec 16) :=
  wordsOf (be32 source ++ be32 destination ++ [0, 17] ++ num16 datagram.length ++ datagram)

/-- R7: a received UDP checksum is correct when the sum, the checksum field included, gives 0xFFFF. -/
def udpChecksumCorrect (source destination : NetAddr) (datagram : Bytes) : Bool :=
  onesSum (udpWords source destination datagram) == 0xFFFF

/-- R7: the checksum the part builds, over a datagram whose checksum field is 0: NOT of the sum, with 0xFFFF in
place of 0x0000. -/
def udpChecksumBuilt (source destination : NetAddr) (datagram : Bytes) : BitVec 16 :=
  if ~~~ onesSum (udpWords source destination datagram) = 0 then 0xFFFF
  else ~~~ onesSum (udpWords source destination datagram)

/-- R45: the incremental checksum update, NOT(NOT HC + Σ NOT m + Σ m'), for pairs of old and new words. -/
def checksumUpdate (old : BitVec 16) (changed : List (BitVec 16 × BitVec 16)) : BitVec 16 :=
  ~~~ changed.foldl (fun acc w => onesAdd (onesAdd acc (~~~ w.1)) w.2) (~~~ old)

/-! ## Readers

A reader takes the fields of a received message from the front of its bytes; it answers none where they run out. -/

/-- A reader of a received message. -/
abbrev Reader (α : Type) := StateT Bytes Option α

/-- One byte. -/
def readByte : Reader Byte := fun bs =>
  match bs with
  | [] => none
  | b :: rest => some (b, rest)

/-- A 16-bit field (R1). -/
def read16 : Reader (BitVec 16) := do
  let a ← readByte
  let b ← readByte
  return a ++ b

/-- A 24-bit field. -/
def read24 : Reader (BitVec 24) := do
  let a ← readByte
  let b ← read16
  return a ++ b

/-- A 32-bit field. -/
def read32 : Reader (BitVec 32) := do
  let a ← read16
  let b ← read16
  return a ++ b

/-- A station address. -/
def read48 : Reader (BitVec 48) := do
  let a ← read16
  let b ← read32
  return a ++ b

/-- A 64-bit field. -/
def read64 : Reader (BitVec 64) := do
  let a ← read32
  let b ← read32
  return a ++ b

/-- A yes/no field: any nonzero value is yes (R192). -/
def readYesNo : Reader Bool := do
  let b ← readByte
  return b != 0

/-- An optional field: presence byte, then the value at full width, ignored when absent (R192). A presence byte
other than 0 is yes. -/
def readOpt {α : Type} (r : Reader α) : Reader (Option α) := do
  let p ← readYesNo
  let x ← r
  return if p then some x else none

/-- `n` fields one after another. -/
def readMany {α : Type} (r : Reader α) : Nat → Reader (List α)
  | 0 => pure []
  | n + 1 => do
    let x ← r
    let rest ← readMany r n
    return x :: rest

/-- What a reader takes from a message, bytes after its last field ignored (R192). -/
def Reader.fields {α : Type} (r : Reader α) (bs : Bytes) : Option α := (r bs).map (·.1)

end Sys2Proof.Machine
end

