-- ==== Sys2Proof/Config.lean ====
section
/-! DEFINITION. What one given part fixes, and the values the manual leaves open. Each is an opaque constant, so
that no statement can rest on a value of it. -/

namespace Sys2Proof.Config

/-- The station address set at manufacture (R3). The manual gives no part's address: assumption 1. -/
opaque stationAddress : Station

/-- The type-of-service byte of the n-th IPv4 frame the part originates: the manual does not state it (assumption 8). -/
opaque originatedService : Nat → Byte

/-- The identification field of the n-th IPv4 frame the part originates (assumption 8). -/
opaque originatedIdentification : Nat → BitVec 16

/-- The reserved and don't-fragment flags (bits 15 and 14 of the fragment word) of the n-th IPv4 frame the part
originates. R13 fixes more-fragments and the fragment offset only (assumption 8). -/
opaque originatedFlags : Nat → BitVec 2

end Sys2Proof.Config
end

