-- ==== Sys2Proof/Syntax.lean ====
section
/-! DEFINITION. The commands of the Porzel 6416: one constructor of `Instr` for each row of spec/opcode_table.json,
with the operands the chapters give it. A named value that a message may carry without meaning stays the raw byte
of the wire (R195 to R197), so that its refusal has a case. -/

namespace Sys2Proof

/-- The five segments, in segment-number order (R22). -/
inductive Segment where
  | uplink | till | label | guest | office
  deriving DecidableEq, Repr

/-- The four ports that have an egress queue (R15). -/
inductive EgressPort where
  | till | label | guest | office
  deriving DecidableEq, Repr

/-- The speed of an UP port (R2). -/
inductive LinkSpeed where
  | mb10 | mb100 | mb1000
  deriving DecidableEq, Repr

/-- The three share meters, in index order (R58). -/
inductive Meter where
  | guest | office | transfer
  deriving DecidableEq, Repr

/-- The two banks of the window table. -/
inductive BankId where
  | a | b
  deriving DecidableEq, Repr

/-- A value for each of the five segments. -/
structure PerSegment (α : Type) where
  uplink : α
  till : α
  label : α
  guest : α
  office : α
  deriving DecidableEq, Repr

/-- The same value for each segment. -/
def PerSegment.all {α : Type} (x : α) : PerSegment α := ⟨x, x, x, x, x⟩

/-- The value of one segment. -/
def PerSegment.get {α : Type} (p : PerSegment α) : Segment → α
  | .uplink => p.uplink
  | .till => p.till
  | .label => p.label
  | .guest => p.guest
  | .office => p.office

/-- The five values with one segment's replaced. -/
def PerSegment.set {α : Type} (p : PerSegment α) (x : α) : Segment → PerSegment α
  | .uplink => { p with uplink := x }
  | .till => { p with till := x }
  | .label => { p with label := x }
  | .guest => { p with guest := x }
  | .office => { p with office := x }

/-- Where the response to a request goes, recorded at the request's arrival (R12, R181): for a local request the
source station and the port it came in on, for a remote one the source address and source service. -/
inductive ReplyAddress where
  | station (address : Station) (port : Segment)
  | datagram (address : NetAddr) (service : Service)
  deriving DecidableEq, Repr

/-- The two management parties. -/
inductive Party where
  | localParty | remoteParty
  deriving DecidableEq, Repr

/-- Who issued a request: its tag (R195) and its reply address. -/
structure Requester where
  tag : BitVec 16
  reply : ReplyAddress
  deriving DecidableEq, Repr

/-- The party a request acts for: Local for a management frame, Remote for a datagram (R181, R188). -/
def Requester.party (q : Requester) : Party :=
  match q.reply with
  | .station _ _ => .localParty
  | .datagram _ _ => .remoteParty

/-- A request as it waits in the agent's request queue: its reply address and its bytes from the management
message header onward (R181). -/
structure Request where
  reply : ReplyAddress
  body : Bytes
  deriving DecidableEq, Repr

/-- What a night datagram carries besides its own fields: the source station of its frame, the source address and
service, the branch number and the epoch (R120, R200). -/
structure NightSource where
  station : Station
  address : NetAddr
  service : Service
  branch : BitVec 16
  epoch : BitVec 32
  deriving DecidableEq, Repr

/-- A label update as it stands in a LABELS message (R201). -/
structure LabelWire where
  number : BitVec 24
  page : Byte
  flash : Bool
  item : Option (BitVec 64)
  text : Bytes
  deriving DecidableEq, Repr

/-- The base-station entry (R3). -/
structure BaseStation where
  station : Station
  address : NetAddr
  service : Service
  deriving DecidableEq, Repr

/-- A written PORTS entry: every port setting but the station address and the office station list (R3, R187). -/
structure PortsWrite where
  gateways : PerSegment NetAddr
  nextHop : Option Station
  baseStation : Option BaseStation
  managementPort : Byte
  managementType : BitVec 16
  agentService : Service
  nightService : Service
  labelService : Service
  deriving DecidableEq, Repr

/-- An entry of the office station list (R3, R4). -/
structure OfficeStation where
  enabled : Bool
  station : Station
  address : NetAddr
  deriving DecidableEq, Repr

/-- A written window entry (R20, R196). -/
structure WindowWrite where
  enabled : Bool
  pinned : Bool
  sources : Byte
  key : Byte
  base : NetAddr
  mask : BitVec 32
  protocol : Option Byte
  range : Option (Service × Service)
  action : Byte
  destination : Byte
  translate : Option NetAddr
  uplinkClass : Byte
  mark : Bool
  offset : Byte
  deriving DecidableEq, Repr

/-- A written segment default (R22). -/
structure DefaultWrite where
  action : Byte
  destination : Byte
  uplinkClass : Byte
  deriving DecidableEq, Repr

/-- A written UPLINK entry (R53). -/
structure UplinkWrite where
  daySpacing : Byte
  drainSpacing : Byte
  residence : BitVec 16
  deriving DecidableEq, Repr

/-- One profile of a written METERS entry (R58). -/
structure ProfileWrite where
  rate : BitVec 32
  depth : BitVec 32
  action : Byte
  deriving DecidableEq, Repr

/-- A written METERS entry: both profiles (R58). -/
structure MeterWrite where
  day : ProfileWrite
  night : ProfileWrite
  deriving DecidableEq, Repr

/-- One threshold of a written THRESHOLDS entry: a value, an enable and an arm flag (R66). -/
structure ThresholdWrite where
  value : BitVec 32
  enabled : Bool
  arm : Bool
  deriving DecidableEq, Repr

/-- A written THRESHOLDS entry (R66). -/
structure PairWrite where
  low : ThresholdWrite
  high : ThresholdWrite
  deriving DecidableEq, Repr

/-- A written GUEST entry: the guest settings (R69). -/
structure GuestWrite where
  base : NetAddr
  mask : BitVec 32
  minIdle : BitVec 16
  idleLimit : BitVec 32
  rate : BitVec 32
  depth : BitVec 32
  deriving DecidableEq, Repr

/-- A written TILLS entry (R83). -/
structure TillWrite where
  enabled : Bool
  station : Station
  address : NetAddr
  openLimit : Byte
  holdOver : Bool
  lastAccepted : Option Seq
  deriving DecidableEq, Repr

/-- A written TRACKER entry (R85). -/
structure TrackerWrite where
  replyTimeout : BitVec 16
  lateWindow : BitVec 32
  deriving DecidableEq, Repr

/-- A written POOL entry: the two reserves (R110). -/
structure PoolWrite where
  journalReserve : BitVec 32
  labelReserve : BitVec 32
  deriving DecidableEq, Repr

/-- A written NIGHT entry (R119). -/
structure NightWrite where
  collector : NetAddr
  service : Service
  branch : BitVec 16
  epoch : BitVec 32
  followClock : Bool
  callTimeout : BitVec 16
  ackTimeout : BitVec 16
  settleTimeout : BitVec 16
  shortLimit : Byte
  longLimit : Byte
  deriving DecidableEq, Repr

/-- A written LABEL entry (R143). -/
structure LabelWrite where
  pacing : Byte
  attemptLimit : Byte
  outcomeTimeout : BitVec 16
  deriving DecidableEq, Repr

/-- A written SCHEDULE entry (R162). -/
structure ScheduleWrite where
  enabled : Bool
  second : BitVec 32
  action : Byte
  deriving DecidableEq, Repr

/-- One counter of COUNTERS Configure (R172, R197). -/
structure CounterWrite where
  kind : Byte
  qualifier : Byte
  condition : Byte
  run : Bool
  deriving DecidableEq, Repr

/-- A COUNTERS request without fields of its own: its form byte is 2 for Start (R172, R195). One whose form byte spells no
form of COUNTERS is carried here too, so that it meets the tests of R183 (assumption 24). -/
structure StartRequest where
  by_ : Requester
  form : Byte
  deriving DecidableEq, Repr

/-- The group controls of the event counters (R171). -/
structure GroupControls where
  globalEnable : Bool
  alertEnable1 : Bool
  alertEnable28 : Bool
  trigger : Bool
  freezeOnAlert : Bool
  deriving DecidableEq, Repr

/-- The four limits of ADJUST QUEUES (R52). -/
structure QueueLimitsWrite where
  urgent : BitVec 16
  transfer : BitVec 16
  office : BitVec 16
  guest : BitVec 16
  deriving DecidableEq, Repr

/-- The commands: the rows of spec/opcode_table.json in its order. -/
inductive Instr where
  /-- DEVICE_RESET (R1): the RESET pin or power-up. -/
  | deviceReset
  /-- LINK_UP (R2): negotiation on a port completes at a speed. -/
  | linkUp (port : Segment) (speed : LinkSpeed)
  /-- LINK_LOSS (R2): a port loses its link partner. -/
  | linkLoss (port : Segment)
  /-- FRAME_RECEIVED (R5): a frame's bytes without the frame check sequence, and whether that was correct. -/
  | frameReceived (port : Segment) (fcsCorrect : Bool) (bytes : Bytes)
  /-- EGRESS_TRANSMISSION_END (R15). -/
  | egressTransmissionEnd (port : EgressPort)
  /-- UPLINK_TRANSMISSION_END (R54). -/
  | uplinkTransmissionEnd
  /-- MS_TICK_ADVANCE (R19). -/
  | msTickAdvance
  /-- METER_RELEASE (R61): the release event of one share meter. -/
  | meterRelease (meter : Meter)
  /-- GUEST_AGING (R74). -/
  | guestAging
  /-- SECOND_ADVANCE (R159). -/
  | secondAdvance
  /-- WAITING_EXPIRY (R93, R94): the deadline of a Waiting entry in an open request slot. -/
  | waitingExpiry (slot : Fin 64)
  /-- HELD_OVER_EXPIRY (R94). -/
  | heldOverExpiry (slot : Fin 64)
  /-- WAKE (R123). -/
  | wake (source : NightSource)
  /-- GRANT (R128). -/
  | grant (source : NightSource) (window : Byte) (day : BitVec 16) (second : BitVec 32)
  /-- ACK (R129). -/
  | ack (source : NightSource) (sequence : Seq)
  /-- LABELS_MESSAGE (R137). -/
  | labelsMessage (source : NightSource) (batch : BitVec 32) (updates : List LabelWire)
  /-- FINISH (R134). -/
  | finish (source : NightSource)
  /-- CALL_TIMER_EXPIRY (R124). -/
  | callTimerExpiry
  /-- BACKOFF_TIMER_EXPIRY (R127). -/
  | backoffTimerExpiry
  /-- ACK_TIMER_EXPIRY (R132). -/
  | ackTimerExpiry
  /-- SETTLE_TIMER_EXPIRY (R134). -/
  | settleTimerExpiry
  /-- READY (R146): the source station of its frame and the free slots reported. -/
  | ready (station : Station) (slots : Byte)
  /-- OUTCOME (R149): the source station of its frame, a label number and the outcome byte. -/
  | outcome (station : Station) (number : BitVec 24) (value : Byte)
  /-- PACING_TIMER_EXPIRY (R147). -/
  | pacingTimerExpiry
  /-- OUTCOME_TIMEOUT (R151): the deadline of the in-flight update of a label number. -/
  | outcomeTimeout (number : BitVec 24)
  /-- ALERT_TIMER_EXPIRY (R178). -/
  | alertTimerExpiry
  /-- LEASE_EXPIRY (R189). -/
  | leaseExpiry
  /-- IDENTIFY (R185). -/
  | identify (by_ : Requester)
  /-- READ (R186): table code, first index, count. -/
  | read (by_ : Requester) (table : Byte) (first : BitVec 32) (count : BitVec 16)
  /-- READ_NEXT (R186). -/
  | readNext (by_ : Requester) (count : BitVec 16)
  /-- WRITE (R187): table code, first index, entry count and the bytes of the entries. -/
  | write (by_ : Requester) (table : Byte) (first : BitVec 32) (count : BitVec 16) (data : Bytes)
  /-- WRITE_PORTS (R3). -/
  | writePorts (by_ : Requester) (first : BitVec 32) (entries : List PortsWrite)
  /-- WRITE_OFFICE_STATIONS (R4). -/
  | writeOfficeStations (by_ : Requester) (first : BitVec 32) (entries : List OfficeStation)
  /-- WRITE_WINDOW (R21). -/
  | writeWindow (by_ : Requester) (bank : BankId) (first : BitVec 32) (entries : List WindowWrite)
  /-- WRITE_DEFAULTS (R22). -/
  | writeDefaults (by_ : Requester) (bank : BankId) (first : BitVec 32) (entries : List DefaultWrite)
  /-- WRITE_BANK_IDENTITY (R23). -/
  | writeBankIdentity (by_ : Requester) (first : BitVec 32) (entries : List (BitVec 32))
  /-- WRITE_UPLINK (R53). -/
  | writeUplink (by_ : Requester) (first : BitVec 32) (entries : List UplinkWrite)
  /-- WRITE_METERS (R58). -/
  | writeMeters (by_ : Requester) (first : BitVec 32) (entries : List MeterWrite)
  /-- WRITE_THRESHOLDS (R66). -/
  | writeThresholds (by_ : Requester) (first : BitVec 32) (entries : List PairWrite)
  /-- WRITE_GUEST (R69). -/
  | writeGuest (by_ : Requester) (first : BitVec 32) (entries : List GuestWrite)
  /-- WRITE_TILLS (R83). -/
  | writeTills (by_ : Requester) (first : BitVec 32) (entries : List TillWrite)
  /-- WRITE_TRACKER (R85). -/
  | writeTracker (by_ : Requester) (first : BitVec 32) (entries : List TrackerWrite)
  /-- WRITE_POOL (R110). -/
  | writePool (by_ : Requester) (first : BitVec 32) (entries : List PoolWrite)
  /-- WRITE_NIGHT (R119). -/
  | writeNight (by_ : Requester) (first : BitVec 32) (entries : List NightWrite)
  /-- WRITE_LABEL (R143). -/
  | writeLabel (by_ : Requester) (first : BitVec 32) (entries : List LabelWrite)
  /-- WRITE_SCHEDULE (R162). -/
  | writeSchedule (by_ : Requester) (first : BitVec 32) (entries : List ScheduleWrite)
  /-- WRITE_ALERTS (R178): the alert interval. -/
  | writeAlerts (by_ : Requester) (first : BitVec 32) (entries : List (BitVec 16))
  /-- WRITE_AGENT (R191): the lease. -/
  | writeAgent (by_ : Requester) (first : BitVec 32) (entries : List (BitVec 16))
  /-- SWAP (R33). -/
  | swap (by_ : Requester)
  /-- OPEN (R17). -/
  | openPart (by_ : Requester)
  /-- CLOSE (R17). -/
  | closePart (by_ : Requester)
  /-- RESTART (R18). -/
  | restart (by_ : Requester)
  /-- SET_CLOCK (R160). -/
  | setClock (by_ : Requester) (day : BitVec 16) (second : BitVec 32)
  /-- PROFILE (R166): Day 0, Night 1. -/
  | profile (by_ : Requester) (value : Byte)
  /-- LABELS (R166): open 0, closed 1. -/
  | labels (by_ : Requester) (value : Byte)
  /-- GUEST (R166): open 0, closed 1. -/
  | guest (by_ : Requester) (value : Byte)
  /-- CALL (R123). -/
  | call (by_ : Requester)
  /-- STOP (R135). -/
  | stop (by_ : Requester)
  /-- JOURNAL_DISCARD (R116). -/
  | journalDiscard (by_ : Requester)
  /-- ADJUST_QUEUES (R52). -/
  | adjustQueues (by_ : Requester) (limits : QueueLimitsWrite)
  /-- BAR (R80). -/
  | bar (by_ : Requester) (station : Station)
  /-- UNBAR (R80). -/
  | unbar (by_ : Requester) (station : Station)
  /-- COUNTERS_CONFIGURE (R172). -/
  | countersConfigure (by_ : Requester) (counters : Vector CounterWrite 8) (group : GroupControls)
  /-- COUNTERS_START (R172): the requester and the form byte. -/
  | countersStart (by_ : StartRequest)
  /-- COUNTERS_CLEAR (R172): the counter numbers named. -/
  | countersClear (by_ : Requester) (numbers : List Byte)
  /-- ALERT_CLEAR (R176): the source codes named. -/
  | alertClear (by_ : Requester) (sources : List Byte)
  /-- LABEL_CLEAR (R152). -/
  | labelClear (by_ : Requester)
  /-- CLAIM (R188). -/
  | claim (by_ : Requester)
  /-- RELEASE (R188). -/
  | release (by_ : Requester)
  /-- UNKNOWN_COMMAND (R183): the command code the request carried. -/
  | unknownCommand (by_ : Requester) (code : Byte)
  deriving DecidableEq, Repr

end Sys2Proof
end

