-- ==== Sys2Proof/Decode.lean ====
section
/-! DEFINITION. From bits and bytes to commands: `decodeTableWord` over the bits of spec/opcode_table.json (which gives
none), and the wire formats of the requests, night messages and base-station messages the part receives (R195 to
R197, R200, R201). Every decoder is total; what a message does not spell is answered by name. -/

namespace Sys2Proof

open Sys2Proof.Machine

/-- The command a word spells by the table's bits. No row of spec/opcode_table.json gives bits, so no word spells a
command. -/
def decodeTableWord (_nbits _w : Nat) : Option Instr := none

/-! ## Entries of a WRITE (R196): each in the order of its table's rule -/

/-- The base-station entry's fields (R3). -/
def readBaseStation : Reader BaseStation := do
  let station ← read48
  let address ← read32
  let service ← read16
  return { station, address, service }

/-- A PORTS entry (R3, R187). -/
def readPortsWrite : Reader PortsWrite := do
  let uplink ← read32
  let till ← read32
  let label ← read32
  let guest ← read32
  let office ← read32
  let nextHop ← readOpt read48
  let baseStation ← readOpt readBaseStation
  let managementPort ← readByte
  let managementType ← read16
  let agentService ← read16
  let nightService ← read16
  let labelService ← read16
  return { gateways := ⟨uplink, till, label, guest, office⟩, nextHop, baseStation, managementPort, managementType,
           agentService, nightService, labelService }

/-- An OFFICE STATIONS entry (R3). -/
def readOfficeStation : Reader OfficeStation := do
  let enabled ← readYesNo
  let station ← read48
  let address ← read32
  return { enabled, station, address }

/-- The two ends of a service range (R196). -/
def readRange : Reader (Service × Service) := do
  let low ← read16
  let high ← read16
  return (low, high)

/-- A WINDOW entry, hit count left out (R20, R196). -/
def readWindowWrite : Reader WindowWrite := do
  let enabled ← readYesNo
  let pinned ← readYesNo
  let sources ← readByte
  let key ← readByte
  let base ← read32
  let mask ← read32
  let protocol ← readOpt readByte
  let range ← readOpt readRange
  let action ← readByte
  let destination ← readByte
  let translate ← readOpt read32
  let uplinkClass ← readByte
  let mark ← readYesNo
  let offset ← readByte
  return { enabled, pinned, sources, key, base, mask, protocol, range, action, destination, translate, uplinkClass,
           mark, offset }

/-- A DEFAULTS entry, hit count left out (R22). -/
def readDefaultWrite : Reader DefaultWrite := do
  let action ← readByte
  let destination ← readByte
  let uplinkClass ← readByte
  return { action, destination, uplinkClass }

/-- An UPLINK entry (R53), in the order of its sentence (assumption 47). -/
def readUplinkWrite : Reader UplinkWrite := do
  let daySpacing ← readByte
  let drainSpacing ← readByte
  let residence ← read16
  return { daySpacing, drainSpacing, residence }

/-- One profile of a METERS entry (R58). -/
def readProfileWrite : Reader ProfileWrite := do
  let rate ← read32
  let depth ← read32
  let action ← readByte
  return { rate, depth, action }

/-- A METERS entry (R58). -/
def readMeterWrite : Reader MeterWrite := do
  let day ← readProfileWrite
  let night ← readProfileWrite
  return { day, night }

/-- One threshold of a THRESHOLDS entry (R66), in the order of its sentence (assumption 47). -/
def readThresholdWrite : Reader ThresholdWrite := do
  let value ← read32
  let enabled ← readYesNo
  let arm ← readYesNo
  return { value, enabled, arm }

/-- A THRESHOLDS entry: low, then high (R66). -/
def readPairWrite : Reader PairWrite := do
  let low ← readThresholdWrite
  let high ← readThresholdWrite
  return { low, high }

/-- A GUEST entry (R69). -/
def readGuestWrite : Reader GuestWrite := do
  let base ← read32
  let mask ← read32
  let minIdle ← read16
  let idleLimit ← read32
  let rate ← read32
  let depth ← read32
  return { base, mask, minIdle, idleLimit, rate, depth }

/-- A TILLS entry (R83). -/
def readTillWrite : Reader TillWrite := do
  let enabled ← readYesNo
  let station ← read48
  let address ← read32
  let openLimit ← readByte
  let holdOver ← readYesNo
  let lastAccepted ← readOpt read32
  return { enabled, station, address, openLimit, holdOver, lastAccepted }

/-- A TRACKER entry (R85). -/
def readTrackerWrite : Reader TrackerWrite := do
  let replyTimeout ← read16
  let lateWindow ← read32
  return { replyTimeout, lateWindow }

/-- A POOL entry (R110): the journal reserve, then the label reserve. R110 has no table and states no order (DESIGN CHOICE,
assumption 47). -/
def readPoolWrite : Reader PoolWrite := do
  let journalReserve ← read32
  let labelReserve ← read32
  return { journalReserve, labelReserve }

/-- A NIGHT entry (R119). -/
def readNightWrite : Reader NightWrite := do
  let collector ← read32
  let service ← read16
  let branch ← read16
  let epoch ← read32
  let followClock ← readYesNo
  let callTimeout ← read16
  let ackTimeout ← read16
  let settleTimeout ← read16
  let shortLimit ← readByte
  let longLimit ← readByte
  return { collector, service, branch, epoch, followClock, callTimeout, ackTimeout, settleTimeout, shortLimit,
           longLimit }

/-- A LABEL entry (R143). -/
def readLabelWrite : Reader LabelWrite := do
  let pacing ← readByte
  let attemptLimit ← readByte
  let outcomeTimeout ← read16
  return { pacing, attemptLimit, outcomeTimeout }

/-- A SCHEDULE entry (R162), in the order of its sentence (assumption 47). -/
def readScheduleWrite : Reader ScheduleWrite := do
  let enabled ← readYesNo
  let second ← read32
  let action ← readByte
  return { enabled, second, action }

/-! ## Requests (R195 to R197) -/

/-- The command a WRITE spells: the row of the table it names with its entries, UNKNOWN where the request holds fewer
entries than it states (R196), and WRITE itself for a read-only table or a table without meaning (R187). -/
def decodeWrite (q : Requester) (table : Byte) (first : BitVec 32) (count : BitVec 16) (data : Bytes) : Instr :=
  let entries {α : Type} (r : Reader α) (row : List α → Instr) : Instr :=
    match (readMany r count.toNat).fields data with
    | some es => row es
    | none => .unknownCommand q 0x04
  match table.toNat with
  | 1 => entries readPortsWrite (.writePorts q first)
  | 2 => entries readOfficeStation (.writeOfficeStations q first)
  | 3 => entries readWindowWrite (.writeWindow q .a first)
  | 4 => entries readWindowWrite (.writeWindow q .b first)
  | 5 => entries readDefaultWrite (.writeDefaults q .a first)
  | 6 => entries readDefaultWrite (.writeDefaults q .b first)
  | 7 => entries read32 (.writeBankIdentity q first)
  | 8 => entries readUplinkWrite (.writeUplink q first)
  | 9 => entries readMeterWrite (.writeMeters q first)
  | 10 => entries readPairWrite (.writeThresholds q first)
  | 11 => entries readGuestWrite (.writeGuest q first)
  | 13 => entries readTillWrite (.writeTills q first)
  | 14 => entries readTrackerWrite (.writeTracker q first)
  | 16 => entries readPoolWrite (.writePool q first)
  | 19 => entries readNightWrite (.writeNight q first)
  | 21 => entries readLabelWrite (.writeLabel q first)
  | 25 => entries readScheduleWrite (.writeSchedule q first)
  | 28 => entries read16 (.writeAlerts q first)
  | 29 => entries read16 (.writeAgent q first)
  | _ => .write q table first count data

/-- One counter of COUNTERS Configure (R197). -/
def readCounterWrite : Reader CounterWrite := do
  let kind ← readByte
  let qualifier ← readByte
  let condition ← readByte
  let run ← readYesNo
  return { kind, qualifier, condition, run }

/-- The fields of COUNTERS Configure (R197). -/
def readConfigure (q : Requester) : Reader Instr := do
  let c1 ← readCounterWrite
  let c2 ← readCounterWrite
  let c3 ← readCounterWrite
  let c4 ← readCounterWrite
  let c5 ← readCounterWrite
  let c6 ← readCounterWrite
  let c7 ← readCounterWrite
  let c8 ← readCounterWrite
  let globalEnable ← readYesNo
  let alertEnable1 ← readYesNo
  let alertEnable28 ← readYesNo
  let trigger ← readYesNo
  let freezeOnAlert ← readYesNo
  return .countersConfigure q #v[c1, c2, c3, c4, c5, c6, c7, c8]
    { globalEnable, alertEnable1, alertEnable28, trigger, freezeOnAlert }

/-- A count of one byte and that many bytes (R195, R197). -/
def readCounted : Reader Bytes := do
  let n ← readByte
  readMany readByte n.toNat

/-- The fields of the COUNTERS command (R195, R197): the form, then the form's own fields. Start has none, and neither
has a form without meaning, which is refused as a value (R183, assumption 24). -/
def readCounters (q : Requester) : Reader Instr := do
  let form ← readByte
  match form.toNat with
  | 1 => readConfigure q
  | 3 => return .countersClear q (← readCounted)
  | _ => return .countersStart ⟨q, form⟩

/-- The fields of a WRITE (R195): table code, first index, entry count, entries. -/
def readWrite (q : Requester) : Reader Instr := fun bs =>
  match (do return (← readByte, ← read32, ← read16) : Reader _) bs with
  | some ((table, first, count), data) => some (decodeWrite q table first count data, [])
  | none => none

/-- The fields of the command with a given code (R195), or no reader where the code is not listed. -/
def commandReader (q : Requester) (code : Byte) : Option (Reader Instr) :=
  match code.toNat with
  | 0x01 => some (return .identify q)
  | 0x02 => some (do return .read q (← readByte) (← read32) (← read16))
  | 0x03 => some (do return .readNext q (← read16))
  | 0x04 => some (readWrite q)
  | 0x05 => some (return .swap q)
  | 0x06 => some (return .openPart q)
  | 0x07 => some (return .closePart q)
  | 0x08 => some (do return .setClock q (← read16) (← read32))
  | 0x0A => some (do return .labels q (← readByte))
  | 0x0B => some (do return .guest q (← readByte))
  | 0x0C => some (return .call q)
  | 0x0D => some (return .stop q)
  | 0x0E => some (return .journalDiscard q)
  | 0x0F => some (do return .adjustQueues q ⟨← read16, ← read16, ← read16, ← read16⟩)
  | 0x10 => some (return .restart q)
  | 0x11 => some (do return .profile q (← readByte))
  | 0x13 => some (do return .bar q (← read48))
  | 0x14 => some (do return .unbar q (← read48))
  | 0x15 => some (readCounters q)
  | 0x16 => some (do return .alertClear q (← readCounted))
  | 0x17 => some (return .labelClear q)
  | 0x18 => some (return .claim q)
  | 0x19 => some (return .release q)
  | _ => none

/-- The command a queued request spells (R195): tag, command code, an unused byte, the command's fields. A code that
is not listed, or fields cut short, spell UNKNOWN_COMMAND (R183). -/
def decodeRequest (r : Request) : Instr :=
  match commandReader ⟨word16 r.body 0, r.reply⟩ (byteAt r.body 2) with
  | none => .unknownCommand ⟨word16 r.body 0, r.reply⟩ (byteAt r.body 2)
  | some reader =>
    match reader.fields (r.body.drop 4) with
    | some i => i
    | none => .unknownCommand ⟨word16 r.body 0, r.reply⟩ (byteAt r.body 2)

/-! ## Night messages (R200, R201) -/

/-- A label update in a LABELS message (R201). -/
def readLabelWire : Reader LabelWire := do
  let number ← read24
  let page ← readByte
  let flags ← readByte
  let length ← readByte
  let item ← read64
  let text ← readMany readByte length.toNat
  return { number, page, flash := flags.getLsbD 0, item := if flags.getLsbD 1 then some item else none, text }

/-- The label updates until the end of the payload; none where the last one is cut short (R192, R201). The first
argument bounds how many are read. -/
def readLabelWires : Nat → Bytes → Option (List LabelWire)
  | _, [] => some []
  | 0, _ :: _ => none
  | n + 1, bs =>
    match readLabelWire bs with
    | none => none
    | some (u, rest) => (readLabelWires n rest).map (u :: ·)

/-- The night message a payload from a source spells: none where its kind is not one the engine takes or it is
shorter than the fixed fields of its kind (test 3 of R120). -/
def decodeNight (station : Station) (address : NetAddr) (service : Service) (payload : Bytes) : Option Instr :=
  if payload.length < 8 then none else
  let source : NightSource := ⟨station, address, service, word16 payload 2, word32 payload 4⟩
  match (byteAt payload 0).toNat with
  | 6 => some (.wake source)
  | 7 =>
    if payload.length < 16 then none
    else some (.grant source (byteAt payload 8) (word16 payload 10) (word32 payload 12))
  | 8 => if payload.length < 12 then none else some (.ack source (word32 payload 8))
  | 9 =>
    if payload.length < 12 then none
    else (readLabelWires payload.length (payload.drop 12)).map (.labelsMessage source (word32 payload 8))
  | 10 => some (.finish source)
  | _ => none

/-! ## Base-station messages (R201) -/

/-- The base-station message a payload spells: none where its kind is not READY or OUTCOME or it is shorter than the
fixed fields of its kind (R146). -/
def decodeBaseStation (station : Station) (payload : Bytes) : Option Instr :=
  match (byteAt payload 0).toNat with
  | 1 => if payload.length < 2 then none else some (.ready station (byteAt payload 1))
  | 3 =>
    if payload.length < 5 then none
    else some (.outcome station (byteAt payload 1 ++ word16 payload 2) (byteAt payload 4))
  | _ => none

end Sys2Proof
end

