-- ==== Sys2Proof/Machine/State.lean ====
section
/-! DEFINITION. The state of the Porzel 6416, block by block, as plain data; the value of every piece of it after
device reset; and the reasons a command could stop (there are none). -/

namespace Sys2Proof.Machine

/-- The reasons a command could stop the machine. The manual gives the part no trap, no error state and no stop: a
bad frame is dropped, a bad request is refused by a status, and an event that cannot occur changes nothing. So no
constructor stands here, and no meaning answers a fault (safe). -/
inductive Fault where
  deriving DecidableEq, Repr

/-- The reasons a command could be refused by the model. -/
inductive Refusal where
  /-- A row of the table without a meaning yet. Raised by exec's arm of that row alone; safe: the run stops. No arm
  raises it: every row has its meaning. -/
  | notModelled (mnemonic : String)
  deriving DecidableEq, Repr

/-! ## Events offered to the counters (R169, R170) -/

/-- The drop reasons, in the order of R170. -/
inductive DropReason where
  | ttlExpired | noStation | unknownTill | unsupported | queueFull | guestSpoof | guestFull | guestIsolated
  | guestConflict | barred | closed | denied | unsuitable
  deriving DecidableEq, Repr

/-- The meters a nonconformance names (R170). -/
inductive NonconformingMeter where
  | guest | office | transfer | station
  deriving DecidableEq, Repr

/-- The tracker events (R170). -/
inductive TrackerEvent where
  | tracked | untracked | tillLimit | late | expired | abandoned | holdOverNotice
  deriving DecidableEq, Repr

/-- The spool events (R170). -/
inductive SpoolEvent where
  | accepted | duplicate | gap | full | tooLong | malformed
  deriving DecidableEq, Repr

/-- The night events (R170). -/
inductive NightEvent where
  | recordsSent | staleAck | nightForeign
  deriving DecidableEq, Repr

/-- The label events (R170). -/
inductive LabelEvent where
  | delivered | undelivered | superseded | strayOutcome | labelLost
  deriving DecidableEq, Repr

/-- The four uplink queues (R50). -/
inductive UplinkQueue where
  | urgent | transfer | office | guest
  deriving DecidableEq, Repr

/-- The event kinds, in the order of R170. -/
inductive EventKind where
  | received | receiveError | windowHit | defaultHit | drop | nonconformance | tracker | spool | night | label | guest
  | departure | overResidence | agent
  deriving DecidableEq, Repr

/-- An event's kind together with its qualifier (R170). -/
inductive EventName where
  | received (segment : Segment)
  | receiveError (segment : Segment)
  | windowHit (index : Fin 64)
  | defaultHit (segment : Segment)
  | drop (reason : DropReason)
  | nonconformance (meter : NonconformingMeter)
  | tracker (event : TrackerEvent)
  | spool (event : SpoolEvent)
  | night (event : NightEvent)
  | label (event : LabelEvent)
  | evicted
  | departure (queue : UplinkQueue)
  | overResidence (queue : UplinkQueue)
  | requestDropped
  deriving DecidableEq, Repr

/-- The kind of an event (R170). -/
def EventName.kind : EventName → EventKind
  | .received _ => .received
  | .receiveError _ => .receiveError
  | .windowHit _ => .windowHit
  | .defaultHit _ => .defaultHit
  | .drop _ => .drop
  | .nonconformance _ => .nonconformance
  | .tracker _ => .tracker
  | .spool _ => .spool
  | .night _ => .night
  | .label _ => .label
  | .evicted => .guest
  | .departure _ => .departure
  | .overResidence _ => .overResidence
  | .requestDropped => .agent

/-- What an event carries besides its name and weight (R169): mark, window index, source segment, source station. -/
structure Origin where
  mark : Bool
  windowIndex : Option (Fin 64)
  segment : Segment
  station : Option Station
  deriving DecidableEq, Repr

/-- One event as it is offered to the counters (R169). `queue` is the uplink queue that a Queue-Full event names (R51);
no selector asks for it (R170). -/
structure Occurrence where
  name : EventName
  weight : Nat
  origin : Origin
  queue : Option UplinkQueue
  deriving DecidableEq, Repr

/-! ## Port units (R2 to R15) -/

/-- What a queued frame is, as far as a CLOSED part asks (R16). -/
inductive FrameKind where
  /-- A received frame that is forwarded. -/
  | forwarded
  /-- An ARP reply (R11). -/
  | arpReply
  /-- A management response (R12). -/
  | response
  /-- An alert frame (R178). -/
  | alert
  /-- An acceptance, refusal or hold-over notice (R95, R105). -/
  | notice
  /-- A night message other than OPEN (R121). -/
  | night
  /-- An OPEN (R121), which takes its source address as it departs (R123). -/
  | opening
  /-- A DELIVER message (R148). -/
  | deliver
  deriving DecidableEq, Repr

/-- A frame in a queue: its kind, its bytes from the destination station address to the end of the payload, its
entry tick and its event origin (R5, R27, R50). -/
structure Frame where
  kind : FrameKind
  bytes : Bytes
  entryTick : Tick
  origin : Origin
  deriving DecidableEq, Repr

/-- The four egress queues (R15). -/
structure Egress where
  till : List Frame
  label : List Frame
  guest : List Frame
  office : List Frame
  deriving DecidableEq, Repr

/-- The port settings but the station address and the office station list (R3). -/
structure PortSettings where
  gateways : PerSegment NetAddr
  nextHop : Option Station
  baseStation : Option BaseStation
  managementPort : Segment
  managementType : BitVec 16
  agentService : Service
  nightService : Service
  labelService : Service
  deriving DecidableEq, Repr

/-! ## Classifier (R20 to R38) -/

/-- Which network address of a frame a window entry compares and translates (R20). -/
inductive Key where
  | destination | source
  deriving DecidableEq, Repr

/-- The four actions of a window entry (R20). -/
inductive Action where
  | forward | track | spool | drop
  deriving DecidableEq, Repr

/-- The uplink class of an entry or default (R20). -/
inductive UplinkClass where
  | urgent | office
  deriving DecidableEq, Repr

/-- A window entry (R20). -/
structure WindowEntry where
  enabled : Bool
  pinned : Bool
  sources : PerSegment Bool
  key : Key
  base : NetAddr
  mask : BitVec 32
  protocol : Option Byte
  range : Option (Service × Service)
  action : Action
  destination : Segment
  translate : Option NetAddr
  uplinkClass : UplinkClass
  mark : Bool
  offset : Byte
  hits : BitVec 32
  deriving DecidableEq, Repr

/-- A segment default (R22): `forwards` is the action Forward, otherwise Drop. -/
structure SegmentDefault where
  forwards : Bool
  destination : Segment
  uplinkClass : UplinkClass
  hits : BitVec 32
  deriving DecidableEq, Repr

/-- One bank of the window table (R20, R22, R23). -/
structure Bank where
  entries : Vector WindowEntry 64
  defaults : PerSegment SegmentDefault
  identity : BitVec 32
  deriving DecidableEq, Repr

/-- The classifier: which bank is active, and both banks. -/
structure Classifier where
  active : BankId
  bankA : Bank
  bankB : Bank
  deriving DecidableEq, Repr

/-! ## Uplink scheduler (R50 to R57) -/

/-- A value for each of the four uplink queues. -/
structure PerQueue (α : Type) where
  urgent : α
  transfer : α
  office : α
  guest : α
  deriving DecidableEq, Repr

/-- Which of TRANSFER and OFFICE goes next (R54). -/
inductive Turn where
  | transfer | office
  deriving DecidableEq, Repr

/-- The frame held in the uplink transmitter, with the departure tick recorded when it was taken (R54). -/
structure Transmission where
  frame : Frame
  departureTick : Tick
  deriving DecidableEq, Repr

/-- The uplink scheduler and transmitter (R50 to R56). -/
structure Uplink where
  queues : PerQueue (List Frame)
  limits : PerQueue Nat
  transmitting : Option Transmission
  turn : Turn
  guestGap : Nat
  daySpacing : Nat
  drainSpacing : Nat
  residence : Nat
  deriving DecidableEq, Repr

/-! ## Share meters and threshold pairs (R58 to R68) -/

/-- What a share meter does with a nonconforming frame (R58, R60). -/
inductive MeterAction where
  | drop | defer
  deriving DecidableEq, Repr

/-- One profile of a share meter (R58): bytes per ms, bytes, action. -/
structure Profile where
  rate : Nat
  depth : Nat
  action : MeterAction
  deriving DecidableEq, Repr

/-- A frame in a Defer hold queue, with the uplink queue it is bound for (R60). -/
structure HeldFrame where
  frame : Frame
  queue : UplinkQueue
  deriving DecidableEq, Repr

/-- A share meter (R58). -/
structure ShareMeter where
  level : Nat
  lastTick : Tick
  day : Profile
  night : Profile
  hold : List HeldFrame
  deriving DecidableEq, Repr

/-- The three share meters. -/
structure Meters where
  guest : ShareMeter
  office : ShareMeter
  transfer : ShareMeter
  deriving DecidableEq, Repr

/-- The result of a threshold comparison (R67). -/
inductive ThresholdResult where
  | below | above
  deriving DecidableEq, Repr

/-- One threshold of a pair (R66). -/
structure Threshold where
  value : Nat
  enabled : Bool
  armed : Bool
  resultValid : Bool
  last : ThresholdResult
  deriving DecidableEq, Repr

/-- A threshold pair (R66). -/
structure ThresholdPair where
  low : Threshold
  high : Threshold
  deriving DecidableEq, Repr

/-- The five threshold pairs, in index order (R66). -/
inductive PairId where
  | guestMeter | officeMeter | transferMeter | journal | label
  deriving DecidableEq, Repr

/-- A threshold pair for each watched value. -/
structure Thresholds where
  guestMeter : ThresholdPair
  officeMeter : ThresholdPair
  transferMeter : ThresholdPair
  journal : ThresholdPair
  label : ThresholdPair
  deriving DecidableEq, Repr

/-! ## Guest table (R69 to R82) -/

/-- The guest settings (R69): times in seconds. -/
structure GuestSettings where
  base : NetAddr
  mask : BitVec 32
  minIdle : Nat
  idleLimit : Nat
  rate : Nat
  depth : Nat
  deriving DecidableEq, Repr

/-- A guest table entry (R70). -/
structure GuestEntry where
  station : Station
  address : NetAddr
  firstSeen : Tick
  lastActive : Tick
  level : Nat
  meterTick : Tick
  frames : Nat
  bytes : Nat
  barred : Bool
  deriving DecidableEq, Repr

/-- The guest settings and the guest table, head first (R70). -/
structure GuestUnit where
  settings : GuestSettings
  table : List GuestEntry
  deriving DecidableEq, Repr

/-! ## Request tracker (R83 to R100) -/

/-- A till table entry (R83). Till number n stands at index n - 1. -/
structure TillEntry where
  enabled : Bool
  station : Station
  address : NetAddr
  openLimit : Nat
  holdOver : Bool
  lastAccepted : Option Seq
  deriving DecidableEq, Repr

/-- The state of an open request entry (R86). -/
inductive RequestState where
  | waiting | heldOver
  deriving DecidableEq, Repr

/-- An open request entry (R86). `till` is the till number less 1. -/
structure OpenRequest where
  till : Fin 32
  tillService : Service
  tag : BitVec 32
  originalAddress : NetAddr
  originalService : Service
  serverAddress : NetAddr
  serverService : Service
  tagOffset : Byte
  windowIndex : Option (Fin 64)
  mark : Bool
  sentTick : Tick
  resends : Nat
  state : RequestState
  deadline : Tick
  deriving DecidableEq, Repr

/-- The tracker settings and the open request table (R85, R86): times in ms. -/
structure Tracker where
  replyTimeout : Nat
  lateWindow : Nat
  slots : Vector (Option OpenRequest) 64
  deriving DecidableEq, Repr

/-! ## Journal and buffer pool (R101 to R118) -/

/-- A reading of the store clock. -/
structure StoreTime where
  day : Nat
  second : Nat
  deriving DecidableEq, Repr

/-- A journal record (R112). `till` is the till number less 1. -/
structure JournalRecord where
  sequence : Seq
  till : Fin 32
  number : Seq
  time : Option StoreTime
  payload : Bytes
  deriving DecidableEq, Repr

/-- The journal and its pointers (R113). -/
structure Journal where
  records : List JournalRecord
  oldest : Seq
  nextToSend : Seq
  nextSeq : Seq
  deriving DecidableEq, Repr

/-- The buffer pool's counts and reserves, in blocks (R108, R110). -/
structure Pool where
  free : Nat
  journalHeld : Nat
  labelHeld : Nat
  journalReserve : Nat
  labelReserve : Nat
  deriving DecidableEq, Repr

/-! ## Night transfer engine (R119 to R141) -/

/-- A running timer: its start tick and its duration in ms (R19, R122). A stopped timer is `none`. -/
structure Timer where
  start : Tick
  duration : Nat
  deriving DecidableEq, Repr

/-- The night settings (R119): call and ack timeout in ms, settle timeout in seconds. -/
structure NightSettings where
  collector : NetAddr
  service : Service
  branch : BitVec 16
  epoch : BitVec 32
  followClock : Bool
  callTimeout : Nat
  ackTimeout : Nat
  settleTimeout : Nat
  shortLimit : Nat
  longLimit : Nat
  deriving DecidableEq, Repr

/-- The six engine states (R122). -/
inductive NightState where
  | idle | calling | draining | settling | backoff | failed
  deriving DecidableEq, Repr

/-- The night transfer engine (R119, R122). -/
structure Night where
  settings : NightSettings
  state : NightState
  attempts : Nat
  shortRetries : Nat
  window : Nat
  callTimer : Option Timer
  ackTimer : Option Timer
  settleTimer : Option Timer
  backoffTimer : Option Timer
  retryTotal : Nat
  rollover : Bool
  generator : BitVec 16
  deriving DecidableEq, Repr

/-! ## Label delivery engine (R142 to R158) -/

/-- A label update (R142). -/
structure LabelUpdate where
  number : BitVec 24
  page : Byte
  text : Bytes
  flash : Bool
  item : Option (BitVec 64)
  attempts : Nat
  firstQueued : Tick
  sentTick : Option Tick
  deadline : Option Tick
  deriving DecidableEq, Repr

/-- Why an update was given up (R152). -/
inductive GivenUp where
  | absent | busy | rejected
  deriving DecidableEq, Repr

/-- A record of the undelivered list (R152). -/
structure UndeliveredRecord where
  number : BitVec 24
  page : Byte
  attempts : Nat
  last : GivenUp
  deriving DecidableEq, Repr

/-- The label settings (R143): times in ms. -/
structure LabelSettings where
  pacing : Nat
  attemptLimit : Nat
  outcomeTimeout : Nat
  deriving DecidableEq, Repr

/-- The label delivery engine (R142 to R152): lists head first, the undelivered list oldest first. -/
structure LabelEngine where
  settings : LabelSettings
  queue : List LabelUpdate
  inFlight : List LabelUpdate
  undelivered : List UndeliveredRecord
  credit : Nat
  pacingTimer : Option Timer
  deriving DecidableEq, Repr

/-! ## Store clock and schedule (R159 to R168) -/

/-- The store clock (R159). `due` is the model's own: sub-second wraps whose second advance is not yet taken
(assumption 5). -/
structure Clock where
  set : Bool
  time : StoreTime
  sub : Nat
  due : Nat
  deriving DecidableEq, Repr

/-- The schedule actions, in the order of R162. -/
inductive ScheduleAction where
  | dayProfile | nightProfile | labelsOpen | labelsClosed | guestOpen | guestClosed | call
  deriving DecidableEq, Repr

/-- A schedule entry (R162). -/
structure ScheduleEntry where
  enabled : Bool
  second : Nat
  action : ScheduleAction
  deriving DecidableEq, Repr

/-- What last set a level setting (R164). -/
inductive LevelOrigin where
  | reset
  | entry (index : Fin 16)
  | replay (index : Fin 16)
  | command
  deriving DecidableEq, Repr

/-- Day or Night (R164). -/
inductive DayNight where
  | day | night
  deriving DecidableEq, Repr

/-- Open or closed: the values of the label window and the guest state (R164). -/
inductive Gate where
  | opened | closed
  deriving DecidableEq, Repr

/-- A level setting: a value and an origin (R164). -/
structure Level (α : Type) where
  value : α
  origin : LevelOrigin
  deriving DecidableEq, Repr

/-- The three level settings (R164). -/
structure Levels where
  profile : Level DayNight
  labelWindow : Level Gate
  guestState : Level Gate
  deriving DecidableEq, Repr

/-! ## Event counters and alert unit (R169 to R180) -/

/-- A counter's selector: none, a kind with any qualifier, or a kind with one qualifier (R170). -/
inductive Selector where
  | nothing
  | any (kind : EventKind)
  | exactly (name : EventName)
  deriving DecidableEq, Repr

/-- A counter's condition on the mark (R171). -/
inductive Condition where
  | always | markedOnly | unmarkedOnly
  deriving DecidableEq, Repr

/-- An event counter (R171). -/
structure Counter where
  value : BitVec 32
  overflow : Bool
  selector : Selector
  condition : Condition
  run : Bool
  deriving DecidableEq, Repr

/-- Whether counters 2 to 8 are held behind the trigger (R171). -/
inductive TriggerState where
  | waiting | released
  deriving DecidableEq, Repr

/-- What the sample record holds (R175). `counter` is the counter number less 1. -/
structure Sample where
  counter : Fin 8
  segment : Segment
  windowIndex : Option (Fin 64)
  station : Option Station
  time : Option StoreTime
  deriving DecidableEq, Repr

/-- The sample record (R175). A record that was empty when a counter alert made it reported has no fields to keep
(R174). -/
inductive SampleRecord where
  | empty
  | held (sample : Sample)
  | reported (sample : Option Sample)
  deriving DecidableEq, Repr

/-- The event counters (R171). Counter number n stands at index n - 1. -/
structure CounterUnit where
  counters : Vector Counter 8
  group : GroupControls
  frozen : Bool
  triggerState : TriggerState
  sample : SampleRecord
  deriving DecidableEq, Repr

/-- The alert sources, in the order of R176. -/
inductive AlertSource where
  | guestMeterLow | guestMeterHigh | officeMeterLow | officeMeterHigh | transferMeterLow | transferMeterHigh
  | journalLow | journalHigh | labelQueueLow | labelQueueHigh | nightFailed | labelLost | counter1 | counter28
  deriving DecidableEq, Repr

/-- The mark of a pending source (R176). -/
inductive AlertMark where
  | new | reported
  deriving DecidableEq, Repr

/-- The alert unit (R176 to R178). `pending` holds for each source code less 1 its mark, or none when it is not
pending: a set with each source at most once. -/
structure AlertUnit where
  pending : Vector (Option AlertMark) 14
  destination : Option Station
  timer : Option Timer
  number : BitVec 16
  interval : Nat
  deriving DecidableEq, Repr

/-! ## Management agent (R181 to R191) -/

/-- CLOSED or RUNNING (R16). -/
inductive PartState where
  | closed | running
  deriving DecidableEq, Repr

/-- The tables of R187, in its order. -/
inductive Table where
  | ports | officeStations | windowA | windowB | defaultsA | defaultsB | bankIdentity | uplink | meters | thresholds
  | guest | guestStations | tills | tracker | openRequests | pool | journal | journalRecords | night | nightStatus
  | label | labelQueue | labelInFlight | labelUndelivered | schedule | clock | counters | alerts | agent
  deriving DecidableEq, Repr

/-- A read cursor that is set: a table and a position in it (R186). -/
structure Cursor where
  table : Table
  position : Nat
  deriving DecidableEq, Repr

/-- The management agent (R181 to R191): the lease in seconds. -/
structure Agent where
  partState : PartState
  queue : List Request
  holder : Option Party
  leaseTimer : Option Timer
  lease : Nat
  localCursor : Option Cursor
  remoteCursor : Option Cursor
  deriving DecidableEq, Repr

/-! ## The whole machine -/

/-- Everything the manual gives the part, and the commands that are waiting. `agingDue`, `clock.due`, `freeSerial`
and `pending` are the model's own (assumptions 5, 8 and 2). -/
structure State where
  station : Station
  tick : Tick
  agingDue : Bool
  links : PerSegment (Option LinkSpeed)
  egress : Egress
  ports : PortSettings
  office : Vector OfficeStation 8
  classifier : Classifier
  uplink : Uplink
  meters : Meters
  thresholds : Thresholds
  guest : GuestUnit
  tills : Vector TillEntry 32
  tracker : Tracker
  journal : Journal
  pool : Pool
  night : Night
  label : LabelEngine
  clock : Clock
  schedule : Vector ScheduleEntry 16
  levels : Levels
  counters : CounterUnit
  alerts : AlertUnit
  agent : Agent
  freeSerial : Nat
  pending : List Instr
  deriving DecidableEq, Repr

/-! ## Device reset -/

/-- R38: a window entry after device reset. -/
def WindowEntry.reset : WindowEntry where
  enabled := false
  pinned := false
  sources := PerSegment.all false
  key := .destination
  base := 0
  mask := 0
  protocol := none
  range := none
  action := .drop
  destination := .uplink
  translate := none
  uplinkClass := .office
  mark := false
  offset := 0
  hits := 0

/-- R38: a bank after device reset. -/
def Bank.reset : Bank where
  entries := Vector.replicate 64 WindowEntry.reset
  defaults := PerSegment.all { forwards := false, destination := .uplink, uplinkClass := .office, hits := 0 }
  identity := 0

/-- R64: a share meter after device reset, with its action. -/
def ShareMeter.reset (action : MeterAction) : ShareMeter where
  level := 1536
  lastTick := 0
  day := { rate := 0, depth := 1536, action := action }
  night := { rate := 0, depth := 1536, action := action }
  hold := []

/-- R68: a threshold pair after device reset. -/
def ThresholdPair.reset : ThresholdPair where
  low := { value := 0, enabled := false, armed := false, resultValid := false, last := .below }
  high := { value := 0, enabled := false, armed := false, resultValid := false, last := .below }

/-- R126: the generator's seed, the sum of the station address's three 16-bit words. -/
def generatorSeed (station : Station) : BitVec 16 :=
  station.extractLsb' 32 16 + station.extractLsb' 16 16 + station.extractLsb' 0 16

/-- The part after device reset, for a given station address, with given commands waiting: every block's
device-reset values (R2, R3, R15, R19, R38, R52, R53, R57, R64, R68, R69, R82, R83, R85, R98, R110, R118, R119,
R122, R140, R143, R158, R168, R180, R191). -/
def State.resetWith (station : Station) (pending : List Instr) : State where
  station := station
  tick := 0
  agingDue := false
  links := PerSegment.all none
  egress := ⟨[], [], [], []⟩
  ports := {
    gateways := PerSegment.all 0
    nextHop := none
    baseStation := none
    managementPort := .office
    managementType := 0x88B5
    agentService := 7416
    nightService := 7417
    labelService := 7418 }
  office := Vector.replicate 8 { enabled := false, station := 0, address := 0 }
  classifier := { active := .a, bankA := Bank.reset, bankB := Bank.reset }
  uplink := {
    queues := ⟨[], [], [], []⟩
    limits := ⟨32, 64, 80, 80⟩
    transmitting := none
    turn := .transfer
    guestGap := 15
    daySpacing := 4
    drainSpacing := 8
    residence := 50 }
  meters := ⟨ShareMeter.reset .drop, ShareMeter.reset .drop, ShareMeter.reset .defer⟩
  thresholds :=
    ⟨ThresholdPair.reset, ThresholdPair.reset, ThresholdPair.reset, ThresholdPair.reset, ThresholdPair.reset⟩
  guest := {
    settings := { base := 0, mask := 0xFFFFFFFF, minIdle := 60, idleLimit := 1800, rate := 0, depth := 1536 }
    table := [] }
  tills := Vector.replicate 32
    { enabled := false, station := 0, address := 0, openLimit := 2, holdOver := false, lastAccepted := none }
  tracker := { replyTimeout := 8000, lateWindow := 30000, slots := Vector.replicate 64 none }
  journal := { records := [], oldest := 1, nextToSend := 1, nextSeq := 1 }
  pool := { free := 131072, journalHeld := 0, labelHeld := 0, journalReserve := 98304, labelReserve := 16384 }
  night := {
    settings := {
      collector := 0
      service := 7417
      branch := 0
      epoch := 0
      followClock := false
      callTimeout := 2000
      ackTimeout := 5000
      settleTimeout := 60
      shortLimit := 3
      longLimit := 7 }
    state := .idle
    attempts := 0
    shortRetries := 0
    window := 0
    callTimer := none
    ackTimer := none
    settleTimer := none
    backoffTimer := none
    retryTotal := 0
    rollover := false
    generator := generatorSeed station }
  label := {
    settings := { pacing := 20, attemptLimit := 5, outcomeTimeout := 10000 }
    queue := []
    inFlight := []
    undelivered := []
    credit := 0
    pacingTimer := none }
  clock := { set := false, time := ⟨0, 0⟩, sub := 0, due := 0 }
  schedule := Vector.replicate 16 { enabled := false, second := 0, action := .dayProfile }
  levels := { profile := ⟨.day, .reset⟩, labelWindow := ⟨.closed, .reset⟩, guestState := ⟨.closed, .reset⟩ }
  counters := {
    counters := Vector.replicate 8
      { value := 0, overflow := false, selector := .nothing, condition := .always, run := false }
    group := ⟨false, false, false, false, false⟩
    frozen := false
    triggerState := .released
    sample := .empty }
  alerts := {
    pending := Vector.replicate 14 none
    destination := none
    timer := none
    number := 0
    interval := 1000 }
  agent := {
    partState := .closed
    queue := []
    holder := none
    leaseTimer := none
    lease := 600
    localCursor := none
    remoteCursor := none }
  freeSerial := 0
  pending := pending

/-- The machine right after device reset: the part with the station address of Config, no command waiting. -/
def State.reset : State := State.resetWith Config.stationAddress []

end Sys2Proof.Machine
end

