-- ==== Sys2Proof/Machine/Operands.lean ====
section
/-! DEFINITION. The operand forms: named values and their codes on the wire (R195 to R198), clamping (R1), and the
written entries taken as entries of State, or refused where they hold a value without meaning. -/

namespace Sys2Proof.Machine

/-! ## Named values: numbered from 0 in the order the specifying rule lists them (R196) -/

/-- The segments by number (R22). -/
def segments : List Segment := [.uplink, .till, .label, .guest, .office]

/-- The table codes' order, PORTS 1 first (R195). -/
def tables : List Table :=
  [.ports, .officeStations, .windowA, .windowB, .defaultsA, .defaultsB, .bankIdentity, .uplink, .meters, .thresholds,
   .guest, .guestStations, .tills, .tracker, .openRequests, .pool, .journal, .journalRecords, .night, .nightStatus,
   .label, .labelQueue, .labelInFlight, .labelUndelivered, .schedule, .clock, .counters, .alerts, .agent]

/-- The alert source codes' order, GUEST-Meter-Low 1 first (R198). -/
def alertSources : List AlertSource :=
  [.guestMeterLow, .guestMeterHigh, .officeMeterLow, .officeMeterHigh, .transferMeterLow, .transferMeterHigh,
   .journalLow, .journalHigh, .labelQueueLow, .labelQueueHigh, .nightFailed, .labelLost, .counter1, .counter28]

/-- The schedule actions (R162). -/
def scheduleActions : List ScheduleAction :=
  [.dayProfile, .nightProfile, .labelsOpen, .labelsClosed, .guestOpen, .guestClosed, .call]

/-- The window actions (R20). -/
def windowActions : List Action := [.forward, .track, .spool, .drop]

/-- The keys (R20). -/
def keys : List Key := [.destination, .source]

/-- The uplink classes (R20). -/
def uplinkClasses : List UplinkClass := [.urgent, .office]

/-- The meter actions (R58). -/
def meterActions : List MeterAction := [.drop, .defer]

/-- The conditions (R171, R197). -/
def conditions : List Condition := [.always, .markedOnly, .unmarkedOnly]

/-- The drop reasons (R170). -/
def dropReasons : List DropReason :=
  [.ttlExpired, .noStation, .unknownTill, .unsupported, .queueFull, .guestSpoof, .guestFull, .guestIsolated,
   .guestConflict, .barred, .closed, .denied, .unsuitable]

/-- The uplink queues (R170). -/
def uplinkQueues : List UplinkQueue := [.urgent, .transfer, .office, .guest]

/-- The event kinds, Received 1 first (R170, R197). -/
def eventKinds : List EventKind :=
  [.received, .receiveError, .windowHit, .defaultHit, .drop, .nonconformance, .tracker, .spool, .night, .label, .guest,
   .departure, .overResidence, .agent]

/-- The qualifiers of a kind in their order, each as the event it names (R170, R197): a segment qualifier is its
segment number plus 1, a Window hit qualifier its index plus 1, the others numbered from 1. -/
def qualifiersOf : EventKind → List EventName
  | .received => segments.map .received
  | .receiveError => segments.map .receiveError
  | .windowHit => (List.finRange 64).map .windowHit
  | .defaultHit => segments.map .defaultHit
  | .drop => dropReasons.map .drop
  | .nonconformance => [NonconformingMeter.guest, .office, .transfer, .station].map .nonconformance
  | .tracker =>
    [TrackerEvent.tracked, .untracked, .tillLimit, .late, .expired, .abandoned, .holdOverNotice].map .tracker
  | .spool => [SpoolEvent.accepted, .duplicate, .gap, .full, .tooLong, .malformed].map .spool
  | .night => [NightEvent.recordsSent, .staleAck, .nightForeign].map .night
  | .label => [LabelEvent.delivered, .undelivered, .superseded, .strayOutcome, .labelLost].map .label
  | .guest => [.evicted]
  | .departure => uplinkQueues.map .departure
  | .overResidence => uplinkQueues.map .overResidence
  | .agent => [.requestDropped]

/-- The segment a byte names. -/
def segmentOf (b : Byte) : Option Segment := segments[b.toNat]?

/-- A segment's number (R22). -/
def segmentNumber (g : Segment) : Nat := segments.idxOf g

/-- The table a code names (R195). -/
def tableOf (b : Byte) : Option Table := if b = 0 then none else tables[b.toNat - 1]?

/-- A table's code (R195). -/
def tableCode (t : Table) : Nat := tables.idxOf t + 1

/-- The place of an alert source among the pending marks: its code less 1 (R198). -/
def alertIndex : AlertSource → Fin 14
  | .guestMeterLow => 0
  | .guestMeterHigh => 1
  | .officeMeterLow => 2
  | .officeMeterHigh => 3
  | .transferMeterLow => 4
  | .transferMeterHigh => 5
  | .journalLow => 6
  | .journalHigh => 7
  | .labelQueueLow => 8
  | .labelQueueHigh => 9
  | .nightFailed => 10
  | .labelLost => 11
  | .counter1 => 12
  | .counter28 => 13

/-- The alert source a code names (R198). -/
def alertSourceOf (b : Byte) : Option AlertSource := if b = 0 then none else alertSources[b.toNat - 1]?

/-- The selector a kind and qualifier byte name (R197): kind 0 is none, qualifier 0 is any. -/
def selectorOf (kind qualifier : Byte) : Option Selector :=
  if kind = 0 then some .nothing
  else match eventKinds[kind.toNat - 1]? with
    | none => none
    | some k =>
      if qualifier = 0 then some (.any k)
      else ((qualifiersOf k)[qualifier.toNat - 1]?).map .exactly

/-- A selector's kind and qualifier bytes (R197). -/
def selectorCodes : Selector → Nat × Nat
  | .nothing => (0, 0)
  | .any k => (eventKinds.idxOf k + 1, 0)
  | .exactly e => (eventKinds.idxOf e.kind + 1, (qualifiersOf e.kind).idxOf e + 1)

/-! ## Clamping (R1) -/

/-- R1: a value outside its range is clamped to the nearer end. -/
def clamp (low high v : Nat) : Nat := if v < low then low else if high < v then high else v

/-! ## Written entries -/

/-- A set of segments, one bit per segment number (R196). A bit that names no segment has no meaning. -/
def sourcesOf (b : Byte) : Option (PerSegment Bool) :=
  if b.toNat ≥ 32 then none
  else some ⟨b.getLsbD 0, b.getLsbD 1, b.getLsbD 2, b.getLsbD 3, b.getLsbD 4⟩

/-- The byte of a set of segments (R196). -/
def sourcesByte (p : PerSegment Bool) : Byte :=
  BitVec.ofNat 8 (p.uplink.toNat + 2 * p.till.toNat + 4 * p.label.toNat + 8 * p.guest.toNat + 16 * p.office.toNat)

/-- R21: a written window entry, hit count 0; none where it is refused with BAD-VALUE. -/
def windowEntryOf (w : WindowWrite) : Option WindowEntry := do
  let sources ← sourcesOf w.sources
  let key ← keys[w.key.toNat]?
  let action ← windowActions[w.action.toNat]?
  let destination ← segmentOf w.destination
  let uplinkClass ← uplinkClasses[w.uplinkClass.toNat]?
  let rangeGood := match w.range with
    | none => true
    | some (low, high) => decide (low.toNat ≤ high.toNat)
  if rangeGood && (action != .track || destination == .uplink) then
    some {
      enabled := w.enabled, pinned := w.pinned, sources, key, base := w.base, mask := w.mask, protocol := w.protocol,
      range := w.range, action, destination, translate := w.translate, uplinkClass, mark := w.mark,
      offset := w.offset, hits := 0 }
  else none

/-- R22: a written default, hit count 0; none where it is refused with BAD-VALUE. The actions are numbered Drop 0 and
Forward 1, the order in which R22 lists them (assumption 22). -/
def segmentDefaultOf (w : DefaultWrite) : Option SegmentDefault := do
  let forwards ← [false, true][w.action.toNat]?
  let destination ← segmentOf w.destination
  let uplinkClass ← uplinkClasses[w.uplinkClass.toNat]?
  some { forwards, destination, uplinkClass, hits := 0 }

/-- R58: a written profile, rate and depth clamped; none where its action has no meaning. -/
def profileOf (w : ProfileWrite) : Option Profile := do
  let action ← meterActions[w.action.toNat]?
  some { rate := clamp 0 131071 w.rate.toNat, depth := clamp 1536 1048576 w.depth.toNat, action }

/-- Whether a written profile was clamped (R58). -/
def profileAdjusted (w : ProfileWrite) : Bool :=
  clamp 0 131071 w.rate.toNat != w.rate.toNat || clamp 1536 1048576 w.depth.toNat != w.depth.toNat

/-- R162: a written schedule entry, its second clamped; none where its action has no meaning. -/
def scheduleEntryOf (w : ScheduleWrite) : Option ScheduleEntry := do
  let action ← scheduleActions[w.action.toNat]?
  some { enabled := w.enabled, second := clamp 0 86399 w.second.toNat, action }

/-- R83: a written till entry, its open limit clamped. -/
def tillEntryOf (w : TillWrite) : TillEntry where
  enabled := w.enabled
  station := w.station
  address := w.address
  openLimit := clamp 1 4 w.openLimit.toNat
  holdOver := w.holdOver
  lastAccepted := w.lastAccepted

/-- R66: a written threshold. The value (clamped to the pair's range) and the enable are always replaced; armed and
result-valid only with the arm flag. -/
def Threshold.written (t : Threshold) (range : Nat) (w : ThresholdWrite) : Threshold where
  value := clamp 0 range w.value.toNat
  enabled := w.enabled
  armed := t.armed || w.arm
  resultValid := t.resultValid && !w.arm
  last := t.last

end Sys2Proof.Machine
end

