-- ==== Sys2Proof/Machine/Ops.lean ====
section
/-! DEFINITION. The named operations over State that every block uses: reading and replacing one of several like
things, timers, the clock reading, frames and their origins. -/

namespace Sys2Proof.Machine

/-! ## One of several -/

/-- The segment of an egress port. -/
def egressSegment : EgressPort → Segment
  | .till => .till
  | .label => .label
  | .guest => .guest
  | .office => .office

/-- The frames in a port's egress queue. -/
def Egress.get (e : Egress) : EgressPort → List Frame
  | .till => e.till
  | .label => e.label
  | .guest => e.guest
  | .office => e.office

/-- The egress queues with one port's replaced. -/
def Egress.set (e : Egress) (p : EgressPort) (q : List Frame) : Egress :=
  match p with
  | .till => { e with till := q }
  | .label => { e with label := q }
  | .guest => { e with guest := q }
  | .office => { e with office := q }

/-- The value of one uplink queue. -/
def PerQueue.get {α : Type} (p : PerQueue α) : UplinkQueue → α
  | .urgent => p.urgent
  | .transfer => p.transfer
  | .office => p.office
  | .guest => p.guest

/-- The four values with one queue's replaced. -/
def PerQueue.set {α : Type} (p : PerQueue α) (q : UplinkQueue) (x : α) : PerQueue α :=
  match q with
  | .urgent => { p with urgent := x }
  | .transfer => { p with transfer := x }
  | .office => { p with office := x }
  | .guest => { p with guest := x }

/-- The frames held in the four uplink queues together (R51). -/
def queuedTotal (q : PerQueue (List Frame)) : Nat :=
  q.urgent.length + q.transfer.length + q.office.length + q.guest.length

/-- One of the share meters. -/
def Meters.get (m : Meters) : Meter → ShareMeter
  | .guest => m.guest
  | .office => m.office
  | .transfer => m.transfer

/-- The share meters with one replaced. -/
def Meters.set (m : Meters) (i : Meter) (x : ShareMeter) : Meters :=
  match i with
  | .guest => { m with guest := x }
  | .office => { m with office := x }
  | .transfer => { m with transfer := x }

/-- One of the threshold pairs. -/
def Thresholds.get (t : Thresholds) : PairId → ThresholdPair
  | .guestMeter => t.guestMeter
  | .officeMeter => t.officeMeter
  | .transferMeter => t.transferMeter
  | .journal => t.journal
  | .label => t.label

/-- The threshold pairs with one replaced. -/
def Thresholds.set (t : Thresholds) (i : PairId) (x : ThresholdPair) : Thresholds :=
  match i with
  | .guestMeter => { t with guestMeter := x }
  | .officeMeter => { t with officeMeter := x }
  | .transferMeter => { t with transferMeter := x }
  | .journal => { t with journal := x }
  | .label => { t with label := x }

/-- One of the banks. -/
def Classifier.bank (c : Classifier) : BankId → Bank
  | .a => c.bankA
  | .b => c.bankB

/-- The classifier with one bank replaced. -/
def Classifier.setBank (c : Classifier) (i : BankId) (b : Bank) : Classifier :=
  match i with
  | .a => { c with bankA := b }
  | .b => { c with bankB := b }

/-- The other bank. -/
def BankId.other : BankId → BankId
  | .a => .b
  | .b => .a

/-! ## Links and the part state -/

/-- Whether a port is UP (R2). -/
def State.up (s : State) (g : Segment) : Bool := (s.links.get g).isSome

/-- Whether the part is RUNNING (R16). -/
def State.running (s : State) : Bool := s.agent.partState == .running

/-- R3: an unset gateway address (0.0.0.0) matches no network address. -/
def State.isGateway (s : State) (g : Segment) (a : NetAddr) : Bool :=
  a != 0 && s.ports.gateways.get g == a

/-- Whether an address is the gateway address of any segment (R10). -/
def State.isAnyGateway (s : State) (a : NetAddr) : Bool := segments.any (s.isGateway · a)

/-! ## Time -/

/-- R1: elapsed milliseconds between two tick values, (now - since) mod 2^32. -/
def elapsed (now since : Tick) : Nat := (now - since).toNat

/-- R19: a running timer has reached its expiry. -/
def timerDue (now : Tick) : Option Timer → Bool
  | none => false
  | some t => decide (t.duration ≤ elapsed now t.start)

/-- The time left on a timer in ms, 0 when it is stopped or due. -/
def timerLeft (now : Tick) : Option Timer → Nat
  | none => 0
  | some t => t.duration - elapsed now t.start

/-- R19: a recorded deadline has been reached. Every duration is below 2^31 ms, so a deadline not yet reached lies
less than 2^31 ms ahead. -/
def deadlineReached (now deadline : Tick) : Bool := decide (elapsed now deadline < 2 ^ 31)

/-- A timer started now for a duration. -/
def State.timer (s : State) (duration : Nat) : Option Timer := some ⟨s.tick, duration⟩

/-- The store clock's reading, absent while the clock is unset (R159). -/
def State.storeTime (s : State) : Option StoreTime := if s.clock.set then some s.clock.time else none

/-- R1, serial order: `a` is after `b`. -/
def serialAfter (a b : Seq) : Bool := decide (1 ≤ (a - b).toNat ∧ (a - b).toNat ≤ 2 ^ 31 - 1)

/-! ## Frames and origins -/

/-- R1: the counted length of a frame. -/
def Frame.counted (f : Frame) : Nat := f.bytes.length

/-- R2: the bits a frame of a counted length is sent as, the frame check sequence included. -/
def transmissionBits (counted : Nat) : Nat := (counted + 4) * 8

/-- The origin of an event that concerns a frame the part built for a segment, or no frame (R169). -/
def builtOrigin (g : Segment) : Origin := ⟨false, none, g, none⟩

/-- The origin of an event that concerns a received frame without a lookup copy (R27, R169). -/
def receivedOrigin (g : Segment) (station : Station) : Origin := ⟨false, none, g, some station⟩

/-- An event of a weight that names no uplink queue (R169). -/
def weighted (name : EventName) (weight : Nat) (origin : Origin) : Occurrence := ⟨name, weight, origin, none⟩

/-- An event of weight 1 that names no uplink queue (R169). -/
def occur (name : EventName) (origin : Origin) : Occurrence := weighted name 1 origin

/-! ## Journal pointers (R113, R122) -/

/-- The sequence of the last record appended (R113). -/
def Journal.newest (j : Journal) : Seq := j.nextSeq - 1

/-- R122: outstanding, (next-to-send - oldest) mod 2^32. -/
def Journal.outstanding (j : Journal) : Nat := (j.nextToSend - j.oldest).toNat

/-- R104: the blocks of a record with a payload of a given length. -/
def blocksFor (payload : Nat) : Nat := (16 + payload + 255) / 256

/-- The blocks a record holds (R104, R108). -/
def JournalRecord.blocks (r : JournalRecord) : Nat := blocksFor r.payload.length

/-- R109: whether a journal allocation of k blocks succeeds. -/
def Pool.journalFits (p : Pool) (k : Nat) : Bool :=
  decide (k + (p.labelReserve - p.labelHeld) ≤ p.free)

/-- R109: whether a label allocation of 1 block succeeds. -/
def Pool.labelFits (p : Pool) : Bool :=
  decide (1 + (p.journalReserve - p.journalHeld) ≤ p.free)

/-- R121: the label allocations that would succeed one after another. -/
def Pool.freeLabelBlocks (p : Pool) : Nat := p.free - (p.journalReserve - p.journalHeld)

/-- A journal allocation of k blocks taken (R109). -/
def Pool.takeJournal (p : Pool) (k : Nat) : Pool :=
  { p with free := p.free - k, journalHeld := p.journalHeld + k }

/-- k journal blocks freed (R111). -/
def Pool.freeJournal (p : Pool) (k : Nat) : Pool :=
  { p with free := p.free + k, journalHeld := p.journalHeld - k }

/-- A label allocation taken (R109). -/
def Pool.takeLabel (p : Pool) : Pool := { p with free := p.free - 1, labelHeld := p.labelHeld + 1 }

/-- k label blocks freed (R111). -/
def Pool.freeLabel (p : Pool) (k : Nat) : Pool := { p with free := p.free + k, labelHeld := p.labelHeld - k }

end Sys2Proof.Machine
end

