-- ==== Sys2Proof/Machine/Build.lean ====
section
/-! DEFINITION. The frames the part builds, in the bytes of 13_wire_formats.md: Ethernet and IPv4 headers, ARP
replies, management responses, alert frames, notices, night messages and DELIVER messages. -/

namespace Sys2Proof.Machine

/-- R192: a built frame is padded with zero bytes to a counted length of 60. -/
def padFrame (bs : Bytes) : Bytes := bs ++ List.replicate (60 - bs.length) 0

/-- An Ethernet frame: destination, the part's own address as source (R3), type, contents, padding. -/
def ethernetFrame (destination source : Station) (type : BitVec 16) (contents : Bytes) : Bytes :=
  padFrame (be48 destination ++ be48 source ++ be16 type ++ contents)

/-- The UDP datagram the part builds, with a correct checksum (R7). -/
def udpDatagram (source destination : NetAddr) (sourceService destinationService : Service) (payload : Bytes) :
    Bytes :=
  let plain := be16 sourceService ++ be16 destinationService ++ num16 (8 + payload.length) ++ [0, 0] ++ payload
  patch plain 6 (be16 (udpChecksumBuilt source destination plain))

/-- The IPv4 header of the n-th frame the part originates, its checksum field given: no options, TTL 64, fragment
offset 0, more-fragments no, protocol UDP (R13, R193). Type of service, identification and the two high flags are
free (assumption 8). -/
def ipv4Header (n : Nat) (source destination : NetAddr) (length : Nat) (checksum : BitVec 16) : Bytes :=
  [0x45, Config.originatedService n] ++ num16 (20 + length) ++ be16 (Config.originatedIdentification n)
    ++ be16 (Config.originatedFlags n ++ (0 : BitVec 14)) ++ [64, 17] ++ be16 checksum ++ be32 source
    ++ be32 destination

/-- The n-th IPv4 UDP frame the part originates, to a resolved station. -/
def udpFrame (n : Nat) (destinationStation sourceStation : Station) (source destination : NetAddr)
    (sourceService destinationService : Service) (payload : Bytes) : Bytes :=
  let datagram := udpDatagram source destination sourceService destinationService payload
  let checksum := ~~~ onesSum (wordsOf (ipv4Header n source destination datagram.length 0))
  ethernetFrame destinationStation sourceStation 0x0800
    (ipv4Header n source destination datagram.length checksum ++ datagram)

/-- R123: a frame as `udpFrame` builds it, with another source address: written in its header, and both checksums built
again over it (R7, R193). -/
def readdressed (source : NetAddr) (bs : Bytes) : Bytes :=
  let header := patch (patch ((bs.drop 14).take 20) 10 [0, 0]) 12 (be32 source)
  let datagram := patch ((bs.drop 34).take ((word16 bs 16).toNat - 20)) 6 [0, 0]
  bs.take 14 ++ patch header 10 (be16 (~~~ onesSum (wordsOf header)))
    ++ patch datagram 6 (be16 (udpChecksumBuilt source (word32 bs 30) datagram)) ++ bs.drop (14 + (word16 bs 16).toNat)

/-- R11, R194: the contents of an ARP reply. -/
def arpReplyContents (ownStation : Station) (gateway : NetAddr) (targetStation : Station) (target : NetAddr) : Bytes :=
  [0, 1, 8, 0, 6, 4, 0, 2] ++ be48 ownStation ++ be32 gateway ++ be48 targetStation ++ be32 target

/-- R195: a response part: tag, command code, status, part number, last-part mark, two unused bytes, the fields. -/
def responseBytes (tag : BitVec 16) (code status part : Nat) (last : Bool) (fields : Bytes) : Bytes :=
  be16 tag ++ num8 code ++ num8 status ++ num8 part ++ yesNo last ++ [0, 0] ++ fields

/-- R198, R200: a store time, 0xFFFF and 0xFFFFFF when absent. -/
def storeTimeBytes : Option StoreTime → Bytes
  | none => [0xFF, 0xFF, 0xFF, 0xFF, 0xFF]
  | some t => num16 t.day ++ be24 (BitVec.ofNat 24 t.second)

/-- R198: the fields of an alert sample. -/
def sampleBytes (x : Sample) : Bytes :=
  num8 (x.counter.val + 1) ++ num8 (segmentNumber x.segment)
    ++ (match x.windowIndex with | none => [0xFF, 0xFF] | some i => num16 i.val)
    ++ optField 6 be48 x.station ++ storeTimeBytes x.time

/-- R198: an alert source's code and mark. -/
def pendingBytes (a : AlertSource) : Option AlertMark → Bytes
  | none => []
  | some .new => num8 (alertIndex a + 1) ++ [1]
  | some .reported => num8 (alertIndex a + 1) ++ [0]

/-- R198: the source count and the sources of an alert frame, in the order of their codes (assumption 26). -/
def sourcesBytes (pending : Vector (Option AlertMark) 14) : Bytes :=
  num8 (pending.toList.countP (·.isSome)) ++ alertSources.flatMap fun a => pendingBytes a pending[alertIndex a]

/-- R199: an acceptance or refusal notice. -/
def recordNoticeBytes (kind code : Nat) (number sequence : Seq) : Bytes :=
  num8 kind ++ num8 code ++ [0, 0] ++ be32 number ++ be32 sequence

/-- R199: a hold-over notice: code NO-REPLY 6 or LINK-DOWN 7. -/
def holdOverBytes (code : Nat) (tag : BitVec 32) (address : NetAddr) (resends : Nat) : Bytes :=
  num8 3 ++ num8 code ++ [0, 0] ++ be32 tag ++ be32 address ++ num8 resends

/-- R200: the start of every night message: kind, an unused byte, branch number, epoch. -/
def nightHeader (kind : Nat) (branch : BitVec 16) (epoch : BitVec 32) : Bytes :=
  num8 kind ++ [0] ++ be16 branch ++ be32 epoch

/-- R200: a journal record in a RECORDS message: 16 header bytes and the payload. -/
def recordBytes (r : JournalRecord) : Bytes :=
  be32 r.sequence ++ be32 r.number ++ storeTimeBytes r.time ++ num8 (r.till.val + 1) ++ num16 r.payload.length
    ++ r.payload

/-- R201: a label update in a DELIVER message. -/
def labelUpdateBytes (u : LabelUpdate) : Bytes :=
  be24 u.number ++ [u.page] ++ num8 (u.flash.toNat + 2 * u.item.isSome.toNat) ++ num8 u.text.length
    ++ be64 (u.item.getD 0) ++ u.text

end Sys2Proof.Machine
end

