-- ==== Sys2Proof/Machine/Flags.lean ====
section
/-! DEFINITION. The flags of the part: what an offered event does to the counters, the sample record and the pending
set (R171, R173, R175, R176), and what a comparison does to a threshold (R67). -/

namespace Sys2Proof.Machine

/-! ## The pending set -/

/-- R176: a raised source joins the pending set, or is marked new again. -/
def AlertUnit.raise (a : AlertUnit) (source : AlertSource) : AlertUnit :=
  { a with pending := a.pending.set (alertIndex source) (some .new) }

/-- Whether any source is pending (R178). -/
def AlertUnit.anyPending (a : AlertUnit) : Bool := a.pending.toList.any (·.isSome)

/-! ## Counters -/

/-- R170: whether a selector accepts an event. -/
def Selector.accepts (sel : Selector) (name : EventName) : Bool :=
  match sel with
  | .nothing => false
  | .any k => k == name.kind
  | .exactly n => n == name

/-- R171: whether a condition accepts an event's mark. An event with no window index is accepted under Always
alone. -/
def Condition.accepts (c : Condition) (o : Origin) : Bool :=
  match c with
  | .always => true
  | .markedOnly => o.windowIndex.isSome && o.mark
  | .unmarkedOnly => o.windowIndex.isSome && !o.mark

/-- R171: whether counter i accepts an event. -/
def CounterUnit.accepts (u : CounterUnit) (i : Fin 8) (o : Occurrence) : Bool :=
  u.group.globalEnable && u.counters[i].run && !u.frozen
    && (i == 0 || !u.group.trigger || u.triggerState == .released)
    && u.counters[i].selector.accepts o.name && u.counters[i].condition.accepts o.origin

/-- R173: whether the addition of a weight overflows counter i. -/
def CounterUnit.overflows (u : CounterUnit) (i : Fin 8) (weight : Nat) : Bool :=
  !u.counters[i].overflow && decide (2 ^ 31 ≤ u.counters[i].value.toNat + weight)

/-- R173: the alert enable that counter i answers to. -/
def CounterUnit.alertEnable (u : CounterUnit) (i : Fin 8) : Bool :=
  if i = 0 then u.group.alertEnable1 else u.group.alertEnable28

/-- R173: the source an overflow of counter i raises. -/
def counterSource (i : Fin 8) : AlertSource := if i = 0 then .counter1 else .counter28

/-- R171: counter i with a weight added, mod 2^32, and its overflow flag (R173). -/
def CounterUnit.added (u : CounterUnit) (i : Fin 8) (weight : Nat) : CounterUnit :=
  { u with counters := u.counters.set i { u.counters[i] with
      value := u.counters[i].value + BitVec.ofNat 32 weight
      overflow := u.counters[i].overflow || u.overflows i weight } }

/-- R175: an overflow that raises a source captures its event when the record is empty or reported. -/
def SampleRecord.capture (r : SampleRecord) (x : Sample) : SampleRecord :=
  match r with
  | .held y => .held y
  | _ => .held x

/-- R175: what the sample record captures of an event that overflows counter i. -/
def sampleOf (o : Occurrence) (s : State) (i : Fin 8) : Sample where
  counter := i
  segment := o.origin.segment
  windowIndex := o.origin.windowIndex
  station := o.origin.station
  time := s.storeTime

/-- R171, R173, R175: one counter considers one event. -/
def countOne (o : Occurrence) (s : State) (i : Fin 8) : State :=
  if s.counters.accepts i o then
    let u := s.counters.added i o.weight
    if s.counters.overflows i o.weight then
      let u := if i = 0 then { u with triggerState := .released } else u
      if s.counters.alertEnable i then
        { s with
          counters := { u with sample := u.sample.capture (sampleOf o s i) }
          alerts := s.alerts.raise (counterSource i) }
      else { s with counters := u }
    else { s with counters := u }
  else s

/-- R169, R173: every counter considers an event at its one offering, in counter number order. The alert unit's send
test follows it (`offer`). -/
def countEvent (o : Occurrence) (s : State) : State := (List.finRange 8).foldl (countOne o) s

/-! ## Thresholds (R67) -/

/-- The result of the high threshold for a value. -/
def highResult (t : Threshold) (v : Nat) : ThresholdResult := if v > t.value then .above else .below

/-- The result of the low threshold for a value. -/
def lowResult (t : Threshold) (v : Nat) : ThresholdResult := if v < t.value then .below else .above

/-- A threshold after a comparison that gave a result, firing or not: a firing disarms it. -/
def Threshold.compared (t : Threshold) (r : ThresholdResult) (fires : Bool) : Threshold :=
  if t.enabled && t.armed then { t with resultValid := true, last := r, armed := !fires } else t

/-- Whether the high threshold fires at a value. -/
def highFires (t : Threshold) (v : Nat) : Bool :=
  t.enabled && t.armed && highResult t v == .above && (!t.resultValid || t.last == .below)

/-- Whether the low threshold fires at a value. -/
def lowFires (t : Threshold) (v : Nat) : Bool :=
  t.enabled && t.armed && lowResult t v == .below && (!t.resultValid || t.last == .above)

/-- A pair after the comparison of a value (R67). -/
def ThresholdPair.compared (p : ThresholdPair) (v : Nat) : ThresholdPair where
  low := p.low.compared (lowResult p.low v) (lowFires p.low v)
  high := p.high.compared (highResult p.high v) (highFires p.high v)

/-- The alert sources of a pair, low and high (R66). -/
def pairSources : PairId → AlertSource × AlertSource
  | .guestMeter => (.guestMeterLow, .guestMeterHigh)
  | .officeMeter => (.officeMeterLow, .officeMeterHigh)
  | .transferMeter => (.transferMeterLow, .transferMeterHigh)
  | .journal => (.journalLow, .journalHigh)
  | .label => (.labelQueueLow, .labelQueueHigh)

/-- The value a pair watches (R66). -/
def State.watched (s : State) : PairId → Nat
  | .guestMeter => s.meters.guest.level
  | .officeMeter => s.meters.office.level
  | .transferMeter => s.meters.transfer.level
  | .journal => s.pool.journalHeld
  | .label => s.pool.labelHeld

/-- The pair that watches a share meter's level (R66). -/
def meterPair : Meter → PairId
  | .guest => .guestMeter
  | .office => .officeMeter
  | .transfer => .transferMeter

end Sys2Proof.Machine
end

