-- ==== Sys2Proof/Machine/Queues.lean ====
section
/-! DEFINITION. The egress queues (R15, R16), the uplink queues and departures (R50 to R56), and the alert unit's send
test (R174, R178), with what follows from them: how any block offers an event, raises a source and compares a watched
value. The queue operations take as an argument how they offer their events, because an alert frame that meets a full
queue offers a drop itself: `countEvent` inside a send, `offer` everywhere else. -/

namespace Sys2Proof.Machine

/-! ## Joining a queue -/

/-- R16: the frames a queue accepts in CLOSED: ARP replies, management responses and alert frames. -/
def FrameKind.acceptedInClosed : FrameKind → Bool
  | .arpReply => true
  | .response => true
  | .alert => true
  | _ => false

/-- A dropped frame's event (R1, R170). -/
def dropped (reason : DropReason) (origin : Origin) : Occurrence := occur (.drop reason) origin

/-- R51: the Queue-Full event of an uplink queue, which it names. -/
def queueFull (q : UplinkQueue) (origin : Origin) : Occurrence := { dropped .queueFull origin with queue := some q }

/-- R15, R16: a frame presented to an egress queue. -/
def presentEgressWith (offer : Occurrence → State → State) (p : EgressPort) (f : Frame) (s : State) : State :=
  if !s.running && !f.kind.acceptedInClosed then offer (dropped .closed f.origin) s
  else if !s.up (egressSegment p) then offer (dropped .noStation f.origin) s
  else if (s.egress.get p).length < 64 then { s with egress := s.egress.set p (s.egress.get p ++ [f]) }
  else offer (dropped .queueFull f.origin) s

/-- R55: the spacing in force. -/
def State.spacing (s : State) : Nat :=
  if s.night.state = .draining then s.uplink.drainSpacing else s.uplink.daySpacing

/-- R55: the queue the turn picks among TRANSFER and OFFICE, when one of them holds a frame. -/
def turnChoice (u : Uplink) : Option UplinkQueue :=
  match u.turn with
  | .transfer =>
    if u.queues.transfer ≠ [] then some .transfer else if u.queues.office ≠ [] then some .office else none
  | .office =>
    if u.queues.office ≠ [] then some .office else if u.queues.transfer ≠ [] then some .transfer else none

/-- R55: the queue chosen at a departure, by the first case that applies. -/
def chooseQueue (u : Uplink) (spacing : Nat) : Option UplinkQueue :=
  if u.queues.urgent ≠ [] then some .urgent
  else if u.queues.guest ≠ [] ∧ spacing - 1 ≤ u.guestGap then some .guest
  else match turnChoice u with
    | some q => some q
    | none => if u.queues.guest ≠ [] then some .guest else none

/-- R55: the turn after a departure. -/
def turnAfter (t : Turn) : UplinkQueue → Turn
  | .transfer => .office
  | .office => .transfer
  | _ => t

/-- R55: the guest gap after a departure, held at 15. -/
def gapAfter (gap : Nat) : UplinkQueue → Nat
  | .guest => 0
  | _ => min 15 (gap + 1)

/-- R123: a frame as it departs under an UPLINK gateway address. An OPEN carries that address as its source, 0.0.0.0 while
it is unset; any other frame is as it was queued (R50). That an OPEN takes a set address at its departure too is read from
R123, which states the unset one alone (DEDUCED, assumption 44). -/
def Frame.departing (f : Frame) (gateway : NetAddr) : Frame :=
  if f.kind = .opening then { f with bytes := readdressed gateway f.bytes } else f

/-- R54, R55: the uplink with the head frame of a queue taken into transmission under an UPLINK gateway address, and the
departure tick recorded. -/
def Uplink.departed (u : Uplink) (gateway : NetAddr) (now : Tick) (q : UplinkQueue) (f : Frame) (rest : List Frame) :
    Uplink :=
  { u with
    queues := u.queues.set q rest
    transmitting := some ⟨f.departing gateway, now⟩
    turn := turnAfter u.turn q
    guestGap := gapAfter u.guestGap q }

/-- R54 to R56: a departure, when the transmitter is free and a queue holds a frame. -/
def departWith (offer : Occurrence → State → State) (s : State) : State :=
  if s.up .uplink && s.uplink.transmitting.isNone then
    match chooseQueue s.uplink s.spacing with
    | none => s
    | some q =>
      match s.uplink.queues.get q with
      | [] => s
      | f :: rest =>
        let s' := offer (occur (.departure q) f.origin)
          { s with uplink := s.uplink.departed s.ports.gateways.uplink s.tick q f rest }
        if s.uplink.residence < elapsed s.tick f.entryTick then offer (occur (.overResidence q) f.origin) s' else s'
  else s

/-- R51: whether an uplink queue has room for one more frame. -/
def Uplink.hasRoom (u : Uplink) (q : UplinkQueue) : Bool :=
  decide ((u.queues.get q).length < u.limits.get q ∧ queuedTotal u.queues < 256)

/-- R51, R54: a frame presented to an uplink queue. A frame that joins while the transmitter is free departs at
once. A Queue-Full event names the queue. -/
def presentUplinkWith (offer : Occurrence → State → State) (q : UplinkQueue) (f : Frame) (s : State) : State :=
  if !s.running && !f.kind.acceptedInClosed then offer (dropped .closed f.origin) s
  else if s.uplink.hasRoom q then
    departWith offer
      { s with uplink := { s.uplink with queues := s.uplink.queues.set q (s.uplink.queues.get q ++ [f]) } }
  else offer (queueFull q f.origin) s

/-- R12: a frame that carries its own station address, on a port: the port's egress queue, or URGENT on UPLINK. -/
def presentOnWith (offer : Occurrence → State → State) (port : Segment) (f : Frame) (s : State) : State :=
  match port with
  | .uplink => presentUplinkWith offer .urgent f s
  | .till => presentEgressWith offer .till f s
  | .label => presentEgressWith offer .label f s
  | .guest => presentEgressWith offer .guest f s
  | .office => presentEgressWith offer .office f s

/-! ## The alert unit (R174, R178) -/

/-- R178: the conditions of a send event besides the alert destination. -/
def State.alertReady (s : State) : Bool :=
  s.alerts.anyPending && s.up s.ports.managementPort && s.alerts.timer.isNone

/-- R174: whether a pending counter source is marked new. -/
def AlertUnit.newCounterSource (a : AlertUnit) : Bool :=
  a.pending[alertIndex .counter1] == some .new || a.pending[alertIndex .counter28] == some .new

/-- R178: the sample an alert frame carries: the record's, when a counter source is new and the record is held. -/
def alertSample (newSource : Bool) : SampleRecord → Option Sample
  | .held x => if newSource then some x else none
  | _ => none

/-- R192, R198: the sample of an alert frame: its presence byte, and its 16 bytes, zeros when absent. -/
def alertSampleBytes (newSource : Bool) (r : SampleRecord) : Bytes := optField 16 sampleBytes (alertSample newSource r)

/-- R178, R198: the alert frame built at a send event for a destination. -/
def State.alertFrame (s : State) (destination : Station) : Frame where
  kind := .alert
  bytes := ethernetFrame destination s.station s.ports.managementType
    (responseBytes 0 0x80 0 0 true
      (be16 s.alerts.number ++ be32 s.tick ++ storeTimeBytes s.storeTime ++ sourcesBytes s.alerts.pending
        ++ alertSampleBytes s.alerts.newCounterSource s.counters.sample))
  entryTick := s.tick
  origin := builtOrigin s.ports.managementPort

/-- R175: the fields a sample record holds. -/
def SampleRecord.fields : SampleRecord → Option Sample
  | .empty => none
  | .held x => some x
  | .reported x => x

/-- R174, R175: the sample record at a counter alert: reported, its fields kept. -/
def SampleRecord.report (r : SampleRecord) : SampleRecord := .reported r.fields

/-- R174: the effects of a counter alert on the counters. -/
def CounterUnit.counterAlert (u : CounterUnit) : CounterUnit :=
  { u with
    group := { u.group with alertEnable1 := false, alertEnable28 := false }
    triggerState := .released
    frozen := u.frozen || u.group.freezeOnAlert
    sample := u.sample.report }

/-- R178: the alert unit after a send: every pending source reported, the number raised, the timer started. -/
def AlertUnit.sent (a : AlertUnit) (now : Tick) : AlertUnit :=
  { a with
    pending := a.pending.map fun m => m.map fun _ => AlertMark.reported
    number := a.number + 1
    timer := some ⟨now, a.interval⟩ }

/-- R178: the send test, and the send event when its conditions hold. The frame is presented once the marks, the
number, the effects of R174 and the timer are taken (assumption 9). -/
def alertTest (s : State) : State :=
  match s.alerts.destination with
  | none => s
  | some d =>
    if s.alertReady then
      presentOnWith countEvent s.ports.managementPort (s.alertFrame d)
        { s with
          alerts := s.alerts.sent s.tick
          counters := if s.alerts.newCounterSource then s.counters.counterAlert else s.counters }
    else s

/-- An event offered by a block: the counters consider it, then the send test is taken (R169, R173, R178). -/
def offer (o : Occurrence) (s : State) : State := alertTest (countEvent o s)

/-- R176: a source raised, and the send test after it (R178). -/
def raise (source : AlertSource) (s : State) : State := alertTest { s with alerts := s.alerts.raise source }

/-- R67: the comparison of a pair with the value an event left, and what its firings raise. Where both thresholds fire,
low is raised before high: the manual gives no order (DESIGN CHOICE, assumption 42). -/
def comparePair (i : PairId) (s : State) : State :=
  let p := s.thresholds.get i
  let v := s.watched i
  let s1 := { s with thresholds := s.thresholds.set i (p.compared v) }
  let s2 := if lowFires p.low v then raise (pairSources i).1 s1 else s1
  if highFires p.high v then raise (pairSources i).2 s2 else s2

/-- R67: an event that left a watched value other than `before` gives one comparison; one that left it as it was
gives none. -/
def compareChanged (i : PairId) (before : Nat) (s : State) : State :=
  if s.watched i = before then s else comparePair i s

/-! ## The queue operations as every block uses them -/

/-- A frame presented to an egress queue (R15, R16). -/
def presentEgress (p : EgressPort) (f : Frame) (s : State) : State := presentEgressWith offer p f s

/-- A frame presented to an uplink queue (R51). -/
def presentUplink (q : UplinkQueue) (f : Frame) (s : State) : State := presentUplinkWith offer q f s

/-- A frame with a station address of its own, on a port (R12). -/
def presentOn (port : Segment) (f : Frame) (s : State) : State := presentOnWith offer port f s

/-- A departure (R54). -/
def depart (s : State) : State := departWith offer s

end Sys2Proof.Machine
end

