-- ==== Sys2Proof/Machine/Meters.lean ====
section
/-! DEFINITION. Share meters and station meters: refill, presentation, Defer, release, the joint test of a guest frame
and profile changes (R58 to R64, R75 to R77). -/

namespace Sys2Proof.Machine

/-- R58: the profile of a meter that a level setting puts in use. -/
def ShareMeter.profile (m : ShareMeter) : DayNight → Profile
  | .day => m.day
  | .night => m.night

/-- The profile in use of a share meter (R58). -/
def State.profileInUse (s : State) (i : Meter) : Profile := (s.meters.get i).profile s.levels.profile.value

/-- R59, first two steps: a level refilled at a rate to a depth, the elapsed time held at 65,535. -/
def refillLevel (rate depth level : Nat) (now last : Tick) : Nat :=
  min depth (level + rate * min 65535 (elapsed now last))

/-- R59, first three steps: a share meter refilled to a tick under a profile. -/
def ShareMeter.refill (m : ShareMeter) (p : Profile) (now : Tick) : ShareMeter :=
  { m with level := refillLevel p.rate p.depth m.level now m.lastTick, lastTick := now }

/-- R76: a station meter refilled to a tick. -/
def GuestEntry.refill (e : GuestEntry) (g : GuestSettings) (now : Tick) : GuestEntry :=
  { e with level := refillLevel g.rate g.depth e.level now e.meterTick, meterTick := now }

/-- The state with one share meter replaced, and the comparison of its pair (R67). -/
def State.setMeter (s : State) (i : Meter) (m : ShareMeter) : State :=
  compareChanged (meterPair i) (s.meters.get i).level { s with meters := s.meters.set i m }

/-- The name a share meter has in a nonconformance event (R170). -/
def meterName : Meter → NonconformingMeter
  | .guest => .guest
  | .office => .office
  | .transfer => .transfer

/-- R60: what a meter does with a nonconforming frame: under Defer it is held while fewer than 16 are, otherwise it is
discarded. -/
def ShareMeter.holdOrDiscard (m : ShareMeter) (action : MeterAction) (h : HeldFrame) : ShareMeter :=
  if action = .defer ∧ m.hold.length < 16 then { m with hold := m.hold ++ [h] } else m

/-- R60: a frame is not tested while frames are held under Defer. -/
def ShareMeter.untested (m : ShareMeter) (action : MeterAction) : Bool := action == .defer && !m.hold.isEmpty

/-- R59, R60: a frame presented to a share meter on its way to an uplink queue. -/
def presentMeter (i : Meter) (q : UplinkQueue) (f : Frame) (s : State) : State :=
  let p := s.profileInUse i
  let m := (s.meters.get i).refill p s.tick
  if !m.untested p.action && decide (f.counted ≤ m.level) then
    presentUplink q f (s.setMeter i { m with level := m.level - f.counted })
  else
    offer (occur (.nonconformance (meterName i)) f.origin) (s.setMeter i (m.holdOrDiscard p.action ⟨f, q⟩))

/-- R61: the frames at the head of a hold queue that a level covers, the frames left and the level left. -/
def releaseSplit : Nat → List HeldFrame → List HeldFrame × List HeldFrame × Nat
  | level, [] => ([], [], level)
  | level, h :: rest =>
    if h.frame.counted ≤ level then
      let r := releaseSplit (level - h.frame.counted) rest
      (h :: r.1, r.2.1, r.2.2)
    else ([], h :: rest, level)

/-- The guest table with the entry of a station changed (no two entries hold one station). -/
def updateGuest (table : List GuestEntry) (station : Station) (f : GuestEntry → GuestEntry) : List GuestEntry :=
  table.map fun e => if e.station = station then f e else e

/-- R77: a released guest frame charged to its station meter: refilled, then lowered by its counted length or to 0. -/
def chargeStation (f : Frame) (s : State) : State :=
  match f.origin.station with
  | none => s
  | some a =>
    { s with guest := { s.guest with table := updateGuest s.guest.table a fun e =>
        let e' := e.refill s.guest.settings s.tick
        { e' with level := e'.level - f.counted } } }

/-- R61, R77: a released frame goes to its uplink queue; a guest frame is charged first. -/
def releaseOne (i : Meter) (s : State) (h : HeldFrame) : State :=
  presentUplink h.queue h.frame (if i = .guest then chargeStation h.frame s else s)

/-- R61: the release event of a share meter. A meter whose hold queue is empty takes none. -/
def releaseMeter (i : Meter) (s : State) : State :=
  if (s.meters.get i).hold = [] then s
  else
    let m := (s.meters.get i).refill (s.profileInUse i) s.tick
    let r := releaseSplit m.level m.hold
    r.1.foldl (releaseOne i) (s.setMeter i { m with level := r.2.2, hold := r.2.1 })

/-- The guest table entry that holds a station address. -/
def State.guestEntry (s : State) (a : Station) : Option GuestEntry := s.guest.table.find? (·.station == a)

/-- The state with the entry of a station replaced by a changed one. -/
def State.withGuest (s : State) (a : Station) (f : GuestEntry → GuestEntry) : State :=
  { s with guest := { s.guest with table := updateGuest s.guest.table a f } }

/-- R75: the joint test of a guest frame bound for UPLINK: its station meter, then the GUEST meter. -/
def jointTest (station : Station) (f : Frame) (s : State) : State :=
  let p := s.profileInUse .guest
  let m := s.meters.guest.refill p s.tick
  let refilled := fun e : GuestEntry => e.refill s.guest.settings s.tick
  match s.guestEntry station with
  | none => offer (occur (.nonconformance .station) f.origin) (s.setMeter .guest m)
  | some e =>
    if (refilled e).level < f.counted then
      offer (occur (.nonconformance .station) f.origin) ((s.withGuest station refilled).setMeter .guest m)
    else if !m.untested p.action && decide (f.counted ≤ m.level) then
      presentUplink .guest f
        ((s.withGuest station fun e => { refilled e with level := (refilled e).level - f.counted }).setMeter .guest
          { m with level := m.level - f.counted })
    else
      offer (occur (.nonconformance .guest) f.origin)
        ((s.withGuest station refilled).setMeter .guest (m.holdOrDiscard p.action ⟨f, .guest⟩))

/-- R63: a meter at a change of profile: refilled to the tick under the profile leaving use, then its level capped at
the new depth. -/
def ShareMeter.changeProfile (m : ShareMeter) (old new : Profile) (now : Tick) : ShareMeter :=
  { m.refill old now with level := min (m.refill old now).level new.depth }

/-- R63: one meter takes a change of the profile level setting from `old` to `new`. -/
def switchMeter (old new : DayNight) (s : State) (i : Meter) : State :=
  let m := s.meters.get i
  s.setMeter i (m.changeProfile (m.profile old) (m.profile new) s.tick)

/-- R63, R164: the three meters take a change of the profile level setting, in the order GUEST, OFFICE, TRANSFER: the
manual gives none (DESIGN CHOICE, assumption 43). -/
def switchProfile (old new : DayNight) (s : State) : State :=
  [Meter.guest, .office, .transfer].foldl (switchMeter old new) s

/-- R64: one meter at forwarding restart: its level the depth of the profile in use, its hold queue emptied. -/
def restartMeter (s : State) (i : Meter) : State :=
  s.setMeter i { s.meters.get i with level := (s.profileInUse i).depth, lastTick := s.tick, hold := [] }

/-- R17, R64: every Defer hold queue emptied. -/
def Meters.emptied (m : Meters) : Meters where
  guest := { m.guest with hold := [] }
  office := { m.office with hold := [] }
  transfer := { m.transfer with hold := [] }

end Sys2Proof.Machine
end

