-- ==== Sys2Proof/Machine/Ports.lean ====
section
/-! DEFINITION. The port units on the way out: egress station resolution (R14, R78), and how a frame the part builds is
resolved, built and presented to its queue. -/

namespace Sys2Proof.Machine

/-- R8, R14: the enabled till that holds a network address. -/
def State.tillAt (s : State) (a : NetAddr) : Option TillEntry :=
  s.tills.toList.find? fun t => t.enabled && t.address == a

/-- R4: the enabled office station that holds a network address. -/
def State.officeAt (s : State) (a : NetAddr) : Option OfficeStation :=
  s.office.toList.find? fun o => o.enabled && o.address == a

/-- R78: resolution to GUEST of a frame received on a segment (none for a frame the part built). -/
def resolveGuest (s : State) (received : Option Segment) (a : NetAddr) : Except DropReason Station :=
  if received = some .guest then .error .guestIsolated
  else if !s.up .guest then .error .noStation
  else match s.guest.table.find? (·.address == a) with
    | none => .error .noStation
    | some e => if e.barred then .error .barred else .ok e.station

/-- A station found, or No-Station (R14). -/
def stationOr (found : Option Station) : Except DropReason Station :=
  match found with
  | some a => .ok a
  | none => .error .noStation

/-- R14, R78: the station address of a frame for a destination segment and network address. -/
def resolve (s : State) (received : Option Segment) (g : Segment) (a : NetAddr) : Except DropReason Station :=
  match g with
  | .uplink => stationOr s.ports.nextHop
  | .till => if s.up .till then stationOr ((s.tillAt a).map (·.station)) else .error .noStation
  | .label =>
    if s.up .label then
      stationOr (match s.ports.baseStation with
        | some b => if b.address = a then some b.station else none
        | none => none)
    else .error .noStation
  | .guest => resolveGuest s received a
  | .office => if s.up .office then stationOr ((s.officeAt a).map (·.station)) else .error .noStation

/-- An IPv4 UDP datagram the part is to send: the segment it leaves on and its addresses, services and payload. Its
source address is the gateway address of that segment (R13). -/
structure Datagram where
  kind : FrameKind
  segment : Segment
  destination : NetAddr
  sourceService : Service
  destinationService : Service
  payload : Bytes
  deriving DecidableEq, Repr

/-- R13: the frame of a datagram the part sends, resolved to a station. Its source address is the segment's gateway address
at the build (DEDUCED, assumption 44); an OPEN's is written again at its departure (`Frame.departing`, R123). -/
def State.datagramFrame (s : State) (d : Datagram) (station : Station) : Frame where
  kind := d.kind
  bytes := udpFrame s.freeSerial station s.station (s.ports.gateways.get d.segment) d.destination d.sourceService
    d.destinationService d.payload
  entryTick := s.tick
  origin := builtOrigin d.segment

/-- R13, R14: a datagram the part originates: resolved, built with TTL 64, and presented by `present` to its meter or
queue; dropped as No-Station when no station is found. -/
def originate (d : Datagram) (present : Frame → State → State) (s : State) : State :=
  match resolve s none d.segment d.destination with
  | .error r => offer (dropped r (builtOrigin d.segment)) s
  | .ok station => present (s.datagramFrame d station) { s with freeSerial := s.freeSerial + 1 }

end Sys2Proof.Machine
end

