-- ==== Sys2Proof/Machine/Rewrite.lean ====
section
/-! DEFINITION. The header fields of a received IPv4 frame (R7, R193) and the rewrite unit (R39 to R48). -/

namespace Sys2Proof.Machine

/-- The fields extracted from a well-formed IPv4 frame (R7). Lengths and offsets are in bytes; `payloadOffset` counts
from the first byte of the frame. -/
structure Ipv4 where
  headerLength : Nat
  totalLength : Nat
  protocol : Byte
  ttl : Byte
  fragmentOffset : Nat
  moreFragments : Bool
  checksum : BitVec 16
  source : NetAddr
  destination : NetAddr
  sourceService : Option Service
  destinationService : Option Service
  transportChecksum : Option (BitVec 16)
  payloadOffset : Option Nat
  deriving DecidableEq, Repr

/-- R7: fragment offset 0 and more-fragments no. -/
def Ipv4.unfragmented (ip : Ipv4) : Bool := ip.fragmentOffset == 0 && !ip.moreFragments

/-- R193: where the transport header begins in the frame. -/
def Ipv4.transportAt (ip : Ipv4) : Nat := 14 + ip.headerLength

/-- R7: the header checks of an IPv4 frame. -/
def headerGood (bs : Bytes) : Bool :=
  let hl := 4 * ((byteAt bs 14).toNat % 16)
  let tl := (word16 bs 16).toNat
  (byteAt bs 14).toNat / 16 == 4 && decide (20 ≤ hl) && decide (hl ≤ tl) && decide (tl ≤ bs.length - 14)
    && onesSum (wordsOf ((bs.drop 14).take hl)) == 0xFFFF

/-- R7, R193: the fields of a frame that passes the header checks. -/
def ipv4Fields (bs : Bytes) : Ipv4 :=
  let hl := 4 * ((byteAt bs 14).toNat % 16)
  let tl := (word16 bs 16).toNat
  let protocol := byteAt bs 23
  let fragmentOffset := (word16 bs 20).toNat % 8192
  let moreFragments := (word16 bs 20).getLsbD 13
  let at_ := 14 + hl
  let transport := (protocol == 6 || protocol == 17) && fragmentOffset == 0
  { headerLength := hl
    totalLength := tl
    protocol := protocol
    ttl := byteAt bs 22
    fragmentOffset := fragmentOffset
    moreFragments := moreFragments
    checksum := word16 bs 24
    source := word32 bs 26
    destination := word32 bs 30
    sourceService := if transport && decide (hl + 4 ≤ tl) then some (word16 bs at_) else none
    destinationService := if transport && decide (hl + 4 ≤ tl) then some (word16 bs (at_ + 2)) else none
    transportChecksum :=
      if transport && protocol == 6 && decide (hl + 20 ≤ tl) then some (word16 bs (at_ + 16))
      else if transport && protocol == 17 && decide (hl + 8 ≤ tl) then some (word16 bs (at_ + 6))
      else none
    payloadOffset :=
      if protocol == 17 && fragmentOffset == 0 && !moreFragments && decide (hl + 8 ≤ tl) then some (at_ + 8)
      else none }

/-- R7: an IPv4 frame's fields, or none where its header is not well formed. -/
def parseIpv4 (bs : Bytes) : Option Ipv4 := if headerGood bs then some (ipv4Fields bs) else none

/-- R7: the UDP datagram of a frame, from the UDP header to the end given by the total length. -/
def udpBytes (bs : Bytes) (ip : Ipv4) : Bytes :=
  (bs.drop ip.transportAt).take (ip.totalLength - ip.headerLength)

/-- R87, R101: the UDP payload, from the payload offset to the end given by the total length. -/
def udpPayload (bs : Bytes) (ip : Ipv4) : Bytes := (udpBytes bs ip).drop 8

/-- R10, R101: a UDP checksum of 0, or a correct one. A datagram too short to hold one has neither. -/
def udpChecksumAccepted (bs : Bytes) (ip : Ipv4) : Bool :=
  match ip.transportChecksum with
  | none => false
  | some c => c == 0 || udpChecksumCorrect ip.source ip.destination (udpBytes bs ip)

/-! ## Rewrite (R39 to R48) -/

/-- R42: an address translated under a mask. -/
def translated (x mask a : BitVec 32) : BitVec 32 := (x &&& mask) ||| (a &&& ~~~mask)

/-- The high and low half of an address before and after its rewrite (R45). -/
def addressWords (old new : NetAddr) : List (BitVec 16 × BitVec 16) :=
  [(old.extractLsb' 16 16, new.extractLsb' 16 16), (old.extractLsb' 0 16, new.extractLsb' 0 16)]

/-- The words of the addresses a rewrite rewrote; both halves of each (R45). -/
def rewrittenWords (ip : Ipv4) (source destination : Option NetAddr) : List (BitVec 16 × BitVec 16) :=
  (match destination with | some d => addressWords ip.destination d | none => [])
    ++ (match source with | some a => addressWords ip.source a | none => [])

/-- R41, R45: the header checksum after the TTL decrement and the rewrite of the addresses given. -/
def headerChecksumAfter (ip : Ipv4) (source destination : Option NetAddr) : BitVec 16 :=
  checksumUpdate ip.checksum
    ((ip.ttl ++ ip.protocol, (ip.ttl - 1) ++ ip.protocol) :: rewrittenWords ip source destination)

/-- R46: a transport checksum after the rewrite of the addresses given: a UDP checksum of 0 stays 0, and a UDP result
of 0x0000 is written as 0xFFFF. -/
def transportChecksumAfter (ip : Ipv4) (c : BitVec 16) (source destination : Option NetAddr) : BitVec 16 :=
  let adjusted := checksumUpdate c (rewrittenWords ip source destination)
  if ip.protocol = 17 then (if c = 0 then 0 else if adjusted = 0 then 0xFFFF else adjusted) else adjusted

/-- Where the transport checksum lies in its header (R193). -/
def transportChecksumOffset (ip : Ipv4) : Nat := if ip.protocol = 17 then 6 else 16

/-- R39: the rewrite event, on the bytes of a frame: the TTL lowered, the addresses given rewritten, the header
checksum updated, the transport checksum adjusted when an address was rewritten and the checksum is present. -/
def rewriteBytes (bs : Bytes) (ip : Ipv4) (source destination : Option NetAddr) : Bytes :=
  let b := patch bs 22 [ip.ttl - 1]
  let b := patch b 24 (be16 (headerChecksumAfter ip source destination))
  let b := match source with | some a => patch b 26 (be32 a) | none => b
  let b := match destination with | some d => patch b 30 (be32 d) | none => b
  match ip.transportChecksum with
  | some c =>
    if source.isSome || destination.isSome then
      patch b (ip.transportAt + transportChecksumOffset ip)
        (be16 (transportChecksumAfter ip c source destination))
    else b
  | none => b

/-- R14: the station addresses a forwarded frame leaves with. -/
def addressStations (bs : Bytes) (destination source : Station) : Bytes :=
  patch (patch bs 0 (be48 destination)) 6 (be48 source)

end Sys2Proof.Machine
end

