-- ==== Sys2Proof/Machine/Classifier.lean ====
section
/-! DEFINITION. The classifier: matching, lookup, hit counts and the lookup copy (R24 to R27), the isolation check and
the exchange of the banks (R33, R34). -/

namespace Sys2Proof.Machine

/-- R24: the key address of a frame for an entry. -/
def keyAddress (k : Key) (ip : Ipv4) : NetAddr :=
  match k with
  | .destination => ip.destination
  | .source => ip.source

/-- R24, condition 5: the service range. -/
def rangeMatches (range : Option (Service × Service)) (ip : Ipv4) : Bool :=
  match range with
  | none => true
  | some (low, high) =>
    match ip.destinationService with
    | none => false
    | some d =>
      ip.unfragmented && (ip.protocol == 6 || ip.protocol == 17)
        && decide (low.toNat ≤ d.toNat ∧ d.toNat ≤ high.toNat)

/-- R24: whether a window entry matches a frame received on a segment. -/
def WindowEntry.matches (e : WindowEntry) (g : Segment) (ip : Ipv4) : Bool :=
  e.enabled && e.sources.get g
    && (keyAddress e.key ip &&& e.mask) == (e.base &&& e.mask)
    && (match e.protocol with | none => true | some p => p == ip.protocol)
    && rangeMatches e.range ip

/-- R25: the index chosen in a bank: the lowest matching pinned entry, otherwise the lowest matching unpinned one. -/
def Bank.choose (b : Bank) (g : Segment) (ip : Ipv4) : Option (Fin 64) :=
  match (List.finRange 64).find? fun i => b.entries[i].pinned && b.entries[i].matches g ip with
  | some i => some i
  | none => (List.finRange 64).find? fun i => !b.entries[i].pinned && b.entries[i].matches g ip

/-- R27: the copy of a lookup's outcome that goes with the frame. -/
structure LookupCopy where
  action : Action
  destination : Segment
  translate : Option NetAddr
  mask : BitVec 32
  key : Key
  uplinkClass : UplinkClass
  mark : Bool
  offset : Byte
  bank : BankId
  index : Option (Fin 64)
  deriving DecidableEq, Repr

/-- R27: the copy of a chosen entry. -/
def entryCopy (bank : BankId) (i : Fin 64) (e : WindowEntry) : LookupCopy where
  action := e.action
  destination := e.destination
  translate := e.translate
  mask := e.mask
  key := e.key
  uplinkClass := e.uplinkClass
  mark := e.mark
  offset := e.offset
  bank := bank
  index := some i

/-- R22, R27: the copy of a chosen default: translate absent, mark no, no window index. -/
def defaultCopy (bank : BankId) (d : SegmentDefault) : LookupCopy where
  action := if d.forwards then .forward else .drop
  destination := d.destination
  translate := none
  mask := 0
  key := .destination
  uplinkClass := d.uplinkClass
  mark := false
  offset := 0
  bank := bank
  index := none

/-- R26: a hit count raised by one, held at 2^32 - 1. -/
def hitOnce (h : BitVec 32) : BitVec 32 := if h = BitVec.allOnes 32 then h else h + 1

/-- R26: a bank with the hit count of an entry raised. -/
def Bank.hitEntry (b : Bank) (i : Fin 64) : Bank :=
  { b with entries := b.entries.set i { b.entries[i] with hits := hitOnce b.entries[i].hits } }

/-- R26: a bank with the hit count of a segment's default raised. -/
def Bank.hitDefault (b : Bank) (g : Segment) : Bank :=
  { b with defaults := b.defaults.set { b.defaults.get g with hits := hitOnce (b.defaults.get g).hits } g }

/-- The active bank (R25). -/
def Classifier.activeBank (c : Classifier) : Bank := c.bank c.active

/-- R25, R27: the outcome of a lookup in the active bank. -/
def lookupCopy (c : Classifier) (g : Segment) (ip : Ipv4) : LookupCopy :=
  match c.activeBank.choose g ip with
  | some i => entryCopy c.active i c.activeBank.entries[i]
  | none => defaultCopy c.active (c.activeBank.defaults.get g)

/-- R26: the classifier after a lookup: the hit count of what was chosen raised. -/
def Classifier.hit (c : Classifier) (g : Segment) (copy : LookupCopy) : Classifier :=
  match copy.index with
  | some i => c.setBank c.active (c.activeBank.hitEntry i)
  | none => c.setBank c.active (c.activeBank.hitDefault g)

/-- R26: the event of a lookup: a window hit, or a Default hit. -/
def hitName (g : Segment) (copy : LookupCopy) : EventName :=
  match copy.index with
  | some i => .windowHit i
  | none => .defaultHit g

/-- R27, R169: the origin of the events a frame causes after its lookup. -/
def copyOrigin (g : Segment) (station : Station) (copy : LookupCopy) : Origin :=
  ⟨copy.mark, copy.index, g, some station⟩

/-! ## Isolation and SWAP (R33, R34) -/

/-- The segments a GUEST frame is kept off (R34). -/
def guestForbidden : Segment → Bool
  | .till => true
  | .label => true
  | .office => true
  | _ => false

/-- R34: whether an entry offends. -/
def WindowEntry.offends (e : WindowEntry) : Bool :=
  e.enabled && e.sources.guest &&
    match e.action with
    | .forward => guestForbidden e.destination
    | .track => true
    | .spool => true
    | .drop => false

/-- R34: whether a GUEST default offends. -/
def SegmentDefault.offends (d : SegmentDefault) : Bool := d.forwards && guestForbidden d.destination

/-- R33, R34: the first offence of a bank: the lowest offending index, or 0xFFFFFFFF for the default (R195). -/
def Bank.offence (b : Bank) : Option (BitVec 32) :=
  match (List.finRange 64).find? fun i => b.entries[i].offends with
  | some i => some (BitVec.ofNat 32 i.val)
  | none => if b.defaults.guest.offends then some 0xFFFFFFFF else none

/-- The shadow bank's letter. -/
def Classifier.shadow (c : Classifier) : BankId := BankId.other c.active

end Sys2Proof.Machine
end

