-- ==== Sys2Proof/Machine/Tracker.lean ====
section
/-! DEFINITION. Forwarding (R13, R28, R29) and the request tracker: tracking, replies, expiry and the hold-over notice
(R83 to R98). -/

namespace Sys2Proof.Machine

/-- A received frame on its way through the part: the port, the bytes as received, the fields and, on TILL, the till
the source check recorded (R5, R7, R8). -/
structure Passage where
  port : Segment
  bytes : Bytes
  ip : Ipv4
  till : Option (Fin 32)
  deriving DecidableEq, Repr

/-- The source station address of a frame (R193). -/
def sourceStation (bs : Bytes) : Station := word48 bs 6

/-- A frame dropped (R1). -/
def drop (reason : DropReason) (origin : Origin) (s : State) : State := offer (dropped reason origin) s

/-- R13: whether a frame fails the TTL check. -/
def ttlExpired (ip : Ipv4) : Bool := decide (ip.ttl.toNat ≤ 1)

/-- R42: the destination address a rewrite by a lookup copy writes, when it translates the destination. -/
def copyDestination (copy : LookupCopy) (ip : Ipv4) : Option NetAddr :=
  match copy.translate, copy.key with
  | some x, .destination => some (translated x copy.mask ip.destination)
  | _, _ => none

/-- R42: the source address a rewrite by a lookup copy writes, when it translates the source. -/
def copySource (copy : LookupCopy) (ip : Ipv4) : Option NetAddr :=
  match copy.translate, copy.key with
  | some x, .source => some (translated x copy.mask ip.source)
  | _, _ => none

/-- A forwarded frame ready for its queue: rewritten, addressed to a station, with its receipt tick (R5, R14, R39). -/
def forwardedFrame (s : State) (p : Passage) (newSource newDestination : Option NetAddr) (station : Station)
    (origin : Origin) : Frame where
  kind := .forwarded
  bytes := addressStations (rewriteBytes p.bytes p.ip newSource newDestination) station s.station
  entryTick := s.tick
  origin := origin

/-- R29: the uplink queue of an uplink class. -/
def classQueue : UplinkClass → UplinkQueue
  | .urgent => .urgent
  | .office => .office

/-- R28, R29: metering and queue of a resolved frame for a destination segment. -/
def deliverForwarded (p : Passage) (copy : LookupCopy) (f : Frame) (s : State) : State :=
  match copy.destination with
  | .till => presentEgress .till f s
  | .label => presentEgress .label f s
  | .guest => presentEgress .guest f s
  | .office => presentEgress .office f s
  | .uplink =>
    match p.port with
    | .guest => jointTest (sourceStation p.bytes) f s
    | .office => presentMeter .office (classQueue copy.uplinkClass) f s
    | _ => presentUplink (classQueue copy.uplinkClass) f s

/-- R28: a Forward frame: TTL check, rewrite, egress resolution, then metering and its queue. -/
def forwardFrame (p : Passage) (copy : LookupCopy) (s : State) : State :=
  let origin := copyOrigin p.port (sourceStation p.bytes) copy
  if ttlExpired p.ip then drop .ttlExpired origin s
  else
    match resolve s (some p.port) copy.destination ((copyDestination copy p.ip).getD p.ip.destination) with
    | .error r => drop r origin s
    | .ok station =>
      deliverForwarded p copy
        (forwardedFrame s p (copySource copy p.ip) (copyDestination copy p.ip) station origin) s

/-! ## Tracking (R87 to R90) -/

/-- R101, R87, test 2: the till entry of the frame's till number is enabled and still holds the frame's source
station and network address. -/
def tillStillHolds (s : State) (p : Passage) (t : Fin 32) : Bool :=
  s.tills[t].enabled && s.tills[t].station == sourceStation p.bytes && s.tills[t].address == p.ip.source

/-- R86: the 4 bytes at an offset of a payload. -/
def tagAt (payload : Bytes) (offset : Byte) : BitVec 32 := word32 payload offset.toNat

/-- R86: whether an entry holds a key. -/
def OpenRequest.hasKey (r : OpenRequest) (t : Fin 32) (service : Service) (tag : BitVec 32) : Bool :=
  r.till == t && r.tillService == service && r.tag == tag

/-- R87, test 4: the slot whose entry holds a key. -/
def Tracker.findKey (k : Tracker) (t : Fin 32) (service : Service) (tag : BitVec 32) : Option (Fin 64) :=
  (List.finRange 64).find? fun i => match k.slots[i] with
    | some r => r.hasKey t service tag
    | none => false

/-- R89: the entries that hold a till number. -/
def Tracker.openCount (k : Tracker) (t : Fin 32) : Nat :=
  k.slots.toList.countP fun x => match x with
    | some r => r.till == t
    | none => false

/-- R90: the lowest free slot. -/
def Tracker.freeSlot (k : Tracker) : Option (Fin 64) := (List.finRange 64).find? fun i => k.slots[i].isNone

/-- The tracker with a slot's contents replaced. -/
def Tracker.setSlot (k : Tracker) (i : Fin 64) (x : Option OpenRequest) : Tracker :=
  { k with slots := k.slots.set i x }

/-- The state with a slot's contents replaced. -/
def State.setSlot (s : State) (i : Fin 64) (x : Option OpenRequest) : State :=
  { s with tracker := s.tracker.setSlot i x }

/-- A deadline a number of milliseconds ahead (R90). -/
def State.deadlineIn (s : State) (ms : Nat) : Tick := s.tick + BitVec.ofNat 32 ms

/-- R88: an entry after a repeat. -/
def OpenRequest.repeated (r : OpenRequest) (deadline : Tick) : OpenRequest :=
  { r with resends := min 15 (r.resends + 1), state := .waiting, deadline := deadline }

/-- R86, R90, R43: the entry a new request makes. -/
def newRequest (s : State) (p : Passage) (copy : LookupCopy) (t : Fin 32) (tag : BitVec 32) : OpenRequest where
  till := t
  tillService := p.ip.sourceService.getD 0
  tag := tag
  originalAddress := p.ip.destination
  originalService := p.ip.destinationService.getD 0
  serverAddress := (copyDestination copy p.ip).getD p.ip.destination
  serverService := p.ip.destinationService.getD 0
  tagOffset := copy.offset
  windowIndex := copy.index
  mark := copy.mark
  sentTick := s.tick
  resends := 0
  state := .waiting
  deadline := s.deadlineIn s.tracker.replyTimeout

/-- R30: a frame the tracker lets through: rewrite, resolution by the next-hop station, URGENT. -/
def sendTracked (p : Passage) (copy : LookupCopy) (s : State) : State :=
  let origin := copyOrigin p.port (sourceStation p.bytes) copy
  match resolve s (some p.port) .uplink p.ip.destination with
  | .error r => drop r origin s
  | .ok station =>
    presentUplink .urgent
      (forwardedFrame s p (copySource copy p.ip) (copyDestination copy p.ip) station origin) s

/-- R89, R90: a new request: the limit test, the table-full test, then an entry in the lowest free slot. -/
def trackNew (p : Passage) (copy : LookupCopy) (t : Fin 32) (tag : BitVec 32) (s : State) : State :=
  let origin := copyOrigin p.port (sourceStation p.bytes) copy
  if s.tills[t].openLimit ≤ s.tracker.openCount t then offer (occur (.tracker .tillLimit) origin) s
  else match s.tracker.freeSlot with
    | none => sendTracked p copy (offer (occur (.tracker .untracked) origin) s)
    | some i =>
      sendTracked p copy
        (offer (occur (.tracker .tracked) origin) (s.setSlot i (some (newRequest s p copy t tag))))

/-- R87, tests 4 and 5: a repeat, or a new request. -/
def trackKeyed (p : Passage) (copy : LookupCopy) (t : Fin 32) (s : State) : State :=
  let tag := tagAt (udpPayload p.bytes p.ip) copy.offset
  match s.tracker.findKey t (p.ip.sourceService.getD 0) tag with
  | some i =>
    match s.tracker.slots[i] with
    | some r => sendTracked p copy (s.setSlot i (some (r.repeated (s.deadlineIn s.tracker.replyTimeout))))
    | none => trackNew p copy t tag s
  | none => trackNew p copy t tag s

/-- R87, test 3: the frame can carry a request tag at the copy's field offset. -/
def trackSuitable (p : Passage) (copy : LookupCopy) : Bool :=
  p.ip.unfragmented && p.ip.protocol == 17 && p.ip.payloadOffset.isSome
    && decide (copy.offset.toNat + 4 ≤ (udpPayload p.bytes p.ip).length)

/-- R13, R30, R87: a Track frame. -/
def trackFrame (p : Passage) (copy : LookupCopy) (s : State) : State :=
  let origin := copyOrigin p.port (sourceStation p.bytes) copy
  if ttlExpired p.ip then drop .ttlExpired origin s
  else if p.port ≠ .till then drop .unsuitable origin s
  else if !s.running then drop .closed origin s
  else match p.till with
    | none => drop .unknownTill origin s
    | some t =>
      if !tillStillHolds s p t then drop .unknownTill origin s
      else if !trackSuitable p copy then drop .unsuitable origin s
      else trackKeyed p copy t s

/-! ## Replies (R91, R92) -/

/-- R91: whether a frame is a reply to an entry. -/
def isReply (s : State) (p : Passage) (r : OpenRequest) : Bool :=
  p.ip.unfragmented && p.ip.protocol == 17 && p.ip.payloadOffset.isSome
    && p.ip.source == r.serverAddress && p.ip.sourceService == some r.serverService
    && p.ip.destination == s.tills[r.till].address && p.ip.destinationService == some r.tillService
    && decide (r.tagOffset.toNat + 4 ≤ (udpPayload p.bytes p.ip).length)
    && tagAt (udpPayload p.bytes p.ip) r.tagOffset == r.tag

/-- R91: the lowest slot whose entry a frame is a reply to, with the entry. -/
def matchReply (s : State) (p : Passage) : Option (Fin 64 × OpenRequest) :=
  (List.finRange 64).findSome? fun i => match s.tracker.slots[i] with
    | some r => if isReply s p r then some (i, r) else none
    | none => none

/-- R92: a matched reply. -/
def replyFrame (p : Passage) (i : Fin 64) (r : OpenRequest) (s : State) : State :=
  let origin := receivedOrigin p.port (sourceStation p.bytes)
  if ttlExpired p.ip then drop .ttlExpired origin s
  else
    let late := occur (.tracker .late) ⟨r.mark, r.windowIndex, p.port, some (sourceStation p.bytes)⟩
    let s1 := (if r.state = .heldOver then offer late s else s).setSlot i none
    match resolve s1 (some p.port) .till p.ip.destination with
    | .error e => drop e origin s1
    | .ok station => presentEgress .till (forwardedFrame s1 p (some r.originalAddress) none station origin) s1

/-! ## Expiry (R93 to R95) -/

/-- R95, R199: the hold-over notice of an entry, with code NO-REPLY 6 or LINK-DOWN 7. -/
def holdOverNotice (s : State) (r : OpenRequest) (code : Nat) : Datagram where
  kind := .notice
  segment := .till
  destination := s.tills[r.till].address
  sourceService := r.originalService
  destinationService := r.tillService
  payload := holdOverBytes code r.tag r.originalAddress r.resends

/-- R86, R169: the origin of the events an entry causes at an expiry. -/
def OpenRequest.origin (r : OpenRequest) : Origin := ⟨r.mark, r.windowIndex, .till, none⟩

/-- R93: what becomes of the entry of a slot once its notice has been built. -/
def heldOverAfter (i : Fin 64) (r : OpenRequest) (s : State) : State :=
  if s.tracker.lateWindow = 0 then offer (occur (.tracker .abandoned) r.origin) (s.setSlot i none)
  else s.setSlot i (some { r with state := .heldOver, deadline := s.deadlineIn s.tracker.lateWindow })

/-- R93, R94: the expiry of a Waiting entry. -/
def expireWaiting (i : Fin 64) (r : OpenRequest) (s : State) : State :=
  if s.tills[r.till].holdOver then
    let code := if s.up .uplink then 6 else 7
    heldOverAfter i r
      (offer (occur (.tracker .holdOverNotice) r.origin)
        (originate (holdOverNotice s r code) (presentEgress .till) s))
  else offer (occur (.tracker .expired) r.origin) (s.setSlot i none)

/-- R94: the expiry of a Held-over entry. -/
def expireHeldOver (i : Fin 64) (r : OpenRequest) (s : State) : State :=
  offer (occur (.tracker .abandoned) r.origin) (s.setSlot i none)

/-- An entry of a slot in a given state whose deadline has been reached (R93, R94). -/
def dueRequest (s : State) (i : Fin 64) (state : RequestState) : Option OpenRequest :=
  match s.tracker.slots[i] with
  | some r => if r.state = state ∧ deadlineReached s.tick r.deadline then some r else none
  | none => none

/-- R84, R98: the open request table without the entries of some tills. -/
def Tracker.freeTills (k : Tracker) (written : Fin 32 → Bool) : Tracker :=
  { k with slots := k.slots.map fun x => match x with
      | some r => if written r.till then none else some r
      | none => none }

/-- R98: every open request entry freed. -/
def Tracker.emptied (k : Tracker) : Tracker := { k with slots := Vector.replicate 64 none }

end Sys2Proof.Machine
end

