-- ==== Sys2Proof/Machine/Night.lean ====
section
/-! DEFINITION. The night transfer engine: its messages, calls, the backoff draw, send events, the completion test, ACKs
and the end of a session (R121 to R140). What a LABELS message does stands in Labels.lean, what a GRANT does to the
clock in Schedule.lean. -/

namespace Sys2Proof.Machine

/-! ## Messages (R121, R200) -/

/-- R121: a night message of a kind with its fields, in the branch number and epoch in force. -/
def State.nightMessage (s : State) (kind : Nat) (fields : Bytes) : Datagram where
  kind := .night
  segment := .uplink
  destination := s.night.settings.collector
  sourceService := s.ports.nightService
  destinationService := s.night.settings.service
  payload := nightHeader kind s.night.settings.branch s.night.settings.epoch ++ fields

/-- R121: a night message that goes to the uplink queue TRANSFER directly. -/
def sendNight (kind : Nat) (fields : Bytes) (s : State) : State :=
  originate (s.nightMessage kind fields) (presentUplink .transfer) s

/-- R121, R123: OPEN, with oldest, newest and free label blocks. Its source address is taken at its departure. -/
def State.openMessage (s : State) : Datagram :=
  { s.nightMessage 1 (be32 s.journal.oldest ++ be32 s.journal.newest ++ num32 s.pool.freeLabelBlocks) with
    kind := .opening }

/-- R121: OPEN goes to the uplink queue TRANSFER directly. -/
def sendOpen (s : State) : State := originate s.openMessage (presentUplink .transfer) s

/-- R121: DRAINED, with the newest sequence sent. -/
def sendDrained (s : State) : State := sendNight 3 (be32 (s.journal.nextToSend - 1)) s

/-- R121: LABEL-ACK, with the batch id and the count of updates taken. -/
def sendLabelAck (batch : BitVec 32) (taken : Nat) (s : State) : State := sendNight 4 (be32 batch ++ num16 taken) s

/-- R121: CLOSED. -/
def sendClosed (s : State) : State := sendNight 5 [] s

/-! ## Changes of engine state (R122) -/

/-- R122: the engine in a state with every timer stopped. -/
def Night.enter (n : Night) (state : NightState) : Night :=
  { n with state := state, callTimer := none, ackTimer := none, settleTimer := none, backoffTimer := none }

/-- R139: the retry total raised by 1; at 65,535 it wraps and the rollover flag becomes yes. -/
def Night.retried (n : Night) : Night :=
  if n.retryTotal = 65535 then { n with retryTotal := 0, rollover := true }
  else { n with retryTotal := n.retryTotal + 1 }

/-- R125: the low end of the delay range of an attempt number, in ms. The manual's table begins at 1; an attempt
number of 0, which no session reaches, is taken as 1 (assumption 37). -/
def backoffLow (attempt : Nat) : Nat := 1000 * 2 ^ (clamp 1 7 attempt - 1)

/-- R125: the generator's next value. -/
def nextGenerator (g : BitVec 16) : BitVec 16 := 25173 * g + 13849

/-- R125: the delay drawn with a generator value for an attempt number; high - low equals low. -/
def backoffDelay (r : BitVec 16) (attempt : Nat) : Nat := backoffLow attempt + r.toNat % backoffLow attempt

/-- R125: entry into BACKOFF, with a delay drawn for attempts. -/
def Night.backedOff (n : Night) (now : Tick) : Night :=
  { n.enter .backoff with
    generator := nextGenerator n.generator
    backoffTimer := some ⟨now, backoffDelay (nextGenerator n.generator) n.attempts⟩ }

/-- R124, R132: a failed call or session: BACKOFF while attempts is below the long retry limit plus 1, otherwise FAILED
with Night-Failed raised. -/
def failSession (s : State) : State :=
  if s.night.attempts < s.night.settings.longLimit + 1 then { s with night := s.night.backedOff s.tick }
  else raise .nightFailed { s with night := s.night.enter .failed }

/-! ## Calling (R123 to R127) -/

/-- R123, R127: OPEN built with attempts at a count, CALLING, and the call timer started. -/
def placeCall (attempts : Nat) (s : State) : State :=
  let s1 := sendOpen { s with night := { s.night with attempts := attempts, backoffTimer := none } }
  { s1 with night := { s1.night.enter .calling with callTimer := s1.timer s1.night.settings.callTimeout } }

/-- R123: whether a call is heard at all: RUNNING, and the collector address set. -/
def State.callHeard (s : State) : Bool := s.running && s.night.settings.collector != 0

/-- R123: whether a call in this state leads to CALLING. -/
def State.callTaken (s : State) : Bool :=
  s.callHeard && (s.night.state == .idle || s.night.state == .failed || s.night.state == .backoff)

/-- R123: a call from any cause. -/
def nightCall (s : State) : State :=
  if s.callTaken then placeCall (if s.night.state = .backoff then s.night.attempts else 1) s else s

/-- R127: the expiry of the backoff timer. -/
def backoffExpires (s : State) : State := placeCall (min 255 (s.night.attempts + 1)) s

/-- R124: the expiry of the call timer. -/
def callExpires (s : State) : State := failSession { s with night := s.night.retried }

/-! ## Sending (R130, R131) -/

/-- R131: the records from the front of a list that a count and a number of bytes allow, each 16 header bytes plus its
payload. -/
def packRecords : Nat → Nat → List JournalRecord → List JournalRecord
  | 0, _, _ => []
  | _ + 1, _, [] => []
  | n + 1, room, r :: rest =>
    if 16 + r.payload.length ≤ room then r :: packRecords n (room - (16 + r.payload.length)) rest else []

/-- R131: the records the next RECORDS message carries. -/
def State.nextRecords (s : State) : List JournalRecord :=
  packRecords (s.night.window - s.journal.outstanding) 1400 (s.journal.records.drop s.journal.outstanding)

/-- R131: whether a send event is taken. The last condition holds whenever unsent records remain. -/
def State.canSend (s : State) : Bool :=
  s.night.state == .draining && s.running && decide (s.journal.outstanding < s.night.window)
    && s.journal.nextToSend != s.journal.nextSeq && s.uplink.hasRoom .transfer && s.meters.transfer.hold.isEmpty
    && !s.nextRecords.isEmpty

/-- R131, R200: the RECORDS message of a state. -/
def State.recordsMessage (s : State) : Datagram :=
  s.nightMessage 2
    (be32 s.journal.nextToSend ++ num8 s.nextRecords.length ++ s.nextRecords.flatMap recordBytes)

/-- R130, R131: next-to-send past the records carried, and the ack timer started when outstanding was 0. -/
def State.recordsTaken (s : State) : State :=
  { s with
    journal := { s.journal with nextToSend := s.journal.nextToSend + BitVec.ofNat 32 s.nextRecords.length }
    night := { s.night with
      ackTimer := if s.journal.outstanding = 0 then s.timer s.night.settings.ackTimeout else s.night.ackTimer } }

/-- R131: one send event. -/
def sendRecords (s : State) : State :=
  originate s.recordsMessage (presentMeter .transfer .transfer)
    (offer (occur (.night .recordsSent) (builtOrigin .uplink)) s.recordsTaken)

/-- R131: send events one after another while their conditions hold, at most a given number. -/
def sendWhile : Nat → State → State
  | 0, s => s
  | n + 1, s => if s.canSend then sendWhile n (sendRecords s) else s

/-- R133: the completion test. -/
def completionTest (s : State) : State :=
  if s.night.state = .draining ∧ s.journal.outstanding = 0 ∧ s.journal.nextToSend = s.journal.nextSeq then
    let s1 := sendDrained s
    { s1 with night := { s1.night.enter .settling with
        settleTimer := s1.timer (1000 * s1.night.settings.settleTimeout) } }
  else s

/-- R131, R133: the send events and the completion test that follow an event at the engine. Each send event raises
outstanding, which stays at most the window, so no more than the window's number of them can follow. -/
def nightFollow (s : State) : State := completionTest (sendWhile s.night.window s)

/-! ## GRANT, ACK and the ack timer (R128 to R132) -/

/-- R128: what a GRANT does to the engine before its clock set and its sends. -/
def grantTaken (window : Byte) (s : State) : State :=
  match s.night.state with
  | .calling =>
    { s with
      night := { s.night.enter .draining with window := window.toNat, shortRetries := 0 }
      journal := { s.journal with nextToSend := s.journal.oldest } }
  | .draining => { s with night := { s.night with window := window.toNat } }
  | _ => s

/-- R129: how many records an ACK for a sequence covers, counted mod 2^32 from oldest. -/
def Journal.covered (j : Journal) (sequence : Seq) : Nat := (sequence - j.oldest + 1).toNat

/-- R114: the journal without its n oldest records. -/
def Journal.removeOldest (j : Journal) (n : Nat) : Journal :=
  { j with records := j.records.drop n, oldest := j.oldest + BitVec.ofNat 32 n }

/-- The blocks of some records (R104). -/
def blocksOf (records : List JournalRecord) : Nat := (records.map JournalRecord.blocks).sum

/-- R114, R115: the n oldest records removed, their blocks freed, and the journal pair's comparison. -/
def removeAcked (n : Nat) (s : State) : State :=
  compareChanged .journal s.pool.journalHeld
    { s with
      journal := s.journal.removeOldest n
      pool := s.pool.freeJournal (blocksOf (s.journal.records.take n)) }

/-- R130: the ack timer after an ACK that removed n records in DRAINING. -/
def ackTimerAfter (n : Nat) (s : State) : State :=
  { s with night := { s.night with
      ackTimer :=
        if n = 0 then s.night.ackTimer
        else if s.journal.outstanding = 0 then none
        else s.timer s.night.settings.ackTimeout } }

/-- R129: an ACK in a frame of a source station. -/
def takeAck (station : Station) (sequence : Seq) (s : State) : State :=
  let n := s.journal.covered sequence
  if s.journal.outstanding < n then offer (occur (.night .staleAck) (receivedOrigin .uplink station)) s
  else if s.night.state = .draining then nightFollow (ackTimerAfter n (removeAcked n s))
  else removeAcked n s

/-- R132: the expiry of the ack timer in DRAINING. -/
def ackExpires (s : State) : State :=
  let s1 := { s with night := s.night.retried }
  if s1.night.shortRetries < s1.night.settings.shortLimit then
    nightFollow { s1 with
      night := { s1.night with shortRetries := s1.night.shortRetries + 1, ackTimer := none }
      journal := { s1.journal with nextToSend := s1.journal.oldest } }
  else failSession s1

/-! ## Ending a session (R134 to R136) -/

/-- R134, R135: CLOSED built, every timer stopped, next-to-send back at oldest, IDLE. -/
def closeSession (s : State) : State :=
  let s1 := sendClosed s
  { s1 with
    night := s1.night.enter .idle
    journal := { s1.journal with nextToSend := s1.journal.oldest } }

/-- R134: FINISH, and the expiry of the settle timer. -/
def finishSession (s : State) : State :=
  if s.night.state = .draining ∨ s.night.state = .settling then closeSession s else s

/-- R136: link loss on UPLINK at the engine. -/
def nightLinkLoss (s : State) : State :=
  if s.night.state = .calling ∨ s.night.state = .draining ∨ s.night.state = .settling then
    { s with night := s.night.backedOff s.tick }
  else s

/-- R140: forwarding restart at the engine. -/
def nightRestart (s : State) : State :=
  { s with
    night := { s.night.enter .idle with attempts := 0, shortRetries := 0 }
    journal := { s.journal with nextToSend := s.journal.oldest } }

end Sys2Proof.Machine
end

