-- ==== Sys2Proof/Machine/Labels.lean ====
section
/-! DEFINITION. The label delivery engine: taking a LABELS message, delivery events, outcomes, the return of an update
and the recovery of the in-flight list (R137, R138, R142 to R156). -/

namespace Sys2Proof.Machine

/-! ## Taking a LABELS message (R137, R138, R144) -/

/-- R142: the update a LABELS message brings, as it enters the label queue at a tick. -/
def newUpdate (w : LabelWire) (now : Tick) : LabelUpdate where
  number := w.number
  page := w.page
  text := w.text
  flash := w.flash
  item := w.item
  attempts := 0
  firstQueued := now
  sentTick := none
  deadline := none

/-- R144: a queued update superseded in place: position, block and first-queued tick kept, attempts 0. -/
def LabelUpdate.superseded (u : LabelUpdate) (w : LabelWire) : LabelUpdate :=
  { u with page := w.page, text := w.text, flash := w.flash, item := w.item, attempts := 0 }

/-- Whether a list of updates holds one for a label number. -/
def holdsLabel (updates : List LabelUpdate) (number : BitVec 24) : Bool := updates.any (·.number == number)

/-- R144: a label queue with its update for the label number of a new update superseded. -/
def supersedeIn (queue : List LabelUpdate) (w : LabelWire) : List LabelUpdate :=
  queue.map fun u => if u.number = w.number then u.superseded w else u

/-- R137: the updates of a LABELS message taken one at a time, and how many were: superseding in place, or one label
allocation each until one fails. -/
def takeUpdates (station : Station) : List LabelWire → State → State × Nat
  | [], s => (s, 0)
  | w :: rest, s =>
    if holdsLabel s.label.queue w.number then
      let r := takeUpdates station rest (offer (occur (.label .superseded) (receivedOrigin .uplink station))
        { s with label := { s.label with queue := supersedeIn s.label.queue w } })
      (r.1, r.2 + 1)
    else if s.pool.labelFits then
      let r := takeUpdates station rest
        { s with
          label := { s.label with queue := s.label.queue ++ [newUpdate w s.tick] }
          pool := s.pool.takeLabel }
      (r.1, r.2 + 1)
    else (s, 0)

/-! ## Delivery (R147, R148) -/

/-- R147: whether an update's label number is held by no in-flight update. -/
def LabelEngine.deliverable (l : LabelEngine) (u : LabelUpdate) : Bool := !holdsLabel l.inFlight u.number

/-- R147: the conditions of a delivery event besides an update to deliver. -/
def State.deliveryOpen (s : State) : Bool :=
  s.running && s.levels.labelWindow.value == .opened && s.up .label && s.ports.baseStation.isSome
    && decide (0 < s.label.credit) && s.label.pacingTimer.isNone && decide (s.label.inFlight.length < 16)

/-- R148, R201: the DELIVER message of an update to a base station. -/
def State.deliverMessage (s : State) (b : BaseStation) (u : LabelUpdate) : Datagram where
  kind := .deliver
  segment := .label
  destination := b.address
  sourceService := s.ports.labelService
  destinationService := b.service
  payload := num8 2 ++ labelUpdateBytes u

/-- R147: the update of a delivery event moved in flight, the credit lowered, the pacing timer started. -/
def State.sentInFlight (s : State) (u : LabelUpdate) : State :=
  { s with label := { s.label with
      queue := s.label.queue.eraseP s.label.deliverable
      inFlight := s.label.inFlight ++
        [{ u with sentTick := some s.tick, deadline := some (s.deadlineIn s.label.settings.outcomeTimeout) }]
      credit := s.label.credit - 1
      pacingTimer := if s.label.settings.pacing = 0 then none else s.timer s.label.settings.pacing } }

/-- R147, R148: one delivery event. -/
def deliverOne (b : BaseStation) (u : LabelUpdate) (s : State) : State :=
  originate (s.deliverMessage b u) (presentEgress .label) (s.sentInFlight u)

/-- R147: delivery events one after another while their conditions hold, at most a given number. -/
def deliverWhile : Nat → State → State
  | 0, s => s
  | n + 1, s =>
    if s.deliveryOpen then
      match s.ports.baseStation, s.label.queue.find? s.label.deliverable with
      | some b, some u => deliverWhile n (deliverOne b u s)
      | _, _ => s
    else s

/-- R147: the delivery events that follow an event at the engine. Each adds an update to the in-flight list, which holds
at most 16. -/
def deliveries (s : State) : State := deliverWhile 16 s

/-! ## Outcomes (R149 to R152) -/

/-- The outcomes of an OUTCOME message (R201). -/
inductive LabelOutcome where
  | delivered
  | givenUp (why : GivenUp)
  deriving DecidableEq, Repr

/-- R146, R201: the outcome a byte names. -/
def labelOutcomeOf (b : Byte) : Option LabelOutcome :=
  match b.toNat with
  | 1 => some .delivered
  | 2 => some (.givenUp .absent)
  | 3 => some (.givenUp .busy)
  | 4 => some (.givenUp .rejected)
  | _ => none

/-- One label block freed (R111), and the label pair's comparison (R156). -/
def freeLabelBlock (s : State) : State :=
  compareChanged .label s.pool.labelHeld { s with pool := s.pool.freeLabel 1 }

/-- R152: the oldest record removed from a full undelivered list, Label-Lost offered and raised. -/
def loseOldest (s : State) : State :=
  if s.label.undelivered.length < 256 then s
  else
    raise .labelLost (offer (occur (.label .labelLost) (builtOrigin .label))
      { s with label := { s.label with undelivered := s.label.undelivered.drop 1 } })

/-- R152: an update that enters the undelivered list. -/
def giveUp (u : LabelUpdate) (why : GivenUp) (origin : Origin) (s : State) : State :=
  let s1 := loseOldest (freeLabelBlock s)
  offer (occur (.label .undelivered) origin)
    { s1 with label := { s1.label with undelivered := s1.label.undelivered ++ [⟨u.number, u.page, u.attempts, why⟩] } }

/-- R150: an update as it returns to the label queue. -/
def LabelUpdate.returned (u : LabelUpdate) : LabelUpdate := { u with sentTick := none, deadline := none }

/-- R150: an update that returns to the tail of the label queue, or is discarded as superseded. -/
def returnUpdate (u : LabelUpdate) (origin : Origin) (s : State) : State :=
  if holdsLabel s.label.queue u.number then
    offer (occur (.label .superseded) origin) (freeLabelBlock s)
  else { s with label := { s.label with queue := s.label.queue ++ [u.returned] } }

/-- R149: an update after one more failed attempt. -/
def LabelUpdate.failed (u : LabelUpdate) : LabelUpdate := { u with attempts := min 15 (u.attempts + 1) }

/-- R149: an outcome applied to an update that has left the in-flight list. -/
def applyOutcome (u : LabelUpdate) (outcome : LabelOutcome) (origin : Origin) (s : State) : State :=
  match outcome with
  | .delivered => offer (occur (.label .delivered) origin) (freeLabelBlock s)
  | .givenUp .rejected => giveUp u .rejected origin s
  | .givenUp why =>
    if s.label.settings.attemptLimit ≤ u.failed.attempts then giveUp u.failed why origin s
    else returnUpdate u.failed origin s

/-- R149: the in-flight list without its update for a label number. -/
def State.landed (s : State) (number : BitVec 24) : State :=
  { s with label := { s.label with inFlight := s.label.inFlight.eraseP (·.number == number) } }

/-- R149, R151: an outcome for a label number, and the delivery events that follow. -/
def takeOutcome (number : BitVec 24) (outcome : LabelOutcome) (origin : Origin) (s : State) : State :=
  match s.label.inFlight.find? (·.number == number) with
  | none => offer (occur (.label .strayOutcome) origin) s
  | some u => deliveries (applyOutcome u outcome origin (s.landed number))

/-- R151: the in-flight update of a label number whose deadline has been reached. -/
def dueUpdate (s : State) (number : BitVec 24) : Option LabelUpdate :=
  match s.label.inFlight.find? (·.number == number) with
  | some u =>
    match u.deadline with
    | some d => if deadlineReached s.tick d then some u else none
    | none => none
  | none => none

/-! ## READY (R146) -/

/-- R146: the credit a READY reports, with a count above 16 taken as 16, and the delivery events that follow. -/
def takeReady (slots : Byte) (s : State) : State :=
  deliveries { s with label := { s.label with credit := min 16 slots.toNat } }

/-! ## Recovery (R154) -/

/-- R154: the in-flight updates that a newer queued update supersedes at their return (R150). -/
def LabelEngine.lostAtRecovery (l : LabelEngine) : List LabelUpdate :=
  l.inFlight.filter fun u => holdsLabel l.queue u.number

/-- R154: the in-flight updates taken back, in the order of the in-flight list. -/
def LabelEngine.takenBack (l : LabelEngine) : List LabelUpdate :=
  (l.inFlight.filter fun u => !holdsLabel l.queue u.number).map LabelUpdate.returned

/-- R154: the engine after a recovery. -/
def LabelEngine.recovered (l : LabelEngine) : LabelEngine :=
  { l with queue := l.takenBack ++ l.queue, inFlight := [], credit := 0, pacingTimer := none }

/-- R154: every in-flight update taken back to the head of the label queue or discarded as superseded, the credit 0 and
the pacing timer stopped, as one event with one comparison of the label pair (R156). -/
def labelRecovery (s : State) : State :=
  let lost := s.label.lostAtRecovery.length
  (List.replicate lost (occur (.label .superseded) (builtOrigin .label))).foldl (fun s o => offer o s)
    (compareChanged .label s.pool.labelHeld
      { s with label := s.label.recovered, pool := s.pool.freeLabel lost })

end Sys2Proof.Machine
end

