-- ==== Sys2Proof/Machine/Schedule.lean ====
section
/-! DEFINITION. The store clock and the day schedule: the tick advance, the second advance, level settings, firing,
replay and the clock set (R19, R159 to R166). -/

namespace Sys2Proof.Machine

/-! ## The ticks of the clock (R19, R159) -/

/-- R159: the store clock at an advance of the ms tick. A wrap of the sub-second count makes a second advance due. -/
def Clock.ticked (c : Clock) : Clock :=
  if c.set then
    if 999 ≤ c.sub then { c with sub := 0, due := c.due + 1 } else { c with sub := c.sub + 1 }
  else c

/-- R159: a reading one second on: 86,399 returns to 0 with the next day, and day 65,535 to 0. -/
def StoreTime.next (t : StoreTime) : StoreTime :=
  if t.second < 86399 then { t with second := t.second + 1 }
  else ⟨if t.day < 65535 then t.day + 1 else 0, 0⟩

/-- R159: the store clock after one second advance. -/
def Clock.advanced (c : Clock) : Clock := { c with time := c.time.next, due := c.due - 1 }

/-! ## Level settings (R164) -/

/-- R164, R63: the profile level setting takes a value and an origin. -/
def setProfile (value : DayNight) (origin : LevelOrigin) (s : State) : State :=
  let s1 := { s with levels := { s.levels with profile := ⟨value, origin⟩ } }
  if s.levels.profile.value = value then s1 else switchProfile s.levels.profile.value value s1

/-- R164, R155: the label window takes a value and an origin; its opening is followed by the delivery events. -/
def setLabelWindow (value : Gate) (origin : LevelOrigin) (s : State) : State :=
  let s1 := { s with levels := { s.levels with labelWindow := ⟨value, origin⟩ } }
  if s.levels.labelWindow.value ≠ value ∧ value = .opened then deliveries s1 else s1

/-- R79: the guest table and the hold queue of the GUEST meter emptied. -/
def closeGuest (s : State) : State :=
  { s with
    guest := { s.guest with table := [] }
    meters := { s.meters with guest := { s.meters.guest with hold := [] } } }

/-- R164, R79: the guest state takes a value and an origin; its closing empties the guest table and the GUEST hold
queue. -/
def setGuestState (value : Gate) (origin : LevelOrigin) (s : State) : State :=
  let s1 := { s with levels := { s.levels with guestState := ⟨value, origin⟩ } }
  if s.levels.guestState.value ≠ value ∧ value = .closed then closeGuest s1 else s1

/-! ## Firing (R162, R163) -/

/-- R162: the effect of a schedule action, for the origin it records. -/
def act (action : ScheduleAction) (origin : LevelOrigin) (s : State) : State :=
  match action with
  | .dayProfile => setProfile .day origin s
  | .nightProfile => setProfile .night origin s
  | .labelsOpen => setLabelWindow .opened origin s
  | .labelsClosed => setLabelWindow .closed origin s
  | .guestOpen => setGuestState .opened origin s
  | .guestClosed => setGuestState .closed origin s
  | .call => nightCall s

/-- R163: one entry considers the new second of day. -/
def fireEntry (schedule : Vector ScheduleEntry 16) (second : Nat) (s : State) (i : Fin 16) : State :=
  if schedule[i].enabled ∧ schedule[i].second = second then act schedule[i].action (.entry i) s else s

/-- R163: the entries for the new second of day fire in index order, in RUNNING. -/
def fireEntries (s : State) : State :=
  if s.running then (List.finRange 16).foldl (fireEntry s.schedule s.clock.time.second) s else s

/-- R159, R163: a second advance of a set clock. -/
def advanceSecond (s : State) : State := fireEntries { s with clock := s.clock.advanced }

/-! ## Replay (R165) -/

/-- The three kinds of level entry (R162). -/
inductive LevelKind where
  | profile | labelWindow | guestState
  deriving DecidableEq, Repr

/-- R162: the kind of an action; Call has none. -/
def levelKind : ScheduleAction → Option LevelKind
  | .dayProfile => some .profile
  | .nightProfile => some .profile
  | .labelsOpen => some .labelWindow
  | .labelsClosed => some .labelWindow
  | .guestOpen => some .guestState
  | .guestClosed => some .guestState
  | .call => none

/-- R165: the enabled entries of a kind, in index order. -/
def entriesOf (schedule : Vector ScheduleEntry 16) (k : LevelKind) : List (Fin 16) :=
  (List.finRange 16).filter fun i => schedule[i].enabled && levelKind schedule[i].action == some k

/-- R165: of entries in index order, the one with the greatest second, and of several the highest index. -/
def latest (schedule : Vector ScheduleEntry 16) (entries : List (Fin 16)) : Option (Fin 16) :=
  entries.foldl (fun best i => match best with
    | none => some i
    | some b => if schedule[b].second ≤ schedule[i].second then some i else some b) none

/-- R165: the entry of a kind a replay takes at a second of day: the latest at or before it, otherwise the latest of
all. -/
def replayed (schedule : Vector ScheduleEntry 16) (second : Nat) (k : LevelKind) : Option (Fin 16) :=
  match latest schedule ((entriesOf schedule k).filter fun i => decide (schedule[i].second ≤ second)) with
  | some i => some i
  | none => latest schedule (entriesOf schedule k)

/-- R165: the replay of one kind. A kind with no enabled entry keeps its value and origin. -/
def replayKind (s : State) (k : LevelKind) : State :=
  match replayed s.schedule s.clock.time.second k with
  | none => s
  | some i => act s.schedule[i].action (.replay i) s

/-- R165: the replay of the three level settings. -/
def replay (s : State) : State := [LevelKind.profile, .labelWindow, .guestState].foldl replayKind s

/-- R160, R161: the clock set to a day and second, followed in RUNNING by the replay. A second advance already due is
taken from the new time (R167, assumption 5). -/
def clockSet (day second : Nat) (s : State) : State :=
  let s1 := { s with clock := { s.clock with set := true, time := ⟨day, second⟩, sub := 0 } }
  if s1.running then replay s1 else s1

end Sys2Proof.Machine
end

