-- ==== Sys2Proof/Machine/Messages.lean ====
section
/-! DEFINITION. Messages as the two engines take them: the tests of a night message (R120) and of a base-station message
(R146), and what each kind then does. A message reaches these meanings from a received frame or as a command of its
own. -/

namespace Sys2Proof.Machine

/-! ## Night messages (R120, R123, R128, R129, R134, R137) -/

/-- R120: an ignored night datagram is counted as Night-Foreign. -/
def nightForeign (station : Station) (s : State) : State :=
  offer (occur (.night .nightForeign) (receivedOrigin .uplink station)) s

/-- R120, tests 1 and 2: the collector is set and is the source, and branch number and epoch are the ones in force. -/
def State.fromCollector (s : State) (m : NightSource) : Bool :=
  s.night.settings.collector != 0 && m.address == s.night.settings.collector
    && m.service == s.night.settings.service && m.branch == s.night.settings.branch
    && m.epoch == s.night.settings.epoch

/-- R120: a message from a source, with its fields in range or not, that is taken when it passes. -/
def ifTaken (m : NightSource) (inRange : Bool) (take : State → State) (s : State) : State :=
  if s.fromCollector m && inRange then take s else nightForeign m.station s

/-- R123: a WAKE message. One that is taken in IDLE right after a STOP places its call, as any other in IDLE: R123 and the
table of engine states against R135's "any other kind is ignored" (DESIGN CHOICE, assumption 48). -/
def wakeMessage (m : NightSource) (s : State) : State := ifTaken m true nightCall s

/-- R120, test 4: the fields of a GRANT are in range. -/
def grantInRange (window : Byte) (second : BitVec 32) : Bool := window != 0 && decide (second.toNat ≤ 86399)

/-- R128, R161: a GRANT taken. In CALLING and DRAINING it may set the store clock, and the sends and the completion test
follow (assumption 28). -/
def takeGrant (window : Byte) (day : BitVec 16) (second : BitVec 32) (s : State) : State :=
  if s.night.state = .calling ∨ s.night.state = .draining then
    let s1 := grantTaken window s
    nightFollow (if s.night.settings.followClock then clockSet day.toNat second.toNat s1 else s1)
  else s

/-- R128: a GRANT message. -/
def grantMessage (m : NightSource) (window : Byte) (day : BitVec 16) (second : BitVec 32) (s : State) : State :=
  ifTaken m (grantInRange window second) (takeGrant window day second) s

/-- R129: an ACK message. -/
def ackMessage (m : NightSource) (sequence : Seq) (s : State) : State := ifTaken m true (takeAck m.station sequence) s

/-- R120, test 4: a label update of a LABELS message is in range. -/
def labelInRange (w : LabelWire) : Bool :=
  w.number != 0 && decide (w.page.toNat ≤ 7) && decide (w.text.length ≤ 24)

/-- R137, R138: a LABELS message taken in DRAINING or SETTLING; Night-Foreign in any other state. The Superseded events of
its updates are offered as each update is taken, and the label pair is compared once after the last one (R156): that the
events come before the comparison is the model's choice (DESIGN CHOICE, assumption 52). -/
def takeLabels (station : Station) (batch : BitVec 32) (updates : List LabelWire) (s : State) : State :=
  if s.night.state = .draining ∨ s.night.state = .settling then
    let r := takeUpdates station updates s
    deliveries (sendLabelAck batch r.2 (compareChanged .label s.pool.labelHeld r.1))
  else nightForeign station s

/-- R137: a LABELS message. -/
def labelsMessage (m : NightSource) (batch : BitVec 32) (updates : List LabelWire) (s : State) : State :=
  ifTaken m (!updates.isEmpty && updates.all labelInRange) (takeLabels m.station batch updates) s

/-- R134: a FINISH message. -/
def finishMessage (m : NightSource) (s : State) : State := ifTaken m true finishSession s

/-- R16, R2: a night message that comes as a command of its own reaches the engine in RUNNING with UPLINK UP. In CLOSED
its datagram is dropped as Closed; on a DOWN port nothing is received (assumption 12). -/
def overUplink (station : Station) (take : State → State) (s : State) : State :=
  if !s.up .uplink then s
  else if !s.running then drop .closed (receivedOrigin .uplink station) s
  else take s

/-- R120: a datagram handed to the night engine. -/
def nightDatagram (station : Station) (address : NetAddr) (service : Service) (payload : Bytes) (s : State) : State :=
  match decodeNight station address service payload with
  | some (.wake m) => wakeMessage m s
  | some (.grant m window day second) => grantMessage m window day second s
  | some (.ack m sequence) => ackMessage m sequence s
  | some (.labelsMessage m batch updates) => labelsMessage m batch updates s
  | some (.finish m) => finishMessage m s
  | _ => nightForeign station s

/-! ## Base-station messages (R146, R149) -/

/-- R146: a READY message. -/
def readyMessage (slots : Byte) (s : State) : State := takeReady slots s

/-- R146, R149: an OUTCOME message: Unsupported where its outcome has no meaning or its label number is 0. -/
def outcomeMessage (station : Station) (number : BitVec 24) (value : Byte) (s : State) : State :=
  match labelOutcomeOf value with
  | none => drop .unsupported (receivedOrigin .label station) s
  | some outcome =>
    if number = 0 then drop .unsupported (receivedOrigin .label station) s
    else takeOutcome number outcome (receivedOrigin .label station) s

/-- R10, R16, R2: a base-station message that comes as a command of its own: it reaches the engine in RUNNING with LABEL
UP and the base-station entry present (assumption 12). -/
def overLabel (station : Station) (take : State → State) (s : State) : State :=
  if !s.up .label then s
  else if !s.running then drop .closed (receivedOrigin .label station) s
  else if s.ports.baseStation.isNone then drop .unsupported (receivedOrigin .label station) s
  else take s

/-- R146: a datagram handed to the label delivery engine. -/
def baseStationDatagram (station : Station) (payload : Bytes) (s : State) : State :=
  match decodeBaseStation station payload with
  | some (.ready _ slots) => readyMessage slots s
  | some (.outcome _ number value) => outcomeMessage station number value s
  | _ => drop .unsupported (receivedOrigin .label station) s

end Sys2Proof.Machine
end

