-- ==== Sys2Proof/Machine/Spool.lean ====
section
/-! DEFINITION. The spool unit: tests, record checks, deduplication, appending and the notices to the till (R101 to
R107). -/

namespace Sys2Proof.Machine

/-- R105, R199: an acceptance or refusal notice to the till of a sale record. -/
def tillNotice (s : State) (p : Passage) (t : Fin 32) (kind code : Nat) (number sequence : Seq) : Datagram where
  kind := .notice
  segment := .till
  destination := s.tills[t].address
  sourceService := p.ip.destinationService.getD 0
  destinationService := p.ip.sourceService.getD 0
  payload := recordNoticeBytes kind code number sequence

/-- R102 to R105: the till answered by a notice, and the spool event offered. -/
def answerTill (p : Passage) (copy : LookupCopy) (t : Fin 32) (kind code : Nat) (number sequence : Seq)
    (event : SpoolEvent) (s : State) : State :=
  offer (occur (.spool event) (copyOrigin p.port (sourceStation p.bytes) copy))
    (originate (tillNotice s p t kind code number sequence) (presentEgress .till) s)

/-- R112: the journal record of a sale record. -/
def newRecord (s : State) (t : Fin 32) (number : Seq) (payload : Bytes) : JournalRecord where
  sequence := s.journal.nextSeq
  till := t
  number := number
  time := s.storeTime
  payload := payload

/-- R104: the till table with a till's last accepted record number set. -/
def State.withLastAccepted (s : State) (t : Fin 32) (number : Seq) : State :=
  { s with tills := s.tills.set t { s.tills[t] with lastAccepted := some number } }

/-- R104, steps 1 to 3, and the journal pair's comparison (R115). -/
def append (t : Fin 32) (number : Seq) (payload : Bytes) (s : State) : State :=
  compareChanged .journal s.pool.journalHeld
    (({ s with
        journal := { s.journal with
          records := s.journal.records ++ [newRecord s t number payload]
          nextSeq := s.journal.nextSeq + 1 }
        pool := s.pool.takeJournal (blocksFor payload.length) } : State).withLastAccepted t number)

/-- R104: a new record appended and answered, or refused with FULL. The night engine's sends follow an append (R131). -/
def appendNew (p : Passage) (copy : LookupCopy) (t : Fin 32) (number : Seq) (s : State) : State :=
  let payload := udpPayload p.bytes p.ip
  if s.pool.journalFits (blocksFor payload.length) then
    nightFollow (answerTill p copy t 1 1 number s.journal.nextSeq .accepted (append t number payload s))
  else answerTill p copy t 2 5 number 0 .full s

/-- R103: the distance from the last accepted record number to a record number, mod 2^32. -/
def recordDistance (last number : Seq) : Nat := (number - last).toNat

/-- R103: deduplication. -/
def deduplicate (p : Passage) (copy : LookupCopy) (t : Fin 32) (number : Seq) (s : State) : State :=
  match s.tills[t].lastAccepted with
  | none => appendNew p copy t number s
  | some last =>
    let d := recordDistance last number
    if d = 0 ∨ 2 ^ 31 ≤ d then answerTill p copy t 1 2 number 0 .duplicate s
    else if d = 1 then appendNew p copy t number s
    else appendNew p copy t number
      (offer (weighted (.spool .gap) (d - 1) (copyOrigin p.port (sourceStation p.bytes) copy)) s)

/-- R102: the record checks. -/
def checkRecord (p : Passage) (copy : LookupCopy) (t : Fin 32) (s : State) : State :=
  let payload := udpPayload p.bytes p.ip
  if 1024 < payload.length then answerTill p copy t 2 3 0 0 .tooLong s
  else if payload.length < copy.offset.toNat + 4 then answerTill p copy t 2 4 0 0 .malformed s
  else deduplicate p copy t (tagAt payload copy.offset) s

/-- R31, R101: a Spool frame. One that was not received on TILL is Unsuitable (R31). -/
def spoolFrame (p : Passage) (copy : LookupCopy) (s : State) : State :=
  let origin := copyOrigin p.port (sourceStation p.bytes) copy
  if p.port ≠ .till then drop .unsuitable origin s
  else if !s.running then drop .closed origin s
  else match p.till with
    | none => drop .unknownTill origin s
    | some t =>
      if !tillStillHolds s p t then drop .unknownTill origin s
      else if !(p.ip.unfragmented && p.ip.protocol == 17 && p.ip.payloadOffset.isSome) then drop .unsuitable origin s
      else if !udpChecksumAccepted p.bytes p.ip then drop .unsupported origin s
      else checkRecord p copy t s

end Sys2Proof.Machine
end

