-- ==== Sys2Proof/Machine/Receive.lean ====
section
/-! DEFINITION. The receive path of a frame: receive checks, frame-type sorting, source checks, local delivery, the
open request match and the window lookup (R5 to R12, R16, R25, R71 to R73, R91, R181, R182). -/

namespace Sys2Proof.Machine

/-! ## The guest table's source check (R71 to R73) -/

/-- R71, test 2: a network source lies in the guest range. -/
def State.guestRange (s : State) (a : NetAddr) : Bool :=
  (a &&& s.guest.settings.mask) == (s.guest.settings.base &&& s.guest.settings.mask)
    && a != 0 && a != 0xFFFFFFFF && !s.isGateway .guest a

/-- R72: an entry after a frame of a counted length it passes. -/
def GuestEntry.passed (e : GuestEntry) (address : NetAddr) (counted : Nat) (now : Tick) : GuestEntry :=
  { e with
    address := address
    lastActive := now
    frames := min (2 ^ 32 - 1) (e.frames + 1)
    bytes := min (2 ^ 40 - 1) (e.bytes + counted) }

/-- R73: the entry an admission makes. -/
def newGuest (g : GuestSettings) (station : Station) (address : NetAddr) (counted : Nat) (now : Tick) : GuestEntry where
  station := station
  address := address
  firstSeen := now
  lastActive := now
  level := g.depth
  meterTick := now
  frames := 1
  bytes := counted
  barred := false

/-- The guest table without the entry of a station. -/
def without (table : List GuestEntry) (station : Station) : List GuestEntry := table.filter (·.station != station)

/-- The state with another guest table. -/
def State.withTable (s : State) (table : List GuestEntry) : State := { s with guest := { s.guest with table := table } }

/-- R73: an entry's idle time in ms. -/
def GuestEntry.idle (e : GuestEntry) (now : Tick) : Nat := elapsed now e.lastActive

/-- R73: the entry nearest the tail that is not barred, when it has been idle at least the minimum idle. -/
def GuestUnit.victim (g : GuestUnit) (now : Tick) : Option GuestEntry :=
  match g.table.reverse.find? fun e => !e.barred with
  | some e => if 1000 * g.settings.minIdle ≤ e.idle now then some e else none
  | none => none

/-- R73: a station admitted at the head of the guest table. -/
def admitGuest (station : Station) (address : NetAddr) (counted : Nat) (s : State) : State :=
  s.withTable (newGuest s.guest.settings station address counted s.tick :: s.guest.table)

/-- R73: a frame of an unknown station; `next` is the frame's further passage. -/
def unknownGuest (station : Station) (address : NetAddr) (counted : Nat) (next : State → State) (s : State) : State :=
  let origin := receivedOrigin .guest station
  if s.guest.table.any (·.address == address) then drop .guestConflict origin s
  else if s.guest.table.length < 128 then next (admitGuest station address counted s)
  else match s.guest.victim s.tick with
    | none => drop .guestFull origin s
    | some v =>
      next (admitGuest station address counted
        (offer (occur .evicted origin) (s.withTable (without s.guest.table v.station))))

/-- R72: a frame of a station that an entry holds. -/
def knownGuest (e : GuestEntry) (address : NetAddr) (counted : Nat) (next : State → State) (s : State) : State :=
  let origin := receivedOrigin .guest e.station
  if e.barred then drop .barred origin s
  else if e.address ≠ address ∧ s.guest.table.any (·.address == address) then drop .guestConflict origin s
  else next (s.withTable (e.passed address counted s.tick :: without s.guest.table e.station))

/-- R71: the source check on GUEST. -/
def guestSource (station : Station) (address : NetAddr) (counted : Nat) (next : State → State) (s : State) : State :=
  let origin := receivedOrigin .guest station
  if s.levels.guestState.value = .closed then drop .closed origin s
  else if !s.guestRange address then drop .guestSpoof origin s
  else match s.guestEntry station with
    | some e => knownGuest e address counted next s
    | none => unknownGuest station address counted next s

/-! ## Source checks (R8, R9, R16) -/

/-- R8: the enabled till that holds a station address and a network address. -/
def State.tillOf (s : State) (station : Station) (address : NetAddr) : Option (Fin 32) :=
  (List.finRange 32).find? fun t =>
    s.tills[t].enabled && s.tills[t].station == station && s.tills[t].address == address

/-- R8, R9, R16: the source check of a frame on its port; `next` takes the till number recorded and the state. In
CLOSED no source check is applied. -/
def sourceCheck (port : Segment) (station : Station) (address : NetAddr) (counted : Nat)
    (next : Option (Fin 32) → State → State) (s : State) : State :=
  if !s.running then next none s
  else match port with
    | .till =>
      match s.tillOf station address with
      | some t => next (some t) s
      | none => drop .unknownTill (receivedOrigin .till station) s
    | .guest => guestSource station address counted (next none) s
    | _ => next none s

/-! ## ARP (R11, R194) -/

/-- R11: whether an ARP frame on a port is one the part answers. -/
def arpAnswerable (s : State) (port : Segment) (bs : Bytes) : Bool :=
  word16 bs 14 == 1 && word16 bs 16 == 0x0800 && byteAt bs 18 == 6 && byteAt bs 19 == 4 && word16 bs 20 == 1
    && s.isGateway port (word32 bs 38)

/-- R11: the reply to an ARP request. -/
def arpReply (s : State) (port : Segment) (bs : Bytes) : Frame where
  kind := .arpReply
  bytes := ethernetFrame (word48 bs 22) s.station 0x0806
    (arpReplyContents s.station (s.ports.gateways.get port) (word48 bs 22) (word32 bs 28))
  entryTick := s.tick
  origin := builtOrigin port

/-- R11, R16: an ARP frame at the local-delivery check. -/
def arpFrame (port : Segment) (bs : Bytes) (s : State) : State :=
  if arpAnswerable s port bs then presentOn port (arpReply s port bs) s
  else drop (if s.running then .unsupported else .closed) (receivedOrigin port (sourceStation bs)) s

/-! ## Requests (R181, R182) -/

/-- R177: a local request's source station becomes the alert destination, and the send test is taken. -/
def setAlertDestination (reply : ReplyAddress) (s : State) : State :=
  match reply with
  | .station a _ => alertTest { s with alerts := { s.alerts with destination := some a } }
  | .datagram _ _ => s

/-- R182: a request that passed its arrival tests joins the request queue, or is dropped. -/
def joinRequests (port : Segment) (station : Station) (r : Request) (s : State) : State :=
  if s.agent.queue.length < 8 then
    setAlertDestination r.reply { s with agent := { s.agent with queue := s.agent.queue ++ [r] } }
  else offer (occur .requestDropped (receivedOrigin port station)) s

/-- R12, R181: a management frame: a local request. -/
def localRequest (port : Segment) (bs : Bytes) (s : State) : State :=
  joinRequests port (sourceStation bs) ⟨.station (sourceStation bs) port, bs.drop 14⟩ s

/-- R181: whether a datagram from an address passes the agent's own source test. -/
def State.remoteAllowed (s : State) (a : NetAddr) : Bool :=
  s.night.settings.collector != 0 && a == s.night.settings.collector

/-- R10, R181: a datagram for the agent service. A message of fewer than 3 bytes lacks its tag or its command code
(assumption 15). -/
def remoteRequest (bs : Bytes) (ip : Ipv4) (s : State) : State :=
  let payload := udpPayload bs ip
  if udpChecksumAccepted bs ip && s.remoteAllowed ip.source && decide (3 ≤ payload.length) then
    joinRequests .uplink (sourceStation bs) ⟨.datagram ip.source (ip.sourceService.getD 0), payload⟩ s
  else drop .unsupported (receivedOrigin .uplink (sourceStation bs)) s

/-! ## Window lookup and actions (R25 to R32) -/

/-- R25 to R32: a frame looked up, its hit counted, and the action of its copy taken. -/
def lookupFrame (p : Passage) (s : State) : State :=
  let copy := lookupCopy s.classifier p.port p.ip
  let origin := copyOrigin p.port (sourceStation p.bytes) copy
  let s1 := offer (occur (hitName p.port copy) origin) { s with classifier := s.classifier.hit p.port copy }
  match copy.action with
  | .forward => forwardFrame p copy s1
  | .track => trackFrame p copy s1
  | .spool => spoolFrame p copy s1
  | .drop => drop .denied origin s1

/-- R10, R91: an IPv4 frame that the local-delivery check does not take. -/
def passOn (p : Passage) (s : State) : State :=
  if p.port = .uplink then
    match matchReply s p with
    | some (i, r) => replyFrame p i r s
    | none => lookupFrame p s
  else lookupFrame p s

/-! ## Local delivery (R10, R16) -/

/-- R10: an unfragmented UDP datagram to the gateway address of the receiving segment and a service number. -/
def forService (s : State) (p : Passage) (service : Service) : Bool :=
  p.ip.protocol == 17 && p.ip.unfragmented && s.isGateway p.port p.ip.destination
    && p.ip.destinationService == some service

/-- R10: a datagram that comes from the address and service of the base-station entry. -/
def fromBaseStation (s : State) (ip : Ipv4) : Bool :=
  match s.ports.baseStation with
  | some b => ip.source == b.address && ip.sourceService == some b.service
  | none => false

/-- R10: an IPv4 frame at the local-delivery check, in RUNNING, once the agent has not taken it. -/
def deliverRunning (p : Passage) (s : State) : State :=
  let station := sourceStation p.bytes
  if p.port = .uplink ∧ forService s p s.ports.nightService then
    if udpChecksumAccepted p.bytes p.ip then
      nightDatagram station p.ip.source (p.ip.sourceService.getD 0) (udpPayload p.bytes p.ip) s
    else drop .unsupported (receivedOrigin p.port station) s
  else if p.port = .label ∧ forService s p s.ports.labelService ∧ fromBaseStation s p.ip then
    if udpChecksumAccepted p.bytes p.ip then baseStationDatagram station (udpPayload p.bytes p.ip) s
    else drop .unsupported (receivedOrigin p.port station) s
  else if s.isAnyGateway p.ip.destination then drop .unsupported (receivedOrigin p.port station) s
  else passOn p s

/-- R10, R16: an IPv4 frame at the local-delivery check. -/
def deliverLocal (p : Passage) (s : State) : State :=
  if p.port = .uplink ∧ forService s p s.ports.agentService then remoteRequest p.bytes p.ip s
  else if s.running then deliverRunning p s
  else drop .closed (receivedOrigin p.port (sourceStation p.bytes)) s

/-! ## Receive checks and sorting (R5 to R7) -/

/-- R7, R8: an IPv4 frame that is not broadcast. -/
def ipv4Frame (port : Segment) (bs : Bytes) (s : State) : State :=
  match parseIpv4 bs with
  | none => drop .unsupported (receivedOrigin port (sourceStation bs)) s
  | some ip =>
    sourceCheck port (sourceStation bs) ip.source bs.length (fun till s => deliverLocal ⟨port, bs, ip, till⟩ s) s

/-- R6: frame-type sorting. -/
def sortFrame (port : Segment) (bs : Bytes) (s : State) : State :=
  let type := word16 bs 12
  let unsupported := drop .unsupported (receivedOrigin port (sourceStation bs)) s
  if type = 0x0800 then
    if word48 bs 0 = broadcastStation then unsupported else ipv4Frame port bs s
  else if type = 0x0806 then
    sourceCheck port (sourceStation bs) (word32 bs 28) bs.length (fun _ s => arpFrame port bs s) s
  else if type = s.ports.managementType ∧ port = s.ports.managementPort then localRequest port bs s
  else unsupported

/-- R5: the second receive check, on the counted length. -/
def lengthGood (bs : Bytes) : Bool := decide (60 ≤ bs.length ∧ bs.length ≤ 1518)

/-- R5: the third receive check, on the destination station address. -/
def State.addressedHere (s : State) (bs : Bytes) : Bool := word48 bs 0 == s.station || word48 bs 0 == broadcastStation

/-- R5: a frame received completely on a port. A DOWN port receives nothing (R2). -/
def receiveFrame (port : Segment) (fcsCorrect : Bool) (bs : Bytes) (s : State) : State :=
  if !s.up port then s
  else if !(fcsCorrect && lengthGood bs) then offer (occur (.receiveError port) (builtOrigin port)) s
  else if !s.addressedHere bs then s
  else sortFrame port bs (offer (occur (.received port) (receivedOrigin port (sourceStation bs))) s)

end Sys2Proof.Machine
end

