-- ==== Sys2Proof/Machine/Events.lean ====
section
/-! DEFINITION. The meanings of the rows that are not management commands: resets and links, frames and transmissions,
the ticks and the timers, and the messages of the collector and the base station. An event that cannot occur in a state
changes nothing there (assumption 14). -/

namespace Sys2Proof.Machine

/-! ## Reset and links (R1, R2, R57) -/

/-- R1: device reset. The station address stays (R3); the commands that wait are the outside world's, and the free
serial goes on so that no free value comes twice (assumption 8). -/
def execDeviceReset (s : State) : Host.Outcome State Fault Refusal :=
  .next { State.resetWith s.station s.pending with freeSerial := s.freeSerial }

/-- R2, R54, R178: what follows link-up on a port: a departure on UPLINK, and the send test on the management port. Where
UPLINK is the management port the departure is taken first: the manual gives no order (DESIGN CHOICE, assumption 45). -/
def afterLinkUp (port : Segment) (s : State) : State :=
  let s1 := if port = .uplink then nightFollow (depart s) else s
  if port = s.ports.managementPort then alertTest s1 else s1

/-- LINK_UP (R2). -/
def execLinkUp (port : Segment) (speed : LinkSpeed) (s : State) : Host.Outcome State Fault Refusal :=
  .next (afterLinkUp port { s with links := s.links.set (some speed) port })

/-- R57: the uplink scheduler at link loss on UPLINK, forwarding restart and CLOSE. -/
def Uplink.emptied (u : Uplink) : Uplink :=
  { u with queues := ⟨[], [], [], []⟩, transmitting := none, turn := .transfer, guestGap := 15 }

/-- The state with the uplink scheduler emptied. -/
def State.uplinkEmptied (s : State) : State := { s with uplink := s.uplink.emptied }

/-- The state with one egress queue replaced. -/
def State.withEgress (s : State) (p : EgressPort) (q : List Frame) : State := { s with egress := s.egress.set p q }

/-- R2, R57, R136, R154: what link loss on a port does beyond the link state. -/
def afterLinkLoss (port : Segment) (s : State) : State :=
  match port with
  | .uplink => nightLinkLoss s.uplinkEmptied
  | .till => s.withEgress .till []
  | .label => labelRecovery (s.withEgress .label [])
  | .guest => s.withEgress .guest []
  | .office => s.withEgress .office []

/-- LINK_LOSS (R2): on an UP port. -/
def execLinkLoss (port : Segment) (s : State) : Host.Outcome State Fault Refusal :=
  .next (if s.up port then afterLinkLoss port { s with links := s.links.set none port } else s)

/-! ## Frames (R5, R15, R54) -/

/-- FRAME_RECEIVED (R5). -/
def execFrameReceived (port : Segment) (fcsCorrect : Bool) (bytes : Bytes) (s : State) :
    Host.Outcome State Fault Refusal :=
  .next (receiveFrame port fcsCorrect bytes s)

/-- EGRESS_TRANSMISSION_END (R15): the head of the queue, which was being sent, is removed. -/
def execEgressTransmissionEnd (port : EgressPort) (s : State) : Host.Outcome State Fault Refusal :=
  .next (if s.up (egressSegment port) then s.withEgress port ((s.egress.get port).drop 1) else s)

/-- UPLINK_TRANSMISSION_END (R54): the frame in transmission is gone, and the next departure is taken. -/
def execUplinkTransmissionEnd (s : State) : Host.Outcome State Fault Refusal :=
  .next (if s.up .uplink && s.uplink.transmitting.isSome then
      nightFollow (depart { s with uplink := { s.uplink with transmitting := none } })
    else s)

/-! ## The ms tick (R19, R61, R74, R159) -/

/-- MS_TICK_ADVANCE (R19): the tick and the store clock's sub-second count advance. The events a tick makes due are rows
of their own (assumptions 4 and 5). -/
def execMsTickAdvance (s : State) : Host.Outcome State Fault Refusal :=
  .next { s with tick := s.tick + 1, agingDue := (s.tick + 1).toNat % 1000 == 0, clock := s.clock.ticked }

/-- METER_RELEASE (R61): none for a meter that holds nothing. A release from the TRANSFER hold queue may let the night
engine send (R131). -/
def execMeterRelease (meter : Meter) (s : State) : Host.Outcome State Fault Refusal :=
  .next (if (s.meters.get meter).hold = [] then s
    else if meter = .transfer then nightFollow (releaseMeter meter s)
    else releaseMeter meter s)

/-- R74: whether an entry stays at an aging event. -/
def GuestEntry.staysAt (e : GuestEntry) (g : GuestSettings) (now : Tick) : Bool :=
  e.barred || decide (e.idle now ≤ 1000 * g.idleLimit)

/-- R74: the guest table after an aging event. -/
def GuestUnit.aged (g : GuestUnit) (now : Tick) : GuestUnit :=
  { g with table := g.table.filter fun e => e.staysAt g.settings now }

/-- GUEST_AGING (R74). -/
def execGuestAging (s : State) : Host.Outcome State Fault Refusal :=
  .next (if s.agingDue then { s with agingDue := false, guest := s.guest.aged s.tick } else s)

/-- SECOND_ADVANCE (R159, R163). -/
def execSecondAdvance (s : State) : Host.Outcome State Fault Refusal :=
  .next (if s.clock.set && decide (0 < s.clock.due) then advanceSecond s else s)

/-! ## Timers -/

/-- WAITING_EXPIRY (R93, R94). -/
def execWaitingExpiry (slot : Fin 64) (s : State) : Host.Outcome State Fault Refusal :=
  .next (match dueRequest s slot .waiting with
    | some r => expireWaiting slot r s
    | none => s)

/-- HELD_OVER_EXPIRY (R94). -/
def execHeldOverExpiry (slot : Fin 64) (s : State) : Host.Outcome State Fault Refusal :=
  .next (match dueRequest s slot .heldOver with
    | some r => expireHeldOver slot r s
    | none => s)

/-- CALL_TIMER_EXPIRY (R124). -/
def execCallTimerExpiry (s : State) : Host.Outcome State Fault Refusal :=
  .next (if s.night.state = .calling ∧ timerDue s.tick s.night.callTimer then callExpires s else s)

/-- BACKOFF_TIMER_EXPIRY (R127). -/
def execBackoffTimerExpiry (s : State) : Host.Outcome State Fault Refusal :=
  .next (if s.night.state = .backoff ∧ timerDue s.tick s.night.backoffTimer then backoffExpires s else s)

/-- ACK_TIMER_EXPIRY (R132). -/
def execAckTimerExpiry (s : State) : Host.Outcome State Fault Refusal :=
  .next (if s.night.state = .draining ∧ timerDue s.tick s.night.ackTimer then ackExpires s else s)

/-- SETTLE_TIMER_EXPIRY (R134). -/
def execSettleTimerExpiry (s : State) : Host.Outcome State Fault Refusal :=
  .next (if s.night.state = .settling ∧ timerDue s.tick s.night.settleTimer then closeSession s else s)

/-- PACING_TIMER_EXPIRY (R147). -/
def execPacingTimerExpiry (s : State) : Host.Outcome State Fault Refusal :=
  .next (if timerDue s.tick s.label.pacingTimer then
      deliveries { s with label := { s.label with pacingTimer := none } }
    else s)

/-- OUTCOME_TIMEOUT (R151): taken as an OUTCOME of Absent. -/
def execOutcomeTimeout (number : BitVec 24) (s : State) : Host.Outcome State Fault Refusal :=
  .next (match dueUpdate s number with
    | some _ => takeOutcome number (.givenUp .absent) (builtOrigin .label) s
    | none => s)

/-- ALERT_TIMER_EXPIRY (R178). -/
def execAlertTimerExpiry (s : State) : Host.Outcome State Fault Refusal :=
  .next (if timerDue s.tick s.alerts.timer then alertTest { s with alerts := { s.alerts with timer := none } } else s)

/-- LEASE_EXPIRY (R189). -/
def execLeaseExpiry (s : State) : Host.Outcome State Fault Refusal :=
  .next (if timerDue s.tick s.agent.leaseTimer then
      { s with agent := { s.agent with holder := none, leaseTimer := none } }
    else s)

/-! ## Messages of the collector (R120) -/

/-- WAKE (R123). -/
def execWake (m : NightSource) (s : State) : Host.Outcome State Fault Refusal :=
  .next (overUplink m.station (wakeMessage m) s)

/-- GRANT (R128). -/
def execGrant (m : NightSource) (window : Byte) (day : BitVec 16) (second : BitVec 32) (s : State) :
    Host.Outcome State Fault Refusal :=
  .next (overUplink m.station (grantMessage m window day second) s)

/-- ACK (R129). -/
def execAck (m : NightSource) (sequence : Seq) (s : State) : Host.Outcome State Fault Refusal :=
  .next (overUplink m.station (ackMessage m sequence) s)

/-- LABELS_MESSAGE (R137). -/
def execLabelsMessage (m : NightSource) (batch : BitVec 32) (updates : List LabelWire) (s : State) :
    Host.Outcome State Fault Refusal :=
  .next (overUplink m.station (labelsMessage m batch updates) s)

/-- FINISH (R134). -/
def execFinish (m : NightSource) (s : State) : Host.Outcome State Fault Refusal :=
  .next (overUplink m.station (finishMessage m) s)

/-! ## Messages of the base station (R146) -/

/-- READY (R146). -/
def execReady (station : Station) (slots : Byte) (s : State) : Host.Outcome State Fault Refusal :=
  .next (overLabel station (readyMessage slots) s)

/-- OUTCOME (R149). -/
def execOutcome (station : Station) (number : BitVec 24) (value : Byte) (s : State) :
    Host.Outcome State Fault Refusal :=
  .next (overLabel station (outcomeMessage station number value) s)

end Sys2Proof.Machine
end

