-- ==== Sys2Proof/Machine/Agent.lean ====
section
/-! DEFINITION. The management agent's command event: taking the request, the change lock and its lease, statuses and
responses in one or more parts (R12, R183, R184, R188, R189, R195). -/

namespace Sys2Proof.Machine

/-- The statuses, in the order of R183's table. -/
inductive Status where
  | ok | adjusted | endOfTable | busy | locked | noLock | badIndex | badValue | isolation | state | unknown
  deriving DecidableEq, Repr

/-- R195: a status code. -/
def statusCode : Status → Nat
  | .ok => 0
  | .adjusted => 1
  | .endOfTable => 2
  | .busy => 3
  | .locked => 4
  | .noLock => 5
  | .badIndex => 6
  | .badValue => 7
  | .isolation => 8
  | .state => 9
  | .unknown => 10

/-- What a command leaves and answers: the state, the status and the response fields of each part (R184). -/
structure CmdResult where
  state : State
  status : Status
  parts : List Bytes
  deriving DecidableEq, Repr

/-- A command carried out with no response fields. -/
def done (s : State) : CmdResult := ⟨s, .ok, [[]]⟩

/-- A command carried out, with its response fields. -/
def doneWith (fields : Bytes) (s : State) : CmdResult := ⟨s, .ok, [fields]⟩

/-- R183: ADJUSTED in place of OK where a field was clamped. -/
def okUnless (clamped : Bool) : Status := if clamped then .adjusted else .ok

/-- A command carried out, ADJUSTED where a field was clamped. -/
def doneClamped (clamped : Bool) (s : State) : CmdResult := ⟨s, okUnless clamped, [[]]⟩

/-- R183: a refused command changes no state. -/
def refused (status : Status) (s : State) : CmdResult := ⟨s, status, [[]]⟩

/-- R195: a refusal that names an index. -/
def refusedAt (status : Status) (index : Nat) (s : State) : CmdResult := ⟨s, status, [num32 index]⟩

/-! ## Responses (R12, R184) -/

/-- R12, R184: one response part on its way: to a local station on the port its request came in on, or to a remote
address by UPLINK. The frame type and the agent service are the ones in force at the build (assumption 25). -/
def sendPart (q : Requester) (message : Bytes) (s : State) : State :=
  match q.reply with
  | .station a port =>
    presentOn port
      { kind := .response, bytes := ethernetFrame a s.station s.ports.managementType message, entryTick := s.tick,
        origin := builtOrigin port } s
  | .datagram a service =>
    originate
      { kind := .response, segment := .uplink, destination := a, sourceService := s.ports.agentService,
        destinationService := service, payload := message } (presentUplink .urgent) s

/-- R184: the parts of a response sent in part-number order, from a part number on. -/
def sendParts (q : Requester) (code : Nat) (status : Status) : Nat → List Bytes → State → State
  | _, [], s => s
  | n, fields :: rest, s =>
    sendParts q code status (n + 1) rest
      (sendPart q (responseBytes q.tag code (statusCode status) n rest.isEmpty fields) s)

/-- R183, R184: the response to a command. -/
def respond (q : Requester) (code : Nat) (r : CmdResult) : State := sendParts q code r.status 0 r.parts r.state

/-- R184: the bytes of response fields a part may hold: 1,500 or 1,400 less the response header. -/
def partRoom (q : Requester) : Nat :=
  match q.party with
  | .localParty => 1492
  | .remoteParty => 1392

/-- R184: entries grouped in order into parts of whole entries, each of at most a number of bytes. -/
def groupEntries (room : Nat) : List Bytes → Nat → List Bytes → List (List Bytes)
  | group, _, [] => [group]
  | group, size, e :: rest =>
    if size + e.length ≤ room ∨ group = [] then groupEntries room (group ++ [e]) (size + e.length) rest
    else group :: groupEntries room [e] e.length rest

/-! ## The command event (R183, R188, R189) -/

/-- R183: the head request leaves the queue when the command is the one it spells. A command given without a queued
request leaves the queue as it was (assumption 3). -/
def takeRequest (i : Instr) (s : State) : State :=
  match s.agent.queue with
  | r :: rest => if decodeRequest r = i then { s with agent := { s.agent with queue := rest } } else s
  | [] => s

/-- R189: the lease timer started or restarted for the lease in force. -/
def renewLease (s : State) : State :=
  { s with agent := { s.agent with leaseTimer := s.timer (1000 * s.agent.lease) } }

/-- R188: whether a party holds the change lock. -/
def State.holds (s : State) (p : Party) : Bool := s.agent.holder == some p

/-- R183: a command that needs no lock. -/
def openCommand (q : Requester) (i : Instr) (code : Nat) (run : State → CmdResult) (s : State) : State :=
  respond q code (run (takeRequest i s))

/-- R189: a result whose holder's lease is renewed. -/
def CmdResult.renewed (r : CmdResult) : CmdResult := { r with state := renewLease r.state }

/-- R183, R188, R189: a command that requires the change lock: NO-LOCK from a party that does not hold it; otherwise run,
with the lease restarted whatever its status. -/
def lockedCommand (q : Requester) (i : Instr) (code : Nat) (run : State → CmdResult) (s : State) : State :=
  openCommand q i code
    (fun s => if s.holds q.party then (run s).renewed else refused .noLock s) s

end Sys2Proof.Machine
end

