-- ==== Sys2Proof/Machine/Tables.lean ====
section
/-! DEFINITION. Reading tables: the entry of each table in bytes (R196, with the fields its own rule names), the ranges of
R187, READ, READ NEXT and the cursors (R186). Layouts the manual leaves open are named in assumptions 19 to 21. -/

namespace Sys2Proof.Machine

/-! ## Entries -/

/-- R186, R187: the first and last index of a table. -/
def tableRange : Table → Nat × Nat
  | .officeStations => (0, 7)
  | .windowA => (0, 63)
  | .windowB => (0, 63)
  | .defaultsA => (0, 4)
  | .defaultsB => (0, 4)
  | .bankIdentity => (0, 1)
  | .meters => (0, 2)
  | .thresholds => (0, 4)
  | .guestStations => (0, 127)
  | .tills => (1, 32)
  | .openRequests => (0, 63)
  | .journalRecords => (0, 131071)
  | .labelQueue => (0, 131071)
  | .labelInFlight => (0, 15)
  | .labelUndelivered => (0, 255)
  | .schedule => (0, 15)
  | _ => (0, 0)

/-- R3: the bytes of the base-station entry. -/
def baseStationBytes (b : BaseStation) : Bytes := be48 b.station ++ be32 b.address ++ be16 b.service

/-- R3: a PORTS entry; the office station list is read by its own table. -/
def portsBytes (s : State) : Bytes :=
  be48 s.station ++ segments.flatMap (fun g => be32 (s.ports.gateways.get g)) ++ optField 6 be48 s.ports.nextHop
    ++ optField 12 baseStationBytes s.ports.baseStation ++ num8 (segmentNumber s.ports.managementPort)
    ++ be16 s.ports.managementType ++ be16 s.ports.agentService ++ be16 s.ports.nightService
    ++ be16 s.ports.labelService

/-- R3: an OFFICE STATIONS entry. -/
def officeBytes (o : OfficeStation) : Bytes := yesNo o.enabled ++ be48 o.station ++ be32 o.address

/-- R20, R37: a window entry, hit count included. -/
def windowBytes (e : WindowEntry) : Bytes :=
  yesNo e.enabled ++ yesNo e.pinned ++ [sourcesByte e.sources] ++ num8 (keys.idxOf e.key) ++ be32 e.base ++ be32 e.mask
    ++ optField 1 (fun p => [p]) e.protocol ++ optField 4 (fun r => be16 r.1 ++ be16 r.2) e.range
    ++ num8 (windowActions.idxOf e.action) ++ num8 (segmentNumber e.destination) ++ optField 4 be32 e.translate
    ++ num8 (uplinkClasses.idxOf e.uplinkClass) ++ yesNo e.mark ++ [e.offset] ++ be32 e.hits

/-- R22, R37: a default, hit count included. -/
def defaultBytes (d : SegmentDefault) : Bytes :=
  num8 d.forwards.toNat ++ num8 (segmentNumber d.destination) ++ num8 (uplinkClasses.idxOf d.uplinkClass)
    ++ be32 d.hits

/-- R65: the UPLINK entry. -/
def uplinkBytes (s : State) : Bytes :=
  uplinkQueues.flatMap (fun q => num16 (s.uplink.limits.get q))
    ++ uplinkQueues.flatMap (fun q => num16 (s.uplink.queues.get q).length)
    ++ num8 s.uplink.daySpacing ++ num8 s.uplink.drainSpacing ++ num8 s.spacing ++ num16 s.uplink.residence
    ++ num8 (if s.uplink.turn = .transfer then 0 else 1) ++ num8 s.uplink.guestGap

/-- R58: a profile. -/
def profileBytes (p : Profile) : Bytes := num32 p.rate ++ num32 p.depth ++ num8 (meterActions.idxOf p.action)

/-- The code of Day or Night (R195). -/
def dayNightCode : DayNight → Nat
  | .day => 0
  | .night => 1

/-- The code of open or closed (R195). -/
def gateCode : Gate → Nat
  | .opened => 0
  | .closed => 1

/-- R58, R65, R196: a METERS entry: the fields in the order of R58's table, then the profile in use, which that table
does not hold (assumption 21). -/
def meterBytes (s : State) (m : ShareMeter) : Bytes :=
  num32 m.level ++ be32 m.lastTick ++ profileBytes m.day ++ profileBytes m.night ++ num8 m.hold.length
    ++ num8 (dayNightCode s.levels.profile.value)

/-- R66: one threshold. -/
def thresholdBytes (t : Threshold) : Bytes :=
  num32 t.value ++ yesNo t.enabled ++ yesNo t.armed ++ yesNo t.resultValid ++ num8 (if t.last = .below then 0 else 1)

/-- R66: a THRESHOLDS entry. -/
def pairBytes (p : ThresholdPair) : Bytes := thresholdBytes p.low ++ thresholdBytes p.high

/-- R69: the guest settings. -/
def guestSettingsBytes (g : GuestSettings) : Bytes :=
  be32 g.base ++ be32 g.mask ++ num16 g.minIdle ++ num32 g.idleLimit ++ num32 g.rate ++ num32 g.depth

/-- R81: the GUEST entry. -/
def guestBytes (s : State) : Bytes :=
  guestSettingsBytes s.guest.settings ++ num8 (gateCode s.levels.guestState.value) ++ num8 s.guest.table.length

/-- R70, R81: a GUEST STATIONS entry. -/
def guestEntryBytes (e : GuestEntry) : Bytes :=
  be48 e.station ++ be32 e.address ++ be32 e.firstSeen ++ be32 e.lastActive ++ num32 e.level ++ be32 e.meterTick
    ++ num32 e.frames ++ be40 (BitVec.ofNat 40 e.bytes) ++ yesNo e.barred

/-- R83, R99: a TILLS entry, with the count of open request entries it holds. -/
def tillBytes (s : State) (t : Fin 32) : Bytes :=
  yesNo s.tills[t].enabled ++ be48 s.tills[t].station ++ be32 s.tills[t].address ++ num8 s.tills[t].openLimit
    ++ yesNo s.tills[t].holdOver ++ optField 4 be32 s.tills[t].lastAccepted ++ num8 (s.tracker.openCount t)

/-- R85, R99: the TRACKER entry. -/
def trackerBytes (k : Tracker) : Bytes :=
  num16 k.replyTimeout ++ num32 k.lateWindow ++ num8 (k.slots.toList.countP (·.isSome))

/-- R86, R99: the fields of an open request entry. A tracked frame's copy always has a window index (R30). -/
def requestBytes (r : OpenRequest) : Bytes :=
  num8 (r.till.val + 1) ++ be16 r.tillService ++ be32 r.tag ++ be32 r.originalAddress ++ be16 r.originalService
    ++ be32 r.serverAddress ++ be16 r.serverService ++ [r.tagOffset]
    ++ num8 (match r.windowIndex with | some i => i.val | none => 0) ++ yesNo r.mark ++ be32 r.sentTick
    ++ num8 r.resends ++ num8 (if r.state = .waiting then 0 else 1) ++ be32 r.deadline

/-- R110, R117: the POOL entry, journal reserve before label reserve (DESIGN CHOICE, assumption 47). -/
def poolBytes (p : Pool) : Bytes :=
  num32 p.journalReserve ++ num32 p.labelReserve ++ num32 p.free ++ num32 p.journalHeld ++ num32 p.labelHeld

/-- R117: the JOURNAL entry. -/
def journalBytes (s : State) : Bytes :=
  be32 s.journal.oldest ++ be32 s.journal.nextToSend ++ be32 s.journal.newest ++ be32 s.journal.nextSeq
    ++ num32 s.journal.records.length ++ num32 s.pool.journalHeld

/-- R112, R117: a JOURNAL RECORDS entry, without its payload. -/
def journalRecordBytes (r : JournalRecord) : Bytes :=
  be32 r.sequence ++ num8 (r.till.val + 1) ++ be32 r.number ++ storeTimeBytes r.time ++ num16 r.payload.length

/-- R119: the NIGHT entry. -/
def nightBytes (n : NightSettings) : Bytes :=
  be32 n.collector ++ be16 n.service ++ be16 n.branch ++ be32 n.epoch ++ yesNo n.followClock ++ num16 n.callTimeout
    ++ num16 n.ackTimeout ++ num16 n.settleTimeout ++ num8 n.shortLimit ++ num8 n.longLimit

/-- R122, R197: an engine state's code, IDLE 0 through FAILED 5. -/
def nightStateCode : NightState → Nat
  | .idle => 0
  | .calling => 1
  | .draining => 2
  | .settling => 3
  | .backoff => 4
  | .failed => 5

/-- R141: the timer of the engine's state. -/
def Night.runningTimer (n : Night) : Option Timer :=
  match n.state with
  | .calling => n.callTimer
  | .draining => n.ackTimer
  | .settling => n.settleTimer
  | .backoff => n.backoffTimer
  | _ => none

/-- R141: the NIGHT STATUS entry. The time left is 0 when no timer runs, of which R141 says nothing (DESIGN CHOICE,
assumption 49). -/
def nightStatusBytes (s : State) : Bytes :=
  num8 (nightStateCode s.night.state) ++ num8 s.night.attempts ++ num8 s.night.shortRetries ++ num8 s.night.window
    ++ num32 s.journal.outstanding ++ num32 (timerLeft s.tick s.night.runningTimer) ++ num16 s.night.retryTotal
    ++ yesNo s.night.rollover ++ be16 s.night.generator ++ be32 s.journal.oldest ++ be32 s.journal.nextToSend
    ++ be32 s.journal.newest

/-- R143, R157: the LABEL entry. -/
def labelBytes (s : State) : Bytes :=
  num8 s.label.settings.pacing ++ num8 s.label.settings.attemptLimit ++ num16 s.label.settings.outcomeTimeout
    ++ num8 s.label.credit ++ num8 (gateCode s.levels.labelWindow.value) ++ num8 (timerLeft s.tick s.label.pacingTimer)
    ++ num32 s.label.queue.length ++ num8 s.label.inFlight.length ++ num16 s.label.undelivered.length
    ++ num32 s.pool.labelHeld

/-- R142, R157: a LABEL QUEUE or LABEL IN-FLIGHT entry. -/
def updateBytes (u : LabelUpdate) : Bytes :=
  be24 u.number ++ [u.page] ++ num16 u.text.length ++ u.text ++ yesNo u.flash ++ optField 8 be64 u.item
    ++ num8 u.attempts ++ be32 u.firstQueued ++ optField 4 be32 u.sentTick ++ optField 4 be32 u.deadline

/-- R152: the code of a last outcome, Absent 0, Busy 1, Rejected 2. -/
def givenUpCode : GivenUp → Nat
  | .absent => 0
  | .busy => 1
  | .rejected => 2

/-- R152, R157: a LABEL UNDELIVERED entry. -/
def undeliveredBytes (u : UndeliveredRecord) : Bytes :=
  be24 u.number ++ [u.page] ++ num8 u.attempts ++ num8 (givenUpCode u.last)

/-- R162: a SCHEDULE entry. -/
def scheduleBytes (e : ScheduleEntry) : Bytes :=
  yesNo e.enabled ++ num32 e.second ++ num8 (scheduleActions.idxOf e.action)

/-- R164, R168: an origin: its code, Reset 0 to Command 3, and the index of Entry and Replay, 0 for the others. -/
def originBytes : LevelOrigin → Bytes
  | .reset => [0, 0]
  | .entry i => 1 :: num8 i.val
  | .replay i => 2 :: num8 i.val
  | .command => [3, 0]

/-- R168: the CLOCK entry; the reading is 0 while the clock is unset. -/
def clockBytes (s : State) : Bytes :=
  yesNo s.clock.set
    ++ (if s.clock.set then num16 s.clock.time.day ++ num32 s.clock.time.second ++ num16 s.clock.sub
        else List.replicate 8 0)
    ++ num8 (dayNightCode s.levels.profile.value) ++ originBytes s.levels.profile.origin
    ++ num8 (gateCode s.levels.labelWindow.value) ++ originBytes s.levels.labelWindow.origin
    ++ num8 (gateCode s.levels.guestState.value) ++ originBytes s.levels.guestState.origin

/-- R171, R179: one counter of the COUNTERS entry. -/
def counterBytes (c : Counter) : Bytes :=
  be32 c.value ++ yesNo c.overflow ++ num8 (selectorCodes c.selector).1 ++ num8 (selectorCodes c.selector).2
    ++ num8 (conditions.idxOf c.condition) ++ yesNo c.run

/-- R175: the state of a sample record as a code. -/
def SampleRecord.code : SampleRecord → Byte
  | .empty => 0
  | .held _ => 1
  | .reported _ => 2

/-- R175, R179: the sample record: its state, empty 0, held 1, reported 2, and its 16 field bytes, zeros when it holds no
fields (assumption 19). -/
def sampleRecordBytes (r : SampleRecord) : Bytes :=
  r.code :: (match r.fields with | some x => sampleBytes x | none => List.replicate 16 0)

/-- R179: the COUNTERS entry. -/
def countersBytes (u : CounterUnit) : Bytes :=
  u.counters.toList.flatMap counterBytes ++ yesNo u.group.globalEnable ++ yesNo u.group.alertEnable1
    ++ yesNo u.group.alertEnable28 ++ yesNo u.group.trigger ++ yesNo u.group.freezeOnAlert ++ yesNo u.frozen
    ++ num8 (if u.triggerState = .waiting then 0 else 1) ++ sampleRecordBytes u.sample

/-- R179: the ALERTS entry. -/
def alertsBytes (s : State) : Bytes :=
  num16 s.alerts.interval ++ optField 6 be48 s.alerts.destination ++ sourcesBytes s.alerts.pending
    ++ num16 (timerLeft s.tick s.alerts.timer) ++ be16 s.alerts.number

/-- R185, R191: the lease time left in seconds, rounded up. R185 states the rounding for IDENTIFY; that a READ of AGENT
rounds as it does is the model's choice (DESIGN CHOICE, assumption 51). -/
def State.leaseLeft (s : State) : Nat := (timerLeft s.tick s.agent.leaseTimer + 999) / 1000

/-- R197: a holder's code, nobody 0, Local 1, Remote 2. -/
def holderCode : Option Party → Nat
  | none => 0
  | some .localParty => 1
  | some .remoteParty => 2

/-- R191: a cursor, with its table code and position, or unset. -/
def cursorBytes (c : Option Cursor) : Bytes := optField 5 (fun c => num8 (tableCode c.table) ++ num32 c.position) c

/-- R191: the AGENT entry. R191 names "each party's cursor" and gives the two no order: the Local cursor comes first (DESIGN
CHOICE, assumption 53). -/
def agentBytes (s : State) : Bytes :=
  num16 s.agent.lease ++ num8 (holderCode s.agent.holder) ++ num16 s.leaseLeft ++ num8 s.agent.queue.length
    ++ cursorBytes s.agent.localCursor ++ cursorBytes s.agent.remoteCursor

/-- The entries of a bank's window table. -/
def bankWindow (b : Bank) : List Bytes := b.entries.toList.map windowBytes

/-- The entries of a bank's defaults. -/
def bankDefaults (b : Bank) : List Bytes := segments.map fun g => defaultBytes (b.defaults.get g)

/-- R186: the entries of a table present at the command event, from its first index on. -/
def tableEntries (s : State) : Table → List Bytes
  | .ports => [portsBytes s]
  | .officeStations => s.office.toList.map officeBytes
  | .windowA => bankWindow s.classifier.bankA
  | .windowB => bankWindow s.classifier.bankB
  | .defaultsA => bankDefaults s.classifier.bankA
  | .defaultsB => bankDefaults s.classifier.bankB
  | .bankIdentity => [be32 s.classifier.bankA.identity, be32 s.classifier.bankB.identity]
  | .uplink => [uplinkBytes s]
  | .meters => [meterBytes s s.meters.guest, meterBytes s s.meters.office, meterBytes s s.meters.transfer]
  | .thresholds =>
    [PairId.guestMeter, .officeMeter, .transferMeter, .journal, .label].map fun i => pairBytes (s.thresholds.get i)
  | .guest => [guestBytes s]
  | .guestStations => s.guest.table.map guestEntryBytes
  | .tills => (List.finRange 32).map (tillBytes s)
  | .tracker => [trackerBytes s.tracker]
  | .openRequests => s.tracker.slots.toList.map (optField 32 requestBytes)
  | .pool => [poolBytes s.pool]
  | .journal => [journalBytes s]
  | .journalRecords => s.journal.records.map journalRecordBytes
  | .night => [nightBytes s.night.settings]
  | .nightStatus => [nightStatusBytes s]
  | .label => [labelBytes s]
  | .labelQueue => s.label.queue.map updateBytes
  | .labelInFlight => s.label.inFlight.map updateBytes
  | .labelUndelivered => s.label.undelivered.map undeliveredBytes
  | .schedule => s.schedule.toList.map scheduleBytes
  | .clock => [clockBytes s]
  | .counters => [countersBytes s.counters]
  | .alerts => [alertsBytes s]
  | .agent => [agentBytes s]

/-! ## READ and READ NEXT (R186) -/

/-- A party's cursor. -/
def Agent.cursor (a : Agent) : Party → Option Cursor
  | .localParty => a.localCursor
  | .remoteParty => a.remoteCursor

/-- The state with a party's cursor set. -/
def State.withCursor (s : State) (p : Party) (c : Cursor) : State :=
  match p with
  | .localParty => { s with agent := { s.agent with localCursor := some c } }
  | .remoteParty => { s with agent := { s.agent with remoteCursor := some c } }

/-- R184, R195: the parts of a READ response: each the table code, the first index it returns, its entry count and its
whole entries (assumption 20). A response that returns no entry (R186) has one part, whose first index is the one the READ
asked for, or the cursor's position for READ NEXT: R195 does not say what it holds then (DESIGN CHOICE, assumption 54). -/
def readParts (t : Table) : Nat → List (List Bytes) → List Bytes
  | _, [] => []
  | first, group :: rest =>
    (num8 (tableCode t) ++ num32 first ++ num16 group.length ++ group.flatten)
      :: readParts t (first + group.length) rest

/-- R186: the entries a READ returns. -/
def entriesRead (s : State) (t : Table) (first count : Nat) : List Bytes :=
  ((tableEntries s t).drop (first - (tableRange t).1)).take (clamp 1 256 count)

/-- R186: whether a READ reaches the end of its table. -/
def reachesEnd (s : State) (t : Table) (first count : Nat) : Bool :=
  decide ((tableEntries s t).length ≤ (first - (tableRange t).1) + (entriesRead s t first count).length)

/-- R186: entries returned from a first index, and the requester's cursor after the last of them. The entries are read
before the cursor moves, so a READ of AGENT shows the requester's cursor as it was: R186 and R183 leave it open (DESIGN
CHOICE, assumption 50). -/
def readFrom (q : Requester) (t : Table) (first count : Nat) (s : State) : CmdResult where
  state := s.withCursor q.party ⟨t, first + (entriesRead s t first count).length⟩
  status := if reachesEnd s t first count then .endOfTable else okUnless (clamp 1 256 count != count)
  parts := readParts t first (groupEntries (partRoom q - 7) [] 0 (entriesRead s t first count))

/-- R186: READ. -/
def readTable (q : Requester) (table : Byte) (first : BitVec 32) (count : BitVec 16) (s : State) : CmdResult :=
  match tableOf table with
  | none => refused .badIndex s
  | some t =>
    if first.toNat < (tableRange t).1 ∨ (tableRange t).2 < first.toNat then refused .badIndex s
    else readFrom q t first.toNat count.toNat s

/-- R186: READ NEXT. -/
def readOn (q : Requester) (count : BitVec 16) (s : State) : CmdResult :=
  match s.agent.cursor q.party with
  | none => refused .state s
  | some c => readFrom q c.table c.position count.toNat s

end Sys2Proof.Machine
end

