-- ==== Sys2Proof/Machine/Writes.lean ====
section
/-! DEFINITION. Writing tables: the tests, clamps and effects of each WRITE (R3, R4, R21 to R23, R53, R58, R66, R69, R83,
R84, R85, R110, R119, R143, R162, R178, R187, R191, R196). Each is what a write does once the lock test has passed. -/

namespace Sys2Proof.Machine

/-! ## Shared tests -/

/-- The first index of a write of `count` entries that lies outside a table's range. -/
def indexFault (low high first count : Nat) : Option Nat :=
  if first < low ∨ high < first then some first
  else if high + 1 < first + count then some (high + 1)
  else none

/-- A run of entries written to consecutive places from one on. -/
def writeRun {α : Type} {n : Nat} (v : Vector α n) (place : Nat) (written : List α) : Vector α n :=
  Vector.ofFn fun i => if place ≤ i.val then (written[i.val - place]?).getD v[i] else v[i]

/-- R187, R196: a write of a table of one entry, index 0: BAD-INDEX, then BAD-VALUE for a count of 0, then the entry. -/
def writeSingle {α : Type} (first : BitVec 32) (entries : List α) (take : α → State → CmdResult) (s : State) :
    CmdResult :=
  if (indexFault 0 0 first.toNat entries.length).isSome then refused .badIndex s
  else match entries with
    | [] => refused .badValue s
    | w :: _ => take w s

/-- R187, R196: a write of a table with several indices: BAD-INDEX, then BAD-VALUE for a count of 0, then the entries. -/
def writeMany {α : Type} (low high : Nat) (first : BitVec 32) (entries : List α) (take : State → CmdResult)
    (s : State) : CmdResult :=
  if (indexFault low high first.toNat entries.length).isSome then refused .badIndex s
  else if entries.isEmpty then refused .badValue s
  else take s

/-- R21, R83: a write whose refusals name the index of the first entry at fault: BAD-INDEX, then BAD-VALUE, where `fault`
gives the place among the entries of the first that breaks a value rule. A count of 0 names no index (assumption
24). -/
def writeNamed {α : Type} (low high : Nat) (first : BitVec 32) (entries : List α) (fault : Option Nat)
    (take : State → CmdResult) (s : State) : CmdResult :=
  match indexFault low high first.toNat entries.length with
  | some i => refusedAt .badIndex i s
  | none =>
    if entries.isEmpty then refused .badValue s
    else match fault with
      | some k => refusedAt .badValue (first.toNat + k) s
      | none => take s

/-! ## PORTS and OFFICE STATIONS (R3, R4) -/

/-- R3: the frame types a management frame type may not hold. -/
def forbiddenType (t : BitVec 16) : Bool :=
  decide (t.toNat < 0x0600) || t == 0x0800 || t == 0x0806 || t == 0x8100 || t == 0x88A8 || t == 0x9100

/-- R3: a service number, 0 clamped to 1. -/
def serviceOf (v : Service) : Service := if v = 0 then 1 else v

/-- R3: a base-station entry with its service number clamped (assumption 31). -/
def baseStationOf (b : BaseStation) : BaseStation := { b with service := serviceOf b.service }

/-- R3: whether a PORTS write holds a service number of 0. -/
def portsClamped (w : PortsWrite) : Bool :=
  w.agentService == 0 || w.nightService == 0 || w.labelService == 0
    || (match w.baseStation with | some b => b.service == 0 | none => false)

/-- R3: the settings a PORTS write gives, with its management port. -/
def portSettingsOf (w : PortsWrite) (port : Segment) : PortSettings where
  gateways := w.gateways
  nextHop := w.nextHop
  baseStation := w.baseStation.map baseStationOf
  managementPort := port
  managementType := w.managementType
  agentService := serviceOf w.agentService
  nightService := serviceOf w.nightService
  labelService := serviceOf w.labelService

/-- R3, R177: the port settings replaced; a changed management port makes the alert destination absent. -/
def State.withPorts (s : State) (p : PortSettings) : State :=
  { s with
    ports := p
    alerts := { s.alerts with
      destination := if p.managementPort = s.ports.managementPort then s.alerts.destination else none } }

/-- R3: a PORTS write. The delivery events of R147 follow it. -/
def writePortsEntry (w : PortsWrite) (s : State) : CmdResult :=
  match segmentOf w.managementPort with
  | none => refused .badValue s
  | some port =>
    if forbiddenType w.managementType then refused .badValue s
    else if serviceOf w.agentService = serviceOf w.nightService then refused .badValue s
    else doneClamped (portsClamped w) (deliveries (s.withPorts (portSettingsOf w port)))

/-- R3: WRITE of PORTS. -/
def writePortsRun (first : BitVec 32) (entries : List PortsWrite) (s : State) : CmdResult :=
  writeSingle first entries writePortsEntry s

/-- R4: whether two enabled entries of the office station list, one of them at a written place, hold one address. -/
def officeConflict (v : Vector OfficeStation 8) (first count : Nat) : Bool :=
  (List.finRange 8).any fun i => decide (first ≤ i.val ∧ i.val < first + count) && v[i].enabled &&
    (List.finRange 8).any fun j => i != j && v[j].enabled && v[j].address == v[i].address

/-- R4: WRITE of OFFICE STATIONS. -/
def writeOfficeRun (first : BitVec 32) (entries : List OfficeStation) (s : State) : CmdResult :=
  writeMany 0 7 first entries (fun s =>
    let office := writeRun s.office first.toNat entries
    if officeConflict office first.toNat entries.length then refused .badValue s
    else done { s with office := office }) s

/-! ## The banks (R21 to R23) -/

/-- The state with the contents of a bank replaced. -/
def State.withBank (s : State) (i : BankId) (b : Bank) : State := { s with classifier := s.classifier.setBank i b }

/-- R21: WRITE of WINDOW A or WINDOW B. -/
def writeWindowRun (bank : BankId) (first : BitVec 32) (entries : List WindowWrite) (s : State) : CmdResult :=
  if bank = s.classifier.active then refused .state s
  else
    writeNamed 0 63 first entries (entries.findIdx? fun w => (windowEntryOf w).isNone) (fun s =>
      let old := s.classifier.bank bank
      done (s.withBank bank
        { old with entries := writeRun old.entries first.toNat (entries.filterMap windowEntryOf) })) s

/-- R22: the defaults of a bank with some replaced from a segment number on. -/
def writeDefaultsIn (d : PerSegment SegmentDefault) (first : Nat) (written : List SegmentDefault) :
    PerSegment SegmentDefault :=
  segments.foldl (fun acc g =>
    if first ≤ segmentNumber g then
      match written[segmentNumber g - first]? with
      | some x => acc.set x g
      | none => acc
    else acc) d

/-- R22: WRITE of DEFAULTS A or DEFAULTS B. -/
def writeDefaultsRun (bank : BankId) (first : BitVec 32) (entries : List DefaultWrite) (s : State) : CmdResult :=
  if bank = s.classifier.active then refused .state s
  else
    writeNamed 0 4 first entries (entries.findIdx? fun w => (segmentDefaultOf w).isNone) (fun s =>
      let old := s.classifier.bank bank
      done (s.withBank bank
        { old with defaults := writeDefaultsIn old.defaults first.toNat (entries.filterMap segmentDefaultOf) })) s

/-- R23: the bank an index of BANK IDENTITY names. -/
def bankOf (i : Nat) : BankId := if i = 0 then .a else .b

/-- R23: WRITE of BANK IDENTITY. A write that names the active bank's index is refused with STATE. -/
def writeIdentityRun (first : BitVec 32) (entries : List (BitVec 32)) (s : State) : CmdResult :=
  writeMany 0 1 first entries (fun s =>
    if entries.length = 1 ∧ bankOf first.toNat ≠ s.classifier.active then
      done (s.withBank (bankOf first.toNat)
        { s.classifier.bank (bankOf first.toNat) with identity := entries.headD 0 })
    else refused .state s) s

/-! ## UPLINK, METERS, THRESHOLDS (R53, R58, R66) -/

/-- R53: whether an UPLINK write holds a value outside its range. -/
def uplinkClamped (w : UplinkWrite) : Bool :=
  clamp 2 16 w.daySpacing.toNat != w.daySpacing.toNat || clamp 2 16 w.drainSpacing.toNat != w.drainSpacing.toNat
    || clamp 1 1000 w.residence.toNat != w.residence.toNat

/-- R53: WRITE of UPLINK. -/
def writeUplinkRun (first : BitVec 32) (entries : List UplinkWrite) (s : State) : CmdResult :=
  writeSingle first entries (fun w s =>
    doneClamped (uplinkClamped w) { s with uplink := { s.uplink with
      daySpacing := clamp 2 16 w.daySpacing.toNat
      drainSpacing := clamp 2 16 w.drainSpacing.toNat
      residence := clamp 1 1000 w.residence.toNat } }) s

/-- R58: both profiles of a written METERS entry. -/
def profilesOf (w : MeterWrite) : Option (Profile × Profile) := do
  let day ← profileOf w.day
  let night ← profileOf w.night
  some (day, night)

/-- The meters in index order (R58). -/
def meterList : List Meter := [.guest, .office, .transfer]

/-- R58: action Drop in either profile of the TRANSFER meter. -/
def transferDrops (i : Meter) (p : Profile × Profile) : Bool :=
  i == .transfer && (p.1.action == .drop || p.2.action == .drop)

/-- R63: a meter takes new profiles: where they change the rate or depth in use, it is first refilled under the old
ones, and its level then capped at the new depth. -/
def ShareMeter.rewritten (m : ShareMeter) (inUse : DayNight) (now : Tick) (p : Profile × Profile) : ShareMeter :=
  let old := m.profile inUse
  let m' := { m with day := p.1, night := p.2 }
  let new := m'.profile inUse
  if old.rate = new.rate ∧ old.depth = new.depth then m'
  else { m' with level := min (m.refill old now).level new.depth, lastTick := now }

/-- R58: one meter written. -/
def writeMeter (s : State) (x : Meter × (Profile × Profile)) : State :=
  s.setMeter x.1 ((s.meters.get x.1).rewritten s.levels.profile.value s.tick x.2)

/-- R58: WRITE of METERS. Of several entries, the meters are taken in index order: the manual gives none (DESIGN CHOICE,
assumption 46). -/
def writeMetersRun (first : BitVec 32) (entries : List MeterWrite) (s : State) : CmdResult :=
  writeMany 0 2 first entries (fun s =>
    let targets := (meterList.drop first.toNat).zip (entries.filterMap profilesOf)
    if (entries.any fun w => (profilesOf w).isNone) || targets.any (fun x => transferDrops x.1 x.2) then
      refused .badValue s
    else
      doneClamped (entries.any fun w => profileAdjusted w.day || profileAdjusted w.night)
        (targets.foldl writeMeter s)) s

/-- The threshold pairs in index order (R66). -/
def pairList : List PairId := [.guestMeter, .officeMeter, .transferMeter, .journal, .label]

/-- R66: the top of the range of a pair's threshold values. -/
def pairRange : PairId → Nat
  | .journal => 131072
  | .label => 131072
  | _ => 1048576

/-- R66: one pair written; writing does not compare. -/
def writePair (t : Thresholds) (x : PairId × PairWrite) : Thresholds :=
  t.set x.1 ⟨(t.get x.1).low.written (pairRange x.1) x.2.low, (t.get x.1).high.written (pairRange x.1) x.2.high⟩

/-- R66: whether a written pair holds a value above its range. -/
def pairClamped (x : PairId × PairWrite) : Bool :=
  decide (pairRange x.1 < x.2.low.value.toNat) || decide (pairRange x.1 < x.2.high.value.toNat)

/-- R66: WRITE of THRESHOLDS. -/
def writeThresholdsRun (first : BitVec 32) (entries : List PairWrite) (s : State) : CmdResult :=
  writeMany 0 4 first entries (fun s =>
    let targets := (pairList.drop first.toNat).zip entries
    doneClamped (targets.any pairClamped) { s with thresholds := targets.foldl writePair s.thresholds }) s

/-! ## GUEST (R69) -/

/-- R69: written guest settings, clamped. -/
def guestSettingsOf (w : GuestWrite) : GuestSettings where
  base := w.base
  mask := w.mask
  minIdle := clamp 10 3600 w.minIdle.toNat
  idleLimit := clamp 60 86400 w.idleLimit.toNat
  rate := clamp 0 131071 w.rate.toNat
  depth := clamp 1536 1048576 w.depth.toNat

/-- R69: whether a GUEST write holds a value outside its range. -/
def guestClamped (w : GuestWrite) : Bool :=
  (guestSettingsOf w).minIdle != w.minIdle.toNat || (guestSettingsOf w).idleLimit != w.idleLimit.toNat
    || (guestSettingsOf w).rate != w.rate.toNat || (guestSettingsOf w).depth != w.depth.toNat

/-- R69: the guest unit with new settings: each entry's level lowered to the new depth. -/
def GuestUnit.withSettings (g : GuestUnit) (settings : GuestSettings) : GuestUnit where
  settings := settings
  table := g.table.map fun e => { e with level := min e.level settings.depth }

/-- R69: WRITE of GUEST. -/
def writeGuestRun (first : BitVec 32) (entries : List GuestWrite) (s : State) : CmdResult :=
  writeSingle first entries (fun w s =>
    doneClamped (guestClamped w) { s with guest := s.guest.withSettings (guestSettingsOf w) }) s

/-! ## TILLS and TRACKER (R83 to R85) -/

/-- R83: whether an enabled till's network address is one that no till may hold. -/
def tillAddressBad (s : State) (a : NetAddr) : Bool := a == 0 || a == 0xFFFFFFFF || s.isGateway .till a

/-- R83: whether a till of a written table breaks a value rule. -/
def tillFault (s : State) (v : Vector TillEntry 32) (i : Fin 32) : Bool :=
  v[i].enabled && (tillAddressBad s v[i].address ||
    (List.finRange 32).any fun j =>
      i != j && v[j].enabled && (v[j].station == v[i].station || v[j].address == v[i].address))

/-- R83: the place among the written entries of the first one at fault. -/
def tillsFault (s : State) (v : Vector TillEntry 32) (place count : Nat) : Option Nat :=
  ((List.finRange 32).find? fun i => decide (place ≤ i.val ∧ i.val < place + count) && tillFault s v i).map
    fun i => i.val - place

/-- R83: the till table with entries written from a till number on. -/
def tillsWritten (s : State) (first : BitVec 32) (entries : List TillWrite) : Vector TillEntry 32 :=
  writeRun s.tills (first.toNat - 1) (entries.map tillEntryOf)

/-- R83, R84: WRITE of TILLS; every open request entry of each written till is freed. -/
def writeTillsRun (first : BitVec 32) (entries : List TillWrite) (s : State) : CmdResult :=
  writeNamed 1 32 first entries
    (tillsFault s (tillsWritten s first entries) (first.toNat - 1) entries.length) (fun s =>
      doneClamped (entries.any fun w => clamp 1 4 w.openLimit.toNat != w.openLimit.toNat)
        { s with
          tills := tillsWritten s first entries
          tracker := s.tracker.freeTills fun t =>
            decide (first.toNat - 1 ≤ t.val ∧ t.val < first.toNat - 1 + entries.length) }) s

/-- R85: WRITE of TRACKER. -/
def writeTrackerRun (first : BitVec 32) (entries : List TrackerWrite) (s : State) : CmdResult :=
  writeSingle first entries (fun w s =>
    doneClamped
      (clamp 100 60000 w.replyTimeout.toNat != w.replyTimeout.toNat
        || clamp 0 120000 w.lateWindow.toNat != w.lateWindow.toNat)
      { s with tracker := { s.tracker with
          replyTimeout := clamp 100 60000 w.replyTimeout.toNat
          lateWindow := clamp 0 120000 w.lateWindow.toNat } }) s

/-! ## POOL, NIGHT, LABEL (R110, R119, R143) -/

/-- R110: the reserves a POOL write gives: each clamped, then the label reserve lowered to fit. -/
def reservesOf (w : PoolWrite) : Nat × Nat :=
  let journal := clamp 0 131072 w.journalReserve.toNat
  (journal, min (clamp 0 131072 w.labelReserve.toNat) (131072 - journal))

/-- R110: WRITE of POOL. -/
def writePoolRun (first : BitVec 32) (entries : List PoolWrite) (s : State) : CmdResult :=
  writeSingle first entries (fun w s =>
    doneClamped ((reservesOf w).1 != w.journalReserve.toNat || (reservesOf w).2 != w.labelReserve.toNat)
      { s with pool := { s.pool with journalReserve := (reservesOf w).1, labelReserve := (reservesOf w).2 } }) s

/-- R119: written night settings, clamped. -/
def nightSettingsOf (w : NightWrite) : NightSettings where
  collector := w.collector
  service := serviceOf w.service
  branch := w.branch
  epoch := w.epoch
  followClock := w.followClock
  callTimeout := clamp 500 30000 w.callTimeout.toNat
  ackTimeout := clamp 1000 60000 w.ackTimeout.toNat
  settleTimeout := clamp 5 600 w.settleTimeout.toNat
  shortLimit := clamp 0 3 w.shortLimit.toNat
  longLimit := clamp 0 7 w.longLimit.toNat

/-- R119: whether a NIGHT write holds a value outside its range. -/
def nightClamped (w : NightWrite) : Bool :=
  w.service == 0 || (nightSettingsOf w).callTimeout != w.callTimeout.toNat
    || (nightSettingsOf w).ackTimeout != w.ackTimeout.toNat
    || (nightSettingsOf w).settleTimeout != w.settleTimeout.toNat
    || (nightSettingsOf w).shortLimit != w.shortLimit.toNat || (nightSettingsOf w).longLimit != w.longLimit.toNat

/-- R119: WRITE of NIGHT. -/
def writeNightRun (first : BitVec 32) (entries : List NightWrite) (s : State) : CmdResult :=
  writeSingle first entries (fun w s =>
    doneClamped (nightClamped w) { s with night := { s.night with settings := nightSettingsOf w } }) s

/-- R143: written label settings, clamped. -/
def labelSettingsOf (w : LabelWrite) : LabelSettings where
  pacing := w.pacing.toNat
  attemptLimit := clamp 1 15 w.attemptLimit.toNat
  outcomeTimeout := clamp 1000 60000 w.outcomeTimeout.toNat

/-- R143: WRITE of LABEL. -/
def writeLabelRun (first : BitVec 32) (entries : List LabelWrite) (s : State) : CmdResult :=
  writeSingle first entries (fun w s =>
    doneClamped
      ((labelSettingsOf w).attemptLimit != w.attemptLimit.toNat
        || (labelSettingsOf w).outcomeTimeout != w.outcomeTimeout.toNat)
      { s with label := { s.label with settings := labelSettingsOf w } }) s

/-! ## SCHEDULE, ALERTS, AGENT (R162, R178, R191) -/

/-- R162: WRITE of SCHEDULE; it fires nothing and replays nothing. -/
def writeScheduleRun (first : BitVec 32) (entries : List ScheduleWrite) (s : State) : CmdResult :=
  writeMany 0 15 first entries (fun s =>
    if entries.any fun w => (scheduleEntryOf w).isNone then refused .badValue s
    else
      doneClamped (entries.any fun w => decide (86399 < w.second.toNat))
        { s with schedule := writeRun s.schedule first.toNat (entries.filterMap scheduleEntryOf) }) s

/-- R178: WRITE of ALERTS. -/
def writeAlertsRun (first : BitVec 32) (entries : List (BitVec 16)) (s : State) : CmdResult :=
  writeSingle first entries (fun w s =>
    doneClamped (clamp 100 60000 w.toNat != w.toNat)
      { s with alerts := { s.alerts with interval := clamp 100 60000 w.toNat } }) s

/-- R191: WRITE of AGENT. -/
def writeAgentRun (first : BitVec 32) (entries : List (BitVec 16)) (s : State) : CmdResult :=
  writeSingle first entries (fun w s =>
    doneClamped (clamp 60 3600 w.toNat != w.toNat)
      { s with agent := { s.agent with lease := clamp 60 3600 w.toNat } }) s

/-! ## WRITE (R187) -/

/-- R187: what the write that a table code and the bytes of its entries spell does: the write of its table, or BAD-INDEX
for a read-only table and a table without meaning; none where the request holds fewer entries than it states, which
is UNKNOWN (R196). -/
def writeRunOf (q : Requester) (table : Byte) (first : BitVec 32) (count : BitVec 16) (data : Bytes) :
    Option (State → CmdResult) :=
  match decodeWrite q table first count data with
  | .writePorts _ f es => some (writePortsRun f es)
  | .writeOfficeStations _ f es => some (writeOfficeRun f es)
  | .writeWindow _ bank f es => some (writeWindowRun bank f es)
  | .writeDefaults _ bank f es => some (writeDefaultsRun bank f es)
  | .writeBankIdentity _ f es => some (writeIdentityRun f es)
  | .writeUplink _ f es => some (writeUplinkRun f es)
  | .writeMeters _ f es => some (writeMetersRun f es)
  | .writeThresholds _ f es => some (writeThresholdsRun f es)
  | .writeGuest _ f es => some (writeGuestRun f es)
  | .writeTills _ f es => some (writeTillsRun f es)
  | .writeTracker _ f es => some (writeTrackerRun f es)
  | .writePool _ f es => some (writePoolRun f es)
  | .writeNight _ f es => some (writeNightRun f es)
  | .writeLabel _ f es => some (writeLabelRun f es)
  | .writeSchedule _ f es => some (writeScheduleRun f es)
  | .writeAlerts _ f es => some (writeAlertsRun f es)
  | .writeAgent _ f es => some (writeAgentRun f es)
  | .write _ _ _ _ _ => some (refused .badIndex)
  | _ => none

end Sys2Proof.Machine
end

