-- ==== Sys2Proof/Machine/Commands.lean ====
section
/-! DEFINITION. The meanings of the management rows: what each command does at its command event, and its response (R17,
R18, R33, R52, R80, R116, R123, R135, R152, R160, R166, R172, R176, R183 to R191). -/

namespace Sys2Proof.Machine

/-! ## Identity and reading -/

/-- R185, R197: the fields of the IDENTIFY response, silicon revision 1 among them. -/
def identifyBytes (s : State) : Bytes :=
  num16 0x4F5A ++ num16 6416 ++ num8 1 ++ be48 s.station ++ num8 (if s.running then 1 else 0)
    ++ num8 (if s.classifier.active = .a then 0 else 1) ++ be32 s.classifier.bankA.identity
    ++ be32 s.classifier.bankB.identity ++ num8 (holderCode s.agent.holder) ++ num16 s.leaseLeft
    ++ num8 (nightStateCode s.night.state)

/-- IDENTIFY (R185). -/
def execIdentify (q : Requester) (s : State) : Host.Outcome State Fault Refusal :=
  .next (openCommand q (.identify q) 0x01 (fun s => doneWith (identifyBytes s) s) s)

/-- READ (R186). -/
def execRead (q : Requester) (table : Byte) (first : BitVec 32) (count : BitVec 16) (s : State) :
    Host.Outcome State Fault Refusal :=
  .next (openCommand q (.read q table first count) 0x02 (readTable q table first count) s)

/-- READ_NEXT (R186). -/
def execReadNext (q : Requester) (count : BitVec 16) (s : State) : Host.Outcome State Fault Refusal :=
  .next (openCommand q (.readNext q count) 0x03 (readOn q count) s)

/-! ## Writing -/

/-- WRITE (R187): a write given by its table code and the bytes of its entries. -/
def execWrite (q : Requester) (table : Byte) (first : BitVec 32) (count : BitVec 16) (data : Bytes) (s : State) :
    Host.Outcome State Fault Refusal :=
  .next (match writeRunOf q table first count data with
    | some run => lockedCommand q (.write q table first count data) 0x04 run s
    | none => openCommand q (.write q table first count data) 0x04 (refused .unknown) s)

/-- WRITE_PORTS (R3). -/
def execWritePorts (q : Requester) (first : BitVec 32) (entries : List PortsWrite) (s : State) :
    Host.Outcome State Fault Refusal :=
  .next (lockedCommand q (.writePorts q first entries) 0x04 (writePortsRun first entries) s)

/-- WRITE_OFFICE_STATIONS (R4). -/
def execWriteOfficeStations (q : Requester) (first : BitVec 32) (entries : List OfficeStation) (s : State) :
    Host.Outcome State Fault Refusal :=
  .next (lockedCommand q (.writeOfficeStations q first entries) 0x04 (writeOfficeRun first entries) s)

/-- WRITE_WINDOW (R21). -/
def execWriteWindow (q : Requester) (bank : BankId) (first : BitVec 32) (entries : List WindowWrite) (s : State) :
    Host.Outcome State Fault Refusal :=
  .next (lockedCommand q (.writeWindow q bank first entries) 0x04 (writeWindowRun bank first entries) s)

/-- WRITE_DEFAULTS (R22). -/
def execWriteDefaults (q : Requester) (bank : BankId) (first : BitVec 32) (entries : List DefaultWrite) (s : State) :
    Host.Outcome State Fault Refusal :=
  .next (lockedCommand q (.writeDefaults q bank first entries) 0x04 (writeDefaultsRun bank first entries) s)

/-- WRITE_BANK_IDENTITY (R23). -/
def execWriteBankIdentity (q : Requester) (first : BitVec 32) (entries : List (BitVec 32)) (s : State) :
    Host.Outcome State Fault Refusal :=
  .next (lockedCommand q (.writeBankIdentity q first entries) 0x04 (writeIdentityRun first entries) s)

/-- WRITE_UPLINK (R53). -/
def execWriteUplink (q : Requester) (first : BitVec 32) (entries : List UplinkWrite) (s : State) :
    Host.Outcome State Fault Refusal :=
  .next (lockedCommand q (.writeUplink q first entries) 0x04 (writeUplinkRun first entries) s)

/-- WRITE_METERS (R58). -/
def execWriteMeters (q : Requester) (first : BitVec 32) (entries : List MeterWrite) (s : State) :
    Host.Outcome State Fault Refusal :=
  .next (lockedCommand q (.writeMeters q first entries) 0x04 (writeMetersRun first entries) s)

/-- WRITE_THRESHOLDS (R66). -/
def execWriteThresholds (q : Requester) (first : BitVec 32) (entries : List PairWrite) (s : State) :
    Host.Outcome State Fault Refusal :=
  .next (lockedCommand q (.writeThresholds q first entries) 0x04 (writeThresholdsRun first entries) s)

/-- WRITE_GUEST (R69). -/
def execWriteGuest (q : Requester) (first : BitVec 32) (entries : List GuestWrite) (s : State) :
    Host.Outcome State Fault Refusal :=
  .next (lockedCommand q (.writeGuest q first entries) 0x04 (writeGuestRun first entries) s)

/-- WRITE_TILLS (R83, R84). -/
def execWriteTills (q : Requester) (first : BitVec 32) (entries : List TillWrite) (s : State) :
    Host.Outcome State Fault Refusal :=
  .next (lockedCommand q (.writeTills q first entries) 0x04 (writeTillsRun first entries) s)

/-- WRITE_TRACKER (R85). -/
def execWriteTracker (q : Requester) (first : BitVec 32) (entries : List TrackerWrite) (s : State) :
    Host.Outcome State Fault Refusal :=
  .next (lockedCommand q (.writeTracker q first entries) 0x04 (writeTrackerRun first entries) s)

/-- WRITE_POOL (R110). -/
def execWritePool (q : Requester) (first : BitVec 32) (entries : List PoolWrite) (s : State) :
    Host.Outcome State Fault Refusal :=
  .next (lockedCommand q (.writePool q first entries) 0x04 (writePoolRun first entries) s)

/-- WRITE_NIGHT (R119). -/
def execWriteNight (q : Requester) (first : BitVec 32) (entries : List NightWrite) (s : State) :
    Host.Outcome State Fault Refusal :=
  .next (lockedCommand q (.writeNight q first entries) 0x04 (writeNightRun first entries) s)

/-- WRITE_LABEL (R143). -/
def execWriteLabel (q : Requester) (first : BitVec 32) (entries : List LabelWrite) (s : State) :
    Host.Outcome State Fault Refusal :=
  .next (lockedCommand q (.writeLabel q first entries) 0x04 (writeLabelRun first entries) s)

/-- WRITE_SCHEDULE (R162). -/
def execWriteSchedule (q : Requester) (first : BitVec 32) (entries : List ScheduleWrite) (s : State) :
    Host.Outcome State Fault Refusal :=
  .next (lockedCommand q (.writeSchedule q first entries) 0x04 (writeScheduleRun first entries) s)

/-- WRITE_ALERTS (R178). -/
def execWriteAlerts (q : Requester) (first : BitVec 32) (entries : List (BitVec 16)) (s : State) :
    Host.Outcome State Fault Refusal :=
  .next (lockedCommand q (.writeAlerts q first entries) 0x04 (writeAlertsRun first entries) s)

/-- WRITE_AGENT (R191). -/
def execWriteAgent (q : Requester) (first : BitVec 32) (entries : List (BitVec 16)) (s : State) :
    Host.Outcome State Fault Refusal :=
  .next (lockedCommand q (.writeAgent q first entries) 0x04 (writeAgentRun first entries) s)

/-! ## SWAP and the part state (R17, R18, R33) -/

/-- R33: SWAP. -/
def swapRun (s : State) : CmdResult :=
  match (s.classifier.bank s.classifier.shadow).offence with
  | some index => ⟨s, .isolation, [be32 index]⟩
  | none =>
    doneWith
      (num8 (if s.classifier.shadow = .a then 0 else 1)
        ++ be32 (s.classifier.bank s.classifier.shadow).identity)
      { s with classifier := { s.classifier with active := s.classifier.shadow } }

/-- SWAP (R33). -/
def execSwap (q : Requester) (s : State) : Host.Outcome State Fault Refusal :=
  .next (lockedCommand q (.swap q) 0x05 swapRun s)

/-- The state with a part state (R16). -/
def State.withPart (s : State) (p : PartState) : State := { s with agent := { s.agent with partState := p } }

/-- R17, R190: OPEN, followed by the replay when the clock is set. -/
def openRun (s : State) : CmdResult :=
  if s.running then refused .state s
  else done (if s.clock.set then replay (s.withPart .running) else s.withPart .running)

/-- OPEN (R17). -/
def execOpen (q : Requester) (s : State) : Host.Outcome State Fault Refusal :=
  .next (lockedCommand q (.openPart q) 0x06 openRun s)

/-- R17, R18, R57: the egress queues and the uplink scheduler emptied. -/
def State.flushed (s : State) : State := { s with egress := ⟨[], [], [], []⟩, uplink := s.uplink.emptied }

/-- R17, R135: the forced stop of the night engine when it is not IDLE. -/
def forcedStop (s : State) : State := if s.night.state = .idle then s else closeSession s

/-- R17, R98, R154: CLOSED, the queues and the hold queues emptied, the night engine stopped, the open request table
emptied, the in-flight label updates taken back. -/
def closePart (s : State) : State :=
  let s1 := (s.withPart .closed).flushed
  let s2 := forcedStop { s1 with meters := s1.meters.emptied }
  labelRecovery { s2 with tracker := s2.tracker.emptied }

/-- R17: CLOSE. -/
def closeRun (s : State) : CmdResult := if s.running then done (closePart s) else refused .state s

/-- CLOSE (R17). -/
def execClose (q : Requester) (s : State) : Host.Outcome State Fault Refusal :=
  .next (lockedCommand q (.closePart q) 0x07 closeRun s)

/-- R180: the alert unit at forwarding restart. -/
def AlertUnit.restarted (a : AlertUnit) : AlertUnit := { a with pending := Vector.replicate 14 none, timer := none }

/-- R82: the guest unit at forwarding restart: every station meter at its depth. -/
def GuestUnit.restarted (g : GuestUnit) (now : Tick) : GuestUnit :=
  { g with table := g.table.map fun e => { e with level := g.settings.depth, meterTick := now } }

/-- R18, R57, R64, R82, R140, R154, R180: forwarding restart. The pending set is emptied before the meters' levels are
set (R180, assumption 27). -/
def restartPart (s : State) : State :=
  let s1 := { s.flushed with alerts := s.alerts.restarted }
  let s2 := meterList.foldl restartMeter s1
  labelRecovery (nightRestart { s2 with guest := s2.guest.restarted s2.tick })

/-- RESTART (R18). -/
def execRestart (q : Requester) (s : State) : Host.Outcome State Fault Refusal :=
  .next (lockedCommand q (.restart q) 0x10 (fun s => done (restartPart s)) s)

/-! ## Clock and levels (R160, R166) -/

/-- R160: SET CLOCK. -/
def setClockRun (day : BitVec 16) (second : BitVec 32) (s : State) : CmdResult where
  state := clockSet day.toNat (clamp 0 86399 second.toNat) s
  status := okUnless (clamp 0 86399 second.toNat != second.toNat)
  parts := [be16 day ++ num32 (clamp 0 86399 second.toNat)]

/-- SET_CLOCK (R160). -/
def execSetClock (q : Requester) (day : BitVec 16) (second : BitVec 32) (s : State) :
    Host.Outcome State Fault Refusal :=
  .next (lockedCommand q (.setClock q day second) 0x08 (setClockRun day second) s)

/-- R166, R195: PROFILE: Day 0, Night 1. -/
def profileRun (value : Byte) (s : State) : CmdResult :=
  match value.toNat with
  | 0 => done (setProfile .day .command s)
  | 1 => done (setProfile .night .command s)
  | _ => refused .badValue s

/-- PROFILE (R166). -/
def execProfile (q : Requester) (value : Byte) (s : State) : Host.Outcome State Fault Refusal :=
  .next (lockedCommand q (.profile q value) 0x11 (profileRun value) s)

/-- R166, R195: the gate a byte names: open 0, closed 1. -/
def gateOf (value : Byte) : Option Gate :=
  match value.toNat with
  | 0 => some .opened
  | 1 => some .closed
  | _ => none

/-- R166: LABELS. -/
def labelsRun (value : Byte) (s : State) : CmdResult :=
  match gateOf value with
  | some g => done (setLabelWindow g .command s)
  | none => refused .badValue s

/-- LABELS (R166). -/
def execLabels (q : Requester) (value : Byte) (s : State) : Host.Outcome State Fault Refusal :=
  .next (lockedCommand q (.labels q value) 0x0A (labelsRun value) s)

/-- R166: GUEST. -/
def guestRun (value : Byte) (s : State) : CmdResult :=
  match gateOf value with
  | some g => done (setGuestState g .command s)
  | none => refused .badValue s

/-- GUEST (R166). -/
def execGuest (q : Requester) (value : Byte) (s : State) : Host.Outcome State Fault Refusal :=
  .next (lockedCommand q (.guest q value) 0x0B (guestRun value) s)

/-! ## Night transfer and journal (R116, R123, R135) -/

/-- R123: CALL. -/
def callRun (s : State) : CmdResult := if s.callTaken then done (nightCall s) else refused .state s

/-- CALL (R123). -/
def execCall (q : Requester) (s : State) : Host.Outcome State Fault Refusal :=
  .next (lockedCommand q (.call q) 0x0C callRun s)

/-- R135: STOP. -/
def stopRun (s : State) : CmdResult := if s.night.state = .idle then refused .state s else done (closeSession s)

/-- STOP (R135). -/
def execStop (q : Requester) (s : State) : Host.Outcome State Fault Refusal :=
  .next (lockedCommand q (.stop q) 0x0D stopRun s)

/-- R116: the journal emptied, its blocks freed, and the journal pair's comparison. -/
def discardJournal (s : State) : State :=
  compareChanged .journal s.pool.journalHeld
    { s with
      journal := { s.journal with records := [], oldest := s.journal.nextSeq, nextToSend := s.journal.nextSeq }
      pool := s.pool.freeJournal s.pool.journalHeld }

/-- R116: JOURNAL DISCARD. -/
def discardRun (s : State) : CmdResult :=
  if s.night.state = .idle ∨ s.night.state = .failed then
    doneWith (num32 s.journal.records.length ++ num32 s.pool.journalHeld) (discardJournal s)
  else refused .busy s

/-- JOURNAL_DISCARD (R116). -/
def execJournalDiscard (q : Requester) (s : State) : Host.Outcome State Fault Refusal :=
  .next (lockedCommand q (.journalDiscard q) 0x0E discardRun s)

/-! ## Queues and guests (R52, R80) -/

/-- R52: the four limits clamped. -/
def limitsOf (w : QueueLimitsWrite) : PerQueue Nat where
  urgent := clamp 1 256 w.urgent.toNat
  transfer := clamp 1 256 w.transfer.toNat
  office := clamp 1 256 w.office.toNat
  guest := clamp 1 256 w.guest.toNat

/-- R52: the sum of four limits. -/
def limitsSum (l : PerQueue Nat) : Nat := l.urgent + l.transfer + l.office + l.guest

/-- R52: whether a limit was clamped. -/
def limitsClamped (w : QueueLimitsWrite) : Bool :=
  (limitsOf w).urgent != w.urgent.toNat || (limitsOf w).transfer != w.transfer.toNat
    || (limitsOf w).office != w.office.toNat || (limitsOf w).guest != w.guest.toNat

/-- R52: ADJUST QUEUES. A raised limit may let the night engine send (R131). -/
def adjustQueuesRun (w : QueueLimitsWrite) (s : State) : CmdResult :=
  if 256 < limitsSum (limitsOf w) then refused .badValue s
  else doneClamped (limitsClamped w) (nightFollow { s with uplink := { s.uplink with limits := limitsOf w } })

/-- ADJUST_QUEUES (R52). -/
def execAdjustQueues (q : Requester) (limits : QueueLimitsWrite) (s : State) : Host.Outcome State Fault Refusal :=
  .next (lockedCommand q (.adjustQueues q limits) 0x0F (adjustQueuesRun limits) s)

/-- R80: BAR. -/
def barRun (station : Station) (s : State) : CmdResult :=
  match s.guestEntry station with
  | none => refused .badValue s
  | some _ => done (s.withGuest station fun e => { e with barred := true })

/-- BAR (R80). -/
def execBar (q : Requester) (station : Station) (s : State) : Host.Outcome State Fault Refusal :=
  .next (lockedCommand q (.bar q station) 0x13 (barRun station) s)

/-- R80: UNBAR: a barred entry takes the tick of the command and moves to the head. -/
def unbarRun (station : Station) (s : State) : CmdResult :=
  match s.guestEntry station with
  | none => refused .badValue s
  | some e =>
    if e.barred then
      done (s.withTable ({ e with barred := false, lastActive := s.tick } :: without s.guest.table station))
    else done s

/-- UNBAR (R80). -/
def execUnbar (q : Requester) (station : Station) (s : State) : Host.Outcome State Fault Refusal :=
  .next (lockedCommand q (.unbar q station) 0x14 (unbarRun station) s)

/-! ## Counters, alerts and labels (R152, R172, R176) -/

/-- R172: the selector and condition a written counter names. -/
def counterFieldsOf (w : CounterWrite) : Option (Selector × Condition) := do
  let selector ← selectorOf w.kind w.qualifier
  let condition ← conditions[w.condition.toNat]?
  some (selector, condition)

/-- R172: a counter with its selector, condition and run flag replaced. -/
def Counter.configured (c : Counter) (w : CounterWrite) : Counter :=
  match counterFieldsOf w with
  | some f => { c with selector := f.1, condition := f.2, run := w.run }
  | none => c

/-- R172: COUNTERS Configure; a refusal names the first counter at fault. -/
def configureRun (written : Vector CounterWrite 8) (group : GroupControls) (s : State) : CmdResult :=
  match (List.finRange 8).find? fun i => (counterFieldsOf written[i]).isNone with
  | some i => refusedAt .badValue (i.val + 1) s
  | none =>
    done { s with counters := { s.counters with
      counters := Vector.ofFn fun i => s.counters.counters[i].configured written[i]
      group := group } }

/-- COUNTERS_CONFIGURE (R172). -/
def execCountersConfigure (q : Requester) (counters : Vector CounterWrite 8) (group : GroupControls) (s : State) :
    Host.Outcome State Fault Refusal :=
  .next (lockedCommand q (.countersConfigure q counters group) 0x15 (configureRun counters group) s)

/-- R172: the counters at Start. -/
def CounterUnit.started (u : CounterUnit) : CounterUnit :=
  { u with frozen := false, triggerState := if u.group.trigger then .waiting else .released, sample := .empty }

/-- R172: COUNTERS Start. R183: a form byte that spells no form of COUNTERS is a value without meaning. -/
def startRun (form : Byte) (s : State) : CmdResult :=
  if form = 2 then done { s with counters := s.counters.started } else refused .badValue s

/-- COUNTERS_START (R172). -/
def execCountersStart (q : StartRequest) (s : State) : Host.Outcome State Fault Refusal :=
  .next (lockedCommand q.by_ (.countersStart q) 0x15 (startRun q.form) s)

/-- R172: whether a byte is a counter number. -/
def counterNumber (n : Byte) : Bool := decide (1 ≤ n.toNat ∧ n.toNat ≤ 8)

/-- R172: the counters with the ones named cleared. -/
def CounterUnit.cleared (u : CounterUnit) (numbers : List Byte) : CounterUnit :=
  { u with counters := Vector.ofFn fun i =>
      if numbers.any fun n => n.toNat == i.val + 1 then { u.counters[i] with value := 0, overflow := false }
      else u.counters[i] }

/-- R172: COUNTERS Clear. -/
def clearRun (numbers : List Byte) (s : State) : CmdResult :=
  if numbers.all counterNumber then done { s with counters := s.counters.cleared numbers }
  else refused .badIndex s

/-- COUNTERS_CLEAR (R172). -/
def execCountersClear (q : Requester) (numbers : List Byte) (s : State) : Host.Outcome State Fault Refusal :=
  .next (lockedCommand q (.countersClear q numbers) 0x15 (clearRun numbers) s)

/-- R176: the alert unit with the sources of some codes no longer pending. -/
def AlertUnit.without (a : AlertUnit) (sources : List Byte) : AlertUnit :=
  { a with pending := Vector.ofFn fun i =>
      if sources.any fun c => c.toNat == i.val + 1 then none else a.pending[i] }

/-- R176: ALERT CLEAR: one or more sources, each with a meaning. -/
def alertClearRun (sources : List Byte) (s : State) : CmdResult :=
  if sources.isEmpty || sources.any (fun c => (alertSourceOf c).isNone) then refused .badValue s
  else done { s with alerts := s.alerts.without sources }

/-- ALERT_CLEAR (R176). -/
def execAlertClear (q : Requester) (sources : List Byte) (s : State) : Host.Outcome State Fault Refusal :=
  .next (lockedCommand q (.alertClear q sources) 0x16 (alertClearRun sources) s)

/-- R152: LABEL CLEAR. -/
def labelClearRun (s : State) : CmdResult :=
  doneWith (num16 s.label.undelivered.length) { s with label := { s.label with undelivered := [] } }

/-- LABEL_CLEAR (R152). -/
def execLabelClear (q : Requester) (s : State) : Host.Outcome State Fault Refusal :=
  .next (lockedCommand q (.labelClear q) 0x17 labelClearRun s)

/-! ## The change lock (R188) -/

/-- R188: CLAIM. -/
def claimRun (p : Party) (s : State) : CmdResult :=
  if s.agent.holder = none ∨ s.agent.holder = some p then
    done (renewLease { s with agent := { s.agent with holder := some p } })
  else ⟨s, .locked, [num8 (holderCode s.agent.holder)]⟩

/-- CLAIM (R188). -/
def execClaim (q : Requester) (s : State) : Host.Outcome State Fault Refusal :=
  .next (openCommand q (.claim q) 0x18 (claimRun q.party) s)

/-- R188: RELEASE. -/
def releaseRun (p : Party) (s : State) : CmdResult :=
  if s.holds p then done { s with agent := { s.agent with holder := none, leaseTimer := none } }
  else refused .noLock s

/-- RELEASE (R188). -/
def execRelease (q : Requester) (s : State) : Host.Outcome State Fault Refusal :=
  .next (openCommand q (.release q) 0x19 (releaseRun q.party) s)

/-- UNKNOWN_COMMAND (R183). -/
def execUnknownCommand (q : Requester) (code : Byte) (s : State) : Host.Outcome State Fault Refusal :=
  .next (openCommand q (.unknownCommand q code) code.toNat (refused .unknown) s)

end Sys2Proof.Machine
end

