-- ==== Sys2Proof/Machine/Dispatch.lean ====
section
/-! DEFINITION. The one dispatch of commands: one arm for each row of spec/opcode_table.json, each a direct call of that
row's meaning. -/

namespace Sys2Proof.Machine

def exec (i : Instr) (s : State) : Host.Outcome State Fault Refusal :=
  match i with
  | .deviceReset => Sys2Proof.Machine.execDeviceReset s
  | .linkUp port speed => Sys2Proof.Machine.execLinkUp port speed s
  | .linkLoss port => Sys2Proof.Machine.execLinkLoss port s
  | .frameReceived port fcsCorrect bytes => Sys2Proof.Machine.execFrameReceived port fcsCorrect bytes s
  | .egressTransmissionEnd port => Sys2Proof.Machine.execEgressTransmissionEnd port s
  | .uplinkTransmissionEnd => Sys2Proof.Machine.execUplinkTransmissionEnd s
  | .msTickAdvance => Sys2Proof.Machine.execMsTickAdvance s
  | .meterRelease meter => Sys2Proof.Machine.execMeterRelease meter s
  | .guestAging => Sys2Proof.Machine.execGuestAging s
  | .secondAdvance => Sys2Proof.Machine.execSecondAdvance s
  | .waitingExpiry slot => Sys2Proof.Machine.execWaitingExpiry slot s
  | .heldOverExpiry slot => Sys2Proof.Machine.execHeldOverExpiry slot s
  | .wake source => Sys2Proof.Machine.execWake source s
  | .grant source window day second => Sys2Proof.Machine.execGrant source window day second s
  | .ack source sequence => Sys2Proof.Machine.execAck source sequence s
  | .labelsMessage source batch updates => Sys2Proof.Machine.execLabelsMessage source batch updates s
  | .finish source => Sys2Proof.Machine.execFinish source s
  | .callTimerExpiry => Sys2Proof.Machine.execCallTimerExpiry s
  | .backoffTimerExpiry => Sys2Proof.Machine.execBackoffTimerExpiry s
  | .ackTimerExpiry => Sys2Proof.Machine.execAckTimerExpiry s
  | .settleTimerExpiry => Sys2Proof.Machine.execSettleTimerExpiry s
  | .ready station slots => Sys2Proof.Machine.execReady station slots s
  | .outcome station number value => Sys2Proof.Machine.execOutcome station number value s
  | .pacingTimerExpiry => Sys2Proof.Machine.execPacingTimerExpiry s
  | .outcomeTimeout number => Sys2Proof.Machine.execOutcomeTimeout number s
  | .alertTimerExpiry => Sys2Proof.Machine.execAlertTimerExpiry s
  | .leaseExpiry => Sys2Proof.Machine.execLeaseExpiry s
  | .identify q => Sys2Proof.Machine.execIdentify q s
  | .read q table first count => Sys2Proof.Machine.execRead q table first count s
  | .readNext q count => Sys2Proof.Machine.execReadNext q count s
  | .write q table first count data => Sys2Proof.Machine.execWrite q table first count data s
  | .writePorts q first entries => Sys2Proof.Machine.execWritePorts q first entries s
  | .writeOfficeStations q first entries => Sys2Proof.Machine.execWriteOfficeStations q first entries s
  | .writeWindow q bank first entries => Sys2Proof.Machine.execWriteWindow q bank first entries s
  | .writeDefaults q bank first entries => Sys2Proof.Machine.execWriteDefaults q bank first entries s
  | .writeBankIdentity q first entries => Sys2Proof.Machine.execWriteBankIdentity q first entries s
  | .writeUplink q first entries => Sys2Proof.Machine.execWriteUplink q first entries s
  | .writeMeters q first entries => Sys2Proof.Machine.execWriteMeters q first entries s
  | .writeThresholds q first entries => Sys2Proof.Machine.execWriteThresholds q first entries s
  | .writeGuest q first entries => Sys2Proof.Machine.execWriteGuest q first entries s
  | .writeTills q first entries => Sys2Proof.Machine.execWriteTills q first entries s
  | .writeTracker q first entries => Sys2Proof.Machine.execWriteTracker q first entries s
  | .writePool q first entries => Sys2Proof.Machine.execWritePool q first entries s
  | .writeNight q first entries => Sys2Proof.Machine.execWriteNight q first entries s
  | .writeLabel q first entries => Sys2Proof.Machine.execWriteLabel q first entries s
  | .writeSchedule q first entries => Sys2Proof.Machine.execWriteSchedule q first entries s
  | .writeAlerts q first entries => Sys2Proof.Machine.execWriteAlerts q first entries s
  | .writeAgent q first entries => Sys2Proof.Machine.execWriteAgent q first entries s
  | .swap q => Sys2Proof.Machine.execSwap q s
  | .openPart q => Sys2Proof.Machine.execOpen q s
  | .closePart q => Sys2Proof.Machine.execClose q s
  | .restart q => Sys2Proof.Machine.execRestart q s
  | .setClock q day second => Sys2Proof.Machine.execSetClock q day second s
  | .profile q value => Sys2Proof.Machine.execProfile q value s
  | .labels q value => Sys2Proof.Machine.execLabels q value s
  | .guest q value => Sys2Proof.Machine.execGuest q value s
  | .call q => Sys2Proof.Machine.execCall q s
  | .stop q => Sys2Proof.Machine.execStop q s
  | .journalDiscard q => Sys2Proof.Machine.execJournalDiscard q s
  | .adjustQueues q limits => Sys2Proof.Machine.execAdjustQueues q limits s
  | .bar q station => Sys2Proof.Machine.execBar q station s
  | .unbar q station => Sys2Proof.Machine.execUnbar q station s
  | .countersConfigure q counters group => Sys2Proof.Machine.execCountersConfigure q counters group s
  | .countersStart q => Sys2Proof.Machine.execCountersStart q s
  | .countersClear q numbers => Sys2Proof.Machine.execCountersClear q numbers s
  | .alertClear q sources => Sys2Proof.Machine.execAlertClear q sources s
  | .labelClear q => Sys2Proof.Machine.execLabelClear q s
  | .claim q => Sys2Proof.Machine.execClaim q s
  | .release q => Sys2Proof.Machine.execRelease q s
  | .unknownCommand q code => Sys2Proof.Machine.execUnknownCommand q code s

end Sys2Proof.Machine
end

