-- ==== Sys2Proof/Machine/Step.lean ====
section
/-! DEFINITION. One step: the front of the queue of waiting commands. With no command waiting, the management agent takes
its next queued request (R183), and with none the part idles (assumption 2). -/

namespace Sys2Proof.Machine

/-- One step of the part. -/
def step (s : State) : Host.Outcome State Fault Refusal :=
  match s.pending with
  | c :: rest => exec c { s with pending := rest }
  | [] =>
    match s.agent.queue with
    | r :: _ => exec (decodeRequest r) s
    | [] => .next s

/-- The state with the command that a word of the table's bits spells at the front of its queue; unchanged where the word
spells none. -/
def State.withFetchWord (s : State) (nbits w : Nat) : State :=
  match decodeTableWord nbits w with
  | some c => { s with pending := c :: s.pending }
  | none => s

end Sys2Proof.Machine
end

