-- ==== Sys2Proof/Safety.lean ====
section
/-! DEFINITION. What a good state is: the laws the manual names as laws of the 6416, each as a predicate over State; two
views of a state, `still` and `quiet`, in which "everything else is unchanged" is said; and the words the statements share. -/

namespace Sys2Proof.Machine

/-! ## Laws of the 6416 -/

/-- R108, R142: the blocks of the pool sum to 131,072; the journal holds the blocks of its records; label blocks held
equal the updates queued and in flight. -/
def PoolLaw (s : State) : Prop :=
  s.pool.free + s.pool.journalHeld + s.pool.labelHeld = 131072
    ∧ s.pool.journalHeld = blocksOf s.journal.records
    ∧ s.pool.labelHeld = s.label.queue.length + s.label.inFlight.length

/-- R51: the four uplink queues together hold at most 256 frames, and their limits sum to at most 256. -/
def UplinkLaw (s : State) : Prop :=
  queuedTotal s.uplink.queues ≤ 256 ∧ limitsSum s.uplink.limits ≤ 256

/-- R59: every share meter's level and every station meter's level lies between 0 and that meter's current depth. -/
def MeterLaw (s : State) : Prop :=
  (∀ i : Meter, (s.meters.get i).level ≤ (s.profileInUse i).depth)
    ∧ ∀ e ∈ s.guest.table, e.level ≤ s.guest.settings.depth

/-- R70: the guest table holds at most 128 entries, no two with the same station address or the same network address. -/
def GuestLaw (s : State) : Prop :=
  s.guest.table.length ≤ 128 ∧ (s.guest.table.map (·.station)).Nodup ∧ (s.guest.table.map (·.address)).Nodup

/-- R86: the open request table holds entries for enabled tills, for any till no more than its open limit, and no two
with the same key. -/
def TrackerLaw (s : State) : Prop :=
  (∀ (i : Fin 64) (r : OpenRequest), s.tracker.slots[i] = some r → s.tills[r.till].enabled = true)
    ∧ (∀ t : Fin 32, s.tracker.openCount t ≤ s.tills[t].openLimit)
    ∧ ∀ (i j : Fin 64) (r r' : OpenRequest), s.tracker.slots[i] = some r → s.tracker.slots[j] = some r' →
        r.till = r'.till → r.tillService = r'.tillService → r.tag = r'.tag → i = j

/-- R113, R129: the journal holds its records in sequence order from oldest to newest, and next-to-send lies between
oldest and the next sequence. -/
def JournalLaw (s : State) : Prop :=
  (∀ (k : Nat) (h : k < s.journal.records.length),
      s.journal.records[k].sequence = s.journal.oldest + BitVec.ofNat 32 k)
    ∧ s.journal.nextSeq = s.journal.oldest + BitVec.ofNat 32 s.journal.records.length
    ∧ s.journal.outstanding ≤ s.journal.records.length

/-- R144, R145: the in-flight list holds at most 16 updates and never two with the same label number, and the label queue
holds at most one update for any label number. -/
def LabelLaw (s : State) : Prop :=
  s.label.inFlight.length ≤ 16 ∧ (s.label.inFlight.map (·.number)).Nodup ∧ (s.label.queue.map (·.number)).Nodup

/-- R35: the active bank never holds an enabled entry or default that would carry a GUEST frame to TILL, LABEL or
OFFICE. -/
def IsolationLaw (s : State) : Prop := s.classifier.activeBank.offence = none

/-- R15: each egress queue holds at most 64 frames. -/
def EgressLaw (s : State) : Prop := ∀ p : EgressPort, (s.egress.get p).length ≤ 64

/-! ## Views of a state -/

/-- The counters without what an offered event and a counter alert change. -/
def CounterUnit.still (u : CounterUnit) : CounterUnit where
  counters := u.counters.map fun c => { c with value := 0, overflow := false }
  group := { u.group with alertEnable1 := false, alertEnable28 := false }
  frozen := false
  triggerState := .released
  sample := .empty

/-- The alert unit without what a raise and a send change. -/
def AlertUnit.still (a : AlertUnit) : AlertUnit :=
  { a with pending := Vector.replicate 14 none, timer := none, number := 0 }

/-- A state without what offering an event or sending a frame changes: the frames queued, the scheduler's choice, the
counts of the counters, what is pending at the alert unit, and the free serial. Two states that are still the same
agree in everything else. -/
def State.still (s : State) : State :=
  { s with
    egress := ⟨[], [], [], []⟩
    uplink := s.uplink.emptied
    counters := s.counters.still
    alerts := s.alerts.still
    freeSerial := 0 }

/-- A state without what a comparison of a watched value changes as well. -/
def State.quiet (s : State) : State :=
  { s.still with
    thresholds := ⟨ThresholdPair.reset, ThresholdPair.reset, ThresholdPair.reset, ThresholdPair.reset,
      ThresholdPair.reset⟩ }

/-- A state without what the response to a management command changes as well: the request queue, whose head the command
takes, and the lease timer. -/
def State.answered (s : State) : State :=
  { s.still with agent := { s.agent with queue := [], leaseTimer := none } }

/-- A quiet state without what the night engine's send events and completion test change as well: the TRANSFER meter,
next-to-send, and the engine's state and timers. -/
def State.asleep (s : State) : State :=
  { s.quiet with
    meters := { s.meters with transfer := ShareMeter.reset .defer }
    journal := { s.journal with nextToSend := 0 }
    night := s.night.enter .idle }

/-! ## Words the statements use -/

/-- R183, R184: a state with a command answered in one part. -/
def answerTo (q : Requester) (code : Nat) (status : Status) (fields : Bytes) (s : State) : State :=
  respond q code ⟨s, status, [fields]⟩

/-- R5 to R7, R10: a frame that arrives on a port as a good IPv4 frame for no block of the part itself, in RUNNING. -/
def State.arrives (s : State) (port : Segment) (bs : Bytes) (ip : Ipv4) : Prop :=
  s.up port = true ∧ s.running = true ∧ 60 ≤ bs.length ∧ bs.length ≤ 1518 ∧ word48 bs 0 = s.station
    ∧ s.station ≠ broadcastStation ∧ word16 bs 12 = 0x0800 ∧ parseIpv4 bs = some ip
    ∧ s.isAnyGateway ip.destination = false

/-- R121, R200: a night message of a code with its fields, built in a state in RUNNING with the next-hop station present, the
transmitter busy and room in TRANSFER, waits at that queue's tail, and the uplink is otherwise as it was. -/
def State.nightWaits (s : State) (kind : FrameKind) (code : Byte) (fields : Bytes) (u : Uplink) : Prop :=
  ∀ a : Station, s.running = true → s.ports.nextHop = some a → s.uplink.transmitting ≠ none →
    s.uplink.queues.transfer.length < s.uplink.limits.transfer → queuedTotal s.uplink.queues < 256 →
    u = { s.uplink with queues := { s.uplink.queues with transfer := s.uplink.queues.transfer ++ [{
      kind := kind
      bytes := udpFrame s.freeSerial a s.station s.ports.gateways.uplink s.night.settings.collector
        s.ports.nightService s.night.settings.service
        ([code, 0] ++ be16 s.night.settings.branch ++ be32 s.night.settings.epoch ++ fields)
      entryTick := s.tick, origin := ⟨false, none, .uplink, none⟩ }] } }

/-- R95, R105: a notice to the till at an address, built in a state in RUNNING with TILL UP, room in its egress queue, an
enabled till at the address and no alert destination, is at the tail of that queue, and no other egress queue has changed. -/
def State.tillTold (s : State) (address : NetAddr) (source destination : Service) (payload : Bytes) (t : State) : Prop :=
  ∀ e : TillEntry, s.running = true → s.alerts.destination = none → s.up .till = true → s.egress.till.length < 64 →
    s.tillAt address = some e →
    t.egress = { s.egress with till := s.egress.till ++ [{
      kind := .notice
      bytes := udpFrame s.freeSerial e.station s.station s.ports.gateways.till address source destination payload
      entryTick := s.tick, origin := ⟨false, none, .till, none⟩ }] }

/-- R147, R148, R155: the delivery events that follow an event at the label engine, from the state the event left to the state
after them: none where a condition of R147 fails; otherwise the first queued update whose label number is not in flight
goes in flight and its DELIVER joins the LABEL egress queue, and with a pacing interval of 0 the delivery events go on. -/
def State.delivers (s t : State) : Prop :=
  (s.running = false ∨ s.levels.labelWindow.value = .closed ∨ s.up .label = false ∨ s.ports.baseStation = none
      ∨ s.label.credit = 0 ∨ s.label.pacingTimer ≠ none ∨ 16 ≤ s.label.inFlight.length
      ∨ (∀ u ∈ s.label.queue, holdsLabel s.label.inFlight u.number = true) → t = s)
    ∧ ∀ (b : BaseStation) (before after : List LabelUpdate) (u : LabelUpdate), s.running = true →
      s.levels.labelWindow.value = .opened → s.up .label = true → s.ports.baseStation = some b → 0 < s.label.credit →
      s.label.pacingTimer = none → s.label.inFlight.length < 16 → s.label.queue = before ++ u :: after →
      (∀ x ∈ before, holdsLabel s.label.inFlight x.number = true) → holdsLabel s.label.inFlight u.number = false →
      ∃ v, t = (if s.label.settings.pacing = 0 then deliveries v else v)
        ∧ v.still = ({ s with label := { s.label with
            queue := before ++ after
            inFlight := s.label.inFlight ++ [{ u with
              sentTick := some s.tick
              deadline := some (s.tick + BitVec.ofNat 32 s.label.settings.outcomeTimeout) }]
            credit := s.label.credit - 1
            pacingTimer := if s.label.settings.pacing = 0 then none
              else some ⟨s.tick, s.label.settings.pacing⟩ } } : State).still
        ∧ (s.egress.label.length < 64 → v.uplink = s.uplink ∧ v.egress = { s.egress with label := s.egress.label ++ [{
            kind := .deliver
            bytes := udpFrame s.freeSerial b.station s.station s.ports.gateways.label b.address s.ports.labelService
              b.service (2 :: labelUpdateBytes u)
            entryTick := s.tick, origin := ⟨false, none, .label, none⟩ }] })

/-- R71: what the source check on GUEST asks of a network source. -/
def State.inGuestRange (s : State) (address : NetAddr) : Prop :=
  address &&& s.guest.settings.mask = s.guest.settings.base &&& s.guest.settings.mask ∧ address ≠ 0
    ∧ address ≠ 0xFFFFFFFF ∧ s.ports.gateways.guest ≠ address

/-- R71 to R73: a frame of a counted length from a station and a network source passes the source check on GUEST, from the
state at the check to the state after it: its station known, admitted, or admitted into the place of a victim, which is
counted as Evicted. -/
def State.guestPasses (s t : State) (station : Station) (address : NetAddr) (counted : Nat) : Prop :=
  s.levels.guestState.value = .opened ∧ s.inGuestRange address
    ∧ ((∃ before after e, s.guest.table = before ++ e :: after ∧ e.station = station
          ∧ (∀ x ∈ before ++ after, x.station ≠ station) ∧ e.barred = false
          ∧ (e.address = address ∨ ∀ x ∈ s.guest.table, x.address ≠ address)
          ∧ t = { s with guest := { s.guest with table := { e with
              address := address, lastActive := s.tick, frames := min (2 ^ 32 - 1) (e.frames + 1)
              bytes := min (2 ^ 40 - 1) (e.bytes + counted) } :: (before ++ after) } })
      ∨ ∃ e, e = { station := station, address := address, firstSeen := s.tick, lastActive := s.tick
                   level := s.guest.settings.depth, meterTick := s.tick, frames := 1, bytes := counted, barred := false }
        ∧ (∀ x ∈ s.guest.table, x.station ≠ station ∧ x.address ≠ address)
        ∧ ((s.guest.table.length < 128 ∧ t = { s with guest := { s.guest with table := e :: s.guest.table } })
          ∨ (128 ≤ s.guest.table.length ∧ ∃ before after v u, s.guest.table = before ++ v :: after ∧ v.barred = false
            ∧ (∀ x ∈ after, x.barred = true) ∧ (∀ x ∈ before ++ after, x.station ≠ v.station)
            ∧ 1000 * s.guest.settings.minIdle ≤ (s.tick - v.lastActive).toNat
            ∧ u = offer ⟨.evicted, 1, ⟨false, none, .guest, some station⟩, none⟩
              { s with guest := { s.guest with table := before ++ after } }
            ∧ t = { u with guest := { s.guest with table := e :: (before ++ after) } })))

/-- R165: of the schedule entries with a property, the one with the greatest second, and of several at that second the
one with the highest index. -/
def IsLatest (schedule : Vector ScheduleEntry 16) (P : Fin 16 → Prop) (i : Fin 16) : Prop :=
  P i ∧ ∀ j, P j → schedule[j].second < schedule[i].second ∨ (schedule[j].second = schedule[i].second ∧ j ≤ i)

/-- R164: a level setting of a kind, its value given as the schedule action that sets it. -/
def Levels.of (l : Levels) : LevelKind → ScheduleAction × LevelOrigin
  | .profile => (match l.profile.value with | .day => .dayProfile | .night => .nightProfile, l.profile.origin)
  | .labelWindow => (match l.labelWindow.value with | .opened => .labelsOpen | .closed => .labelsClosed,
      l.labelWindow.origin)
  | .guestState => (match l.guestState.value with | .opened => .guestOpen | .closed => .guestClosed,
      l.guestState.origin)

/-- R188: the requester and the command code of a command that requires the change lock. A WRITE that spells no write
is UNKNOWN whoever holds the lock. -/
def lockCode : Instr → Option (Requester × Nat)
  | .write q table first count data => if (writeRunOf q table first count data).isSome then some (q, 0x04) else none
  | .writePorts q _ _ => some (q, 0x04)
  | .writeOfficeStations q _ _ => some (q, 0x04)
  | .writeWindow q _ _ _ => some (q, 0x04)
  | .writeDefaults q _ _ _ => some (q, 0x04)
  | .writeBankIdentity q _ _ => some (q, 0x04)
  | .writeUplink q _ _ => some (q, 0x04)
  | .writeMeters q _ _ => some (q, 0x04)
  | .writeThresholds q _ _ => some (q, 0x04)
  | .writeGuest q _ _ => some (q, 0x04)
  | .writeTills q _ _ => some (q, 0x04)
  | .writeTracker q _ _ => some (q, 0x04)
  | .writePool q _ _ => some (q, 0x04)
  | .writeNight q _ _ => some (q, 0x04)
  | .writeLabel q _ _ => some (q, 0x04)
  | .writeSchedule q _ _ => some (q, 0x04)
  | .writeAlerts q _ _ => some (q, 0x04)
  | .writeAgent q _ _ => some (q, 0x04)
  | .swap q => some (q, 0x05)
  | .openPart q => some (q, 0x06)
  | .closePart q => some (q, 0x07)
  | .setClock q _ _ => some (q, 0x08)
  | .labels q _ => some (q, 0x0A)
  | .guest q _ => some (q, 0x0B)
  | .call q => some (q, 0x0C)
  | .stop q => some (q, 0x0D)
  | .journalDiscard q => some (q, 0x0E)
  | .adjustQueues q _ => some (q, 0x0F)
  | .restart q => some (q, 0x10)
  | .profile q _ => some (q, 0x11)
  | .bar q _ => some (q, 0x13)
  | .unbar q _ => some (q, 0x14)
  | .countersConfigure q _ _ => some (q, 0x15)
  | .countersStart q => some (q.by_, 0x15)
  | .countersClear q _ => some (q, 0x15)
  | .alertClear q _ => some (q, 0x16)
  | .labelClear q => some (q, 0x17)
  | _ => none

end Sys2Proof.Machine
end

