-- ==== Sys2Proof/Certificates/Slice0/Obligations.lean ====
section
/-! DEFINITION. The statements about the Porzel 6416 that are put to proof. -/

open Sys2Proof Sys2Proof.Machine

/-! ## The machine as a whole -/

/-- A step runs the command at the front of the queue of waiting commands, on the state with the rest waiting. How
commands wait is the model's own (assumption 2). -/
def Obligations.StepRunsTheFrontCommand : Prop :=
  ∀ (c : Instr) (rest : List Instr) (s : State), s.pending = c :: rest → step s = exec c { s with pending := rest }

/-- R183: with no command waiting, a step is the agent's next command event: it carries out the head request, which leaves the
queue, and nothing else leaves or joins the queue at it. With no request queued either, the part idles. How commands wait is
the model's own (assumption 2). -/
def Obligations.StepWithNothingPendingTakesARequest : Prop :=
  ∀ s : State, s.pending = [] →
    (s.agent.queue = [] → step s = .next s)
      ∧ ∀ (r : Request) (rest : List Request), s.agent.queue = r :: rest →
          step s = exec (decodeRequest r) s ∧ ∃ t, step s = .next t ∧ t.agent.queue = rest

/-- R1 and the device-reset value of every block (R2, R3, R15, R19, R38, R52, R53, R57, R64, R68, R69, R82, R83, R85,
R98, R110, R118, R119, R122, R126, R143, R158, R168, R180, R191). That the commands waiting stay is the model's choice
(assumption 2). -/
def Obligations.DeviceResetGivesTheResetValues : Prop :=
  ∀ s : State, ∃ t, exec .deviceReset s = .next t ∧ t.station = s.station ∧ t.pending = s.pending ∧ t.tick = 0
    ∧ (∀ g, t.links.get g = none) ∧ (∀ p, t.egress.get p = [])
    ∧ ((∀ g, t.ports.gateways.get g = 0) ∧ t.ports.nextHop = none ∧ t.ports.baseStation = none
      ∧ t.ports.managementPort = .office ∧ t.ports.managementType = 0x88B5 ∧ t.ports.agentService = 7416
      ∧ t.ports.nightService = 7417 ∧ t.ports.labelService = 7418)
    ∧ (∀ i : Fin 8, t.office[i] = ⟨false, 0, 0⟩)
    ∧ (t.classifier.active = .a ∧ ∀ k : BankId, (t.classifier.bank k).identity = 0
      ∧ (∀ i : Fin 64, (t.classifier.bank k).entries[i] = {
          enabled := false, pinned := false, sources := ⟨false, false, false, false, false⟩, key := .destination
          base := 0, mask := 0, protocol := none, range := none, action := .drop, destination := .uplink
          translate := none, uplinkClass := .office, mark := false, offset := 0, hits := 0 })
      ∧ ∀ g, (t.classifier.bank k).defaults.get g = ⟨false, .uplink, .office, 0⟩)
    ∧ ((∀ q, t.uplink.queues.get q = []) ∧ t.uplink.limits = ⟨32, 64, 80, 80⟩ ∧ t.uplink.transmitting = none
      ∧ t.uplink.turn = .transfer ∧ t.uplink.guestGap = 15 ∧ t.uplink.daySpacing = 4 ∧ t.uplink.drainSpacing = 8
      ∧ t.uplink.residence = 50)
    ∧ (∀ m, (t.meters.get m).level = 1536 ∧ (t.meters.get m).lastTick = 0 ∧ (t.meters.get m).hold = []
      ∧ (t.meters.get m).day = (t.meters.get m).night
      ∧ (t.meters.get m).day = ⟨0, 1536, if m = .transfer then .defer else .drop⟩)
    ∧ (∀ i, t.thresholds.get i = ⟨⟨0, false, false, false, .below⟩, ⟨0, false, false, false, .below⟩⟩)
    ∧ (t.guest.settings = ⟨0, 0xFFFFFFFF, 60, 1800, 0, 1536⟩ ∧ t.guest.table = [])
    ∧ (∀ i : Fin 32, t.tills[i] = ⟨false, 0, 0, 2, false, none⟩)
    ∧ (t.tracker.replyTimeout = 8000 ∧ t.tracker.lateWindow = 30000 ∧ ∀ i : Fin 64, t.tracker.slots[i] = none)
    ∧ t.journal = ⟨[], 1, 1, 1⟩ ∧ t.pool = ⟨131072, 0, 0, 98304, 16384⟩
    ∧ (t.night.settings = ⟨0, 7417, 0, 0, false, 2000, 5000, 60, 3, 7⟩ ∧ t.night.state = .idle ∧ t.night.attempts = 0
      ∧ t.night.shortRetries = 0 ∧ t.night.window = 0 ∧ t.night.callTimer = none ∧ t.night.ackTimer = none
      ∧ t.night.settleTimer = none ∧ t.night.backoffTimer = none ∧ t.night.retryTotal = 0 ∧ t.night.rollover = false
      ∧ t.night.generator.toNat = ((s.station >>> 32).toNat % 65536 + (s.station >>> 16).toNat % 65536
        + s.station.toNat % 65536) % 65536)
    ∧ t.label = ⟨⟨20, 5, 10000⟩, [], [], [], 0, none⟩
    ∧ (t.clock.set = false ∧ t.clock.time = ⟨0, 0⟩ ∧ t.clock.sub = 0 ∧ ∀ i : Fin 16, t.schedule[i] = ⟨false, 0, .dayProfile⟩)
    ∧ t.levels = ⟨⟨.day, .reset⟩, ⟨.closed, .reset⟩, ⟨.closed, .reset⟩⟩
    ∧ (t.counters.group = ⟨false, false, false, false, false⟩ ∧ t.counters.frozen = false
      ∧ t.counters.triggerState = .released ∧ t.counters.sample = .empty
      ∧ ∀ i : Fin 8, t.counters.counters[i] = ⟨0, false, .nothing, .always, false⟩)
    ∧ ((∀ i : Fin 14, t.alerts.pending[i] = none) ∧ t.alerts.destination = none ∧ t.alerts.timer = none
      ∧ t.alerts.number = 0 ∧ t.alerts.interval = 1000)
    ∧ t.agent = ⟨.closed, [], none, none, 600, none, none⟩

/-- Every law of the 6416 holds right after device reset. -/
def Obligations.ResetMeetsEveryLaw : Prop :=
  EgressLaw State.reset ∧ UplinkLaw State.reset ∧ MeterLaw State.reset ∧ GuestLaw State.reset
    ∧ TrackerLaw State.reset ∧ PoolLaw State.reset ∧ JournalLaw State.reset ∧ LabelLaw State.reset
    ∧ IsolationLaw State.reset

/-- R15, R51: every step keeps each egress queue at 64 frames at most, the four uplink queues together at 256 at most,
and the sum of their limits at 256 at most. -/
def Obligations.EveryStepKeepsTheQueueLaws : Prop :=
  ∀ s t : State, EgressLaw s → UplinkLaw s → step s = .next t → EgressLaw t ∧ UplinkLaw t

/-- R59: every step keeps every share meter's level and every station meter's level within the meter's current depth. -/
def Obligations.EveryStepKeepsTheMeterLaw : Prop :=
  ∀ s t : State, MeterLaw s → step s = .next t → MeterLaw t

/-- R70: every step keeps the guest table at 128 entries at most, no two with one station or one network address. -/
def Obligations.EveryStepKeepsTheGuestLaw : Prop :=
  ∀ s t : State, GuestLaw s → step s = .next t → GuestLaw t

/-- R86: every step keeps the open request table within the tills' open limits, for enabled tills alone, and free of two
entries with one key. -/
def Obligations.EveryStepKeepsTheTrackerLaw : Prop :=
  ∀ s t : State, TrackerLaw s → step s = .next t → TrackerLaw t

/-- R108, R113: every step keeps the pool's three counts at 131,072 in all and equal to what the journal and the label
lists hold, and the journal's records in sequence from oldest to newest with next-to-send among them. -/
def Obligations.EveryStepKeepsThePoolAndJournalLaws : Prop :=
  ∀ s t : State, PoolLaw s → JournalLaw s → step s = .next t → PoolLaw t ∧ JournalLaw t

/-- R144, R145: every step keeps at most 16 updates in flight, no two with one label number, and no two queued with one
label number. -/
def Obligations.EveryStepKeepsTheLabelLaw : Prop :=
  ∀ s t : State, LabelLaw s → step s = .next t → LabelLaw t

/-- R35: every step keeps the active bank free of an entry or default that would carry a GUEST frame to TILL, LABEL or
OFFICE, to the tracker or to the spool unit. -/
def Obligations.EveryStepKeepsTheIsolationLaw : Prop :=
  ∀ s t : State, IsolationLaw s → step s = .next t → IsolationLaw t

/-- What each piece of control state is changed by: the tick by MS_TICK_ADVANCE (R19), the link states by LINK_UP and
LINK_LOSS (R2), the part state by OPEN and CLOSE (R17), the holder of the lock by CLAIM, RELEASE and LEASE_EXPIRY (R188,
R189), the active bank by SWAP (R33), the station address by nothing (R3); and each of them but the last by
DEVICE_RESET. -/
def Obligations.ControlStateChangesOnlyByItsCommands : Prop :=
  ∀ (c : Instr) (s t : State), exec c s = .next t →
    t.station = s.station
      ∧ (t.tick ≠ s.tick → c = .msTickAdvance ∨ c = .deviceReset)
      ∧ (t.links ≠ s.links → (∃ g v, c = .linkUp g v) ∨ (∃ g, c = .linkLoss g) ∨ c = .deviceReset)
      ∧ (t.agent.partState ≠ s.agent.partState →
          (∃ q, c = .openPart q ∧ s.holds q.party = true) ∨ (∃ q, c = .closePart q ∧ s.holds q.party = true)
            ∨ c = .deviceReset)
      ∧ (t.agent.holder ≠ s.agent.holder →
          (∃ q, c = .claim q ∧ s.agent.holder = none ∧ t.agent.holder = some q.party)
            ∨ (∃ q, c = .release q ∧ s.agent.holder = some q.party ∧ t.agent.holder = none)
            ∨ (c = .leaseExpiry ∧ t.agent.holder = none) ∨ c = .deviceReset)
      ∧ (t.classifier.active ≠ s.classifier.active →
          (∃ q, c = .swap q ∧ s.holds q.party = true) ∨ c = .deviceReset)

/-- R114, R116, R129: a journal record leaves the journal by an ACK of the collector, by JOURNAL DISCARD or by device reset
alone. An ACK for a sequence removes the a = (sequence - oldest + 1) mod 2^32 oldest records, a at most outstanding; it comes
as a command of its own, or in a frame received on UPLINK that is a datagram for the night service holding one (R10, R120).
Any other command leaves every record in its place, with new ones behind. -/
def Obligations.JournalRecordsLeaveByAckOrDiscard : Prop :=
  ∀ (c : Instr) (s t : State), exec c s = .next t →
    (∃ (m : NightSource) (sequence : Seq),
        (c = .ack m sequence ∨ ∃ bs ip source, c = .frameReceived .uplink true bs ∧ parseIpv4 bs = some ip
          ∧ ip.protocol = 17 ∧ ip.unfragmented = true ∧ ip.sourceService = some source
          ∧ ip.destination = s.ports.gateways.uplink ∧ ip.destinationService = some s.ports.nightService
          ∧ decodeNight (word48 bs 6) ip.source source (udpPayload bs ip) = some (.ack m sequence))
        ∧ s.running = true ∧ s.up .uplink = true ∧ s.fromCollector m = true
        ∧ (sequence - s.journal.oldest + 1).toNat ≤ (s.journal.nextToSend - s.journal.oldest).toNat
        ∧ t.journal.records = s.journal.records.drop (sequence - s.journal.oldest + 1).toNat)
      ∨ (t.journal.records = [] ∧ ((∃ q, c = .journalDiscard q ∧ s.holds q.party = true) ∨ c = .deviceReset))
      ∨ s.journal.records <+: t.journal.records

/-- R171, R174: while the frozen mark is yes no counter accepts an event, so no command but COUNTERS Start, COUNTERS Clear
and device reset changes a value or an overflow flag, or ends the freeze. R171, R173, R175, R176: what an event offered with
no alert destination does. A counter takes it when it is on and running, not frozen, and selector and condition accept it;
counters 2 to 8 also need the trigger off or Released, which an overflow of counter 1 at this event makes it. One that takes
it adds the weight mod 2^32, and overflows when the exact sum reaches 2^31 and its flag was no. An overflow whose alert enable
is on raises Counter-1 or Counter-2-8, and the first such gives its event to an empty or reported sample record. R66, R67: a
comparison of a pair tests each threshold that is enabled and armed; one that fires is disarmed and raises its source, and a
value left as it was is not compared. -/
def Obligations.EventsAreCountedAndPairsCompared : Prop :=
  (∀ (c : Instr) (s t : State), s.counters.frozen = true → exec c s = .next t →
    (∀ q, c ≠ .countersStart ⟨q, 2⟩) → (∀ q ns, c ≠ .countersClear q ns) → c ≠ .deviceReset →
    t.counters.frozen = true
      ∧ ∀ i : Fin 8, t.counters.counters[i].value = s.counters.counters[i].value
        ∧ t.counters.counters[i].overflow = s.counters.counters[i].overflow)
  ∧ (∀ (o : Occurrence) (takes overflows raises : Fin 8 → Prop) (s : State), s.alerts.destination = none →
    (∀ i, overflows i ↔ takes i ∧ s.counters.counters[i].overflow = false
      ∧ 2 ^ 31 ≤ s.counters.counters[i].value.toNat + o.weight) →
    (∀ i, takes i ↔ s.counters.group.globalEnable = true ∧ s.counters.counters[i].run = true
      ∧ s.counters.frozen = false
      ∧ (i = 0 ∨ s.counters.group.trigger = false ∨ s.counters.triggerState = .released ∨ overflows 0)
      ∧ (s.counters.counters[i].selector = .any o.name.kind ∨ s.counters.counters[i].selector = .exactly o.name)
      ∧ (s.counters.counters[i].condition = .always
        ∨ (o.origin.windowIndex ≠ none ∧ s.counters.counters[i].condition = .markedOnly ∧ o.origin.mark = true)
        ∨ (o.origin.windowIndex ≠ none ∧ s.counters.counters[i].condition = .unmarkedOnly
          ∧ o.origin.mark = false))) →
    (∀ i, raises i ↔ overflows i ∧ (if i = 0 then s.counters.group.alertEnable1 else s.counters.group.alertEnable28)
      = true) →
    ∃ t, offer o s = t ∧ t.still = s.still ∧ t.egress = s.egress ∧ t.uplink = s.uplink
      ∧ t.counters.group = s.counters.group ∧ t.counters.frozen = s.counters.frozen
      ∧ (∀ i, takes i → t.counters.counters[i] = { s.counters.counters[i] with
          value := s.counters.counters[i].value + BitVec.ofNat 32 o.weight
          overflow := t.counters.counters[i].overflow })
      ∧ (∀ i, t.counters.counters[i].overflow = true ↔ s.counters.counters[i].overflow = true ∨ overflows i)
      ∧ (∀ i, ¬ takes i → t.counters.counters[i] = s.counters.counters[i])
      ∧ (overflows 0 → t.counters.triggerState = .released)
      ∧ (¬ overflows 0 → t.counters.triggerState = s.counters.triggerState)
      ∧ (raises 0 → t.alerts.pending[alertIndex .counter1] = some .new)
      ∧ ((∃ i, i ≠ 0 ∧ raises i) → t.alerts.pending[alertIndex .counter28] = some .new)
      ∧ (∀ x : Fin 14, (x ≠ alertIndex .counter1 ∨ ¬ raises 0) →
          (x ≠ alertIndex .counter28 ∨ ∀ i, i ≠ 0 → ¬ raises i) → t.alerts.pending[x] = s.alerts.pending[x])
      ∧ (∀ i, raises i → (∀ j, j < i → ¬ raises j) → (∀ x, s.counters.sample ≠ .held x) →
          t.counters.sample = .held {
            counter := i, segment := o.origin.segment, windowIndex := o.origin.windowIndex
            station := o.origin.station, time := if s.clock.set then some s.clock.time else none })
      ∧ ((∀ i, ¬ raises i) ∨ (∃ x, s.counters.sample = .held x) → t.counters.sample = s.counters.sample))
  ∧ ∀ (i : PairId) (low high : AlertSource) (before value : Nat) (fires : Bool → Threshold → Prop) (s : State),
    s.alerts.destination = none →
    (low, high, value) = (match i with
      | .guestMeter => (.guestMeterLow, .guestMeterHigh, s.meters.guest.level)
      | .officeMeter => (.officeMeterLow, .officeMeterHigh, s.meters.office.level)
      | .transferMeter => (.transferMeterLow, .transferMeterHigh, s.meters.transfer.level)
      | .journal => (.journalLow, .journalHigh, s.pool.journalHeld)
      | .label => (.labelQueueLow, .labelQueueHigh, s.pool.labelHeld)) →
    (∀ x, fires false x ↔ x.enabled = true ∧ x.armed = true ∧ value < x.value
      ∧ (x.resultValid = false ∨ x.last = .above)) →
    (∀ x, fires true x ↔ x.enabled = true ∧ x.armed = true ∧ x.value < value
      ∧ (x.resultValid = false ∨ x.last = .below)) →
    (value = before → compareChanged i before s = s)
    ∧ (value ≠ before → ∃ t pair, compareChanged i before s = t
      ∧ t.still = ({ s with thresholds := s.thresholds.set i pair } : State).still
      ∧ t.egress = s.egress ∧ t.uplink = s.uplink ∧ t.counters = s.counters
      ∧ (∀ x y, (x, y) ∈ [((s.thresholds.get i).low, pair.low), ((s.thresholds.get i).high, pair.high)] →
          x.enabled = false ∨ x.armed = false → y = x)
      ∧ ((s.thresholds.get i).low.enabled = true → (s.thresholds.get i).low.armed = true →
          pair.low = { (s.thresholds.get i).low with
            resultValid := true, last := if value < (s.thresholds.get i).low.value then .below else .above
            armed := pair.low.armed }
          ∧ (pair.low.armed = false ↔ fires false (s.thresholds.get i).low))
      ∧ ((s.thresholds.get i).high.enabled = true → (s.thresholds.get i).high.armed = true →
          pair.high = { (s.thresholds.get i).high with
            resultValid := true, last := if (s.thresholds.get i).high.value < value then .above else .below
            armed := pair.high.armed }
          ∧ (pair.high.armed = false ↔ fires true (s.thresholds.get i).high))
      ∧ (fires false (s.thresholds.get i).low → t.alerts.pending[alertIndex low] = some .new)
      ∧ (fires true (s.thresholds.get i).high → t.alerts.pending[alertIndex high] = some .new)
      ∧ (∀ x : Fin 14, (x ≠ alertIndex low ∨ ¬ fires false (s.thresholds.get i).low) →
          (x ≠ alertIndex high ∨ ¬ fires true (s.thresholds.get i).high) →
          t.alerts.pending[x] = s.alerts.pending[x]))

/-! ## Links, frames and segments -/

/-- R2: at link-up a port takes the negotiated speed, whether it was DOWN or (assumption 14) already UP. On a port other than
UPLINK and the management port nothing else changes. On UPLINK a departure follows when the transmitter is free and a queue
holds a frame (R54): the frame chosen leaves its queue and is in transmission as it was queued, unless it is an OPEN (R123),
its departure tick recorded, an URGENT one first (R55). On the management port the send test follows (R178): with a source pending, a destination and the alert timer
stopped, an alert frame joins the port's queue. (Of DRAINING, in which the night engine may send at once, only what it leaves
alone is said.) -/
def Obligations.LinkUpTakesTheSpeed : Prop :=
  ∀ (port : Segment) (speed : LinkSpeed) (s : State), ∃ t, exec (.linkUp port speed) s = .next t
    ∧ t.links = s.links.set (some speed) port
    ∧ t.asleep = ({ s with links := s.links.set (some speed) port } : State).asleep
    ∧ (port ≠ .uplink ∨ s.night.state ≠ .draining →
        t.still = ({ s with links := s.links.set (some speed) port } : State).still)
    ∧ (port ≠ .uplink → port ≠ s.ports.managementPort → t = { s with links := s.links.set (some speed) port })
    ∧ (port = .uplink → s.night.state ≠ .draining → s.alerts.destination = none →
        (s.uplink.transmitting ≠ none ∨ (∀ q, s.uplink.queues.get q = []) → t.uplink = s.uplink)
        ∧ (s.uplink.transmitting = none → (∃ q, s.uplink.queues.get q ≠ []) →
            ∃ q f rest x, s.uplink.queues.get q = f :: rest ∧ t.uplink.queues = s.uplink.queues.set q rest
              ∧ t.uplink.transmitting = some x ∧ x.departureTick = s.tick ∧ (f.kind ≠ .opening → x.frame = f)
              ∧ (s.uplink.queues.urgent ≠ [] → q = .urgent)))
    ∧ (∀ (d : Station) (p : EgressPort), port = egressSegment p → s.ports.managementPort = port →
        s.alerts.destination = some d → (∃ i : Fin 14, s.alerts.pending[i] ≠ none) → s.alerts.timer = none →
        (s.egress.get p).length < 64 →
        ∃ f, t.egress = s.egress.set p (s.egress.get p ++ [f]) ∧ f.kind = .alert ∧ word48 f.bytes 0 = d
          ∧ t.alerts = { s.alerts with
              pending := s.alerts.pending.map fun x => x.map fun _ => AlertMark.reported
              number := s.alerts.number + 1
              timer := some ⟨s.tick, s.alerts.interval⟩ })

/-- R2, R57, R136, R154: at link loss the port goes DOWN. TILL, GUEST and OFFICE empty their egress queue and do nothing
else. UPLINK empties its scheduler and puts a night engine in CALLING, DRAINING or SETTLING into BACKOFF. LABEL empties its
egress queue, and the updates in flight return to the head of the label queue but for those a queued update supersedes,
with the credit 0 and the pacing timer stopped. A DOWN port takes no link loss (assumption 14). -/
def Obligations.LinkLossEmptiesThePort : Prop :=
  ∀ s : State,
    (∀ port, s.up port = false → exec (.linkLoss port) s = .next s)
    ∧ (∀ p : EgressPort, p ≠ .label → s.up (egressSegment p) = true →
        exec (.linkLoss (egressSegment p)) s =
          .next { s with links := s.links.set none (egressSegment p), egress := s.egress.set p [] })
    ∧ (s.up .uplink = true → ∃ t, exec (.linkLoss .uplink) s = .next t
        ∧ t = { s with
            links := { s.links with uplink := none }
            uplink := { s.uplink with
              queues := ⟨[], [], [], []⟩, transmitting := none, turn := .transfer, guestGap := 15 }
            night := t.night }
        ∧ (s.night.state = .idle ∨ s.night.state = .backoff ∨ s.night.state = .failed → t.night = s.night)
        ∧ (s.night.state = .calling ∨ s.night.state = .draining ∨ s.night.state = .settling →
            ∃ delay, t.night = { s.night with
              state := .backoff, callTimer := none, ackTimer := none, settleTimer := none
              generator := 25173 * s.night.generator + 13849
              backoffTimer := some ⟨s.tick, delay⟩ }))
    ∧ (s.up .label = true → ∃ t lost, exec (.linkLoss .label) s = .next t
        ∧ lost = s.label.inFlight.countP (fun u => holdsLabel s.label.queue u.number)
        ∧ t.egress.label = []
        ∧ t.quiet = ({ s with
            links := { s.links with label := none }
            label := { s.label with
              queue := (s.label.inFlight.filter fun u => !holdsLabel s.label.queue u.number).map
                (fun u => { u with sentTick := none, deadline := none }) ++ s.label.queue
              inFlight := [], credit := 0, pacingTimer := none }
            pool := { s.pool with free := s.pool.free + lost, labelHeld := s.pool.labelHeld - lost } } : State).quiet)

/-- R5: the receive checks. A frame with a wrong frame check sequence or a counted length outside 60 to 1,518 is counted as
Receive-Error of its segment and has no other effect; a good frame for another station has none at all. A port that is DOWN
receives nothing (R2): that a FRAME_RECEIVED command given there changes nothing is the model's choice (assumption 14). -/
def Obligations.ReceiveChecksDiscardBadAndForeignFrames : Prop :=
  ∀ (port : Segment) (fcs : Bool) (bs : Bytes) (s : State),
    (s.up port = false → exec (.frameReceived port fcs bs) s = .next s)
    ∧ (s.up port = true → fcs = false ∨ bs.length < 60 ∨ 1518 < bs.length →
        exec (.frameReceived port fcs bs) s = .next (offer ⟨.receiveError port, 1, ⟨false, none, port, none⟩, none⟩ s)
          ∧ (offer ⟨.receiveError port, 1, ⟨false, none, port, none⟩, none⟩ s).still = s.still)
    ∧ (s.up port = true → fcs = true → 60 ≤ bs.length → bs.length ≤ 1518 → word48 bs 0 ≠ s.station →
        word48 bs 0 ≠ 0xFFFFFFFFFFFF → exec (.frameReceived port fcs bs) s = .next s)

/-- R11, R194: an ARP request for the gateway address of its segment is answered on that port, on UPLINK in URGENT (the
transmitter busy), in CLOSED as in RUNNING; in RUNNING on TILL only when an enabled till holds its sender addresses (R8:
otherwise it is dropped as Unknown-Till), and on GUEST only when the guest table passes it (R9, R71). R12, R181, R182: a frame
of the management type on the management port joins a request queue of fewer than 8 requests, and its source station becomes
the alert destination (R177); a queue of 8 drops it as Request-Dropped. R181: in either part state an unfragmented UDP
datagram on UPLINK for the UPLINK gateway address and the agent service joins the queue too, with the reply address its
source address and service, when its UDP checksum is 0 or correct, the collector address is set and is its source, and its
payload holds tag and command code; otherwise it is dropped as Unsupported. That these two are 3 bytes, and the reason in
CLOSED, are the model's choice (assumptions 15, 32). -/
def Obligations.FramesForThePartAreAnsweredOrQueued : Prop :=
  ∀ (bs : Bytes) (s : State), 60 ≤ bs.length → bs.length ≤ 1518 →
    word48 bs 0 = s.station ∨ word48 bs 0 = 0xFFFFFFFFFFFF →
    (∀ (port : Segment) (u : State), s.up port = true → s.alerts.destination = none → word16 bs 12 = 0x0806 →
      word16 bs 14 = 1 → word16 bs 16 = 0x0800 → byteAt bs 18 = 6 → byteAt bs 19 = 4 → word16 bs 20 = 1 →
      word32 bs 38 ≠ 0 → s.ports.gateways.get port = word32 bs 38 →
      (u = s ∧ (s.running = false ∨ port = .label ∨ port = .office ∨ port = .uplink ∨ (port = .till ∧ ∃ i : Fin 32,
          s.tills[i].enabled = true ∧ s.tills[i].station = word48 bs 6 ∧ s.tills[i].address = word32 bs 28)))
        ∨ (s.running = true ∧ port = .guest
          ∧ (offer ⟨.received .guest, 1, ⟨false, none, .guest, some (word48 bs 6)⟩, none⟩ s).guestPasses u (word48 bs 6)
            (word32 bs 28) bs.length) →
      ∃ t f, exec (.frameReceived port true bs) s = .next t ∧ t.still = u.still
        ∧ f.kind = .arpReply ∧ f.entryTick = s.tick
        ∧ f.bytes = be48 (word48 bs 22) ++ be48 s.station ++ [0x08, 0x06, 0, 1, 8, 0, 6, 4, 0, 2] ++ be48 s.station
            ++ be32 (word32 bs 38) ++ be48 (word48 bs 22) ++ be32 (word32 bs 28) ++ List.replicate 18 0
        ∧ (∀ p : EgressPort, egressSegment p = port → (s.egress.get p).length < 64 →
          t.egress = s.egress.set p (s.egress.get p ++ [f]) ∧ t.uplink = s.uplink)
        ∧ (port = .uplink → s.uplink.transmitting ≠ none → s.uplink.queues.urgent.length < s.uplink.limits.urgent →
          queuedTotal s.uplink.queues < 256 → t.egress = s.egress ∧ t.uplink = { s.uplink with
            queues := { s.uplink.queues with urgent := s.uplink.queues.urgent ++ [f] } }))
    ∧ (s.up .till = true → s.running = true → word16 bs 12 = 0x0806 → (∀ i : Fin 32, s.tills[i].enabled = true →
        s.tills[i].station = word48 bs 6 → s.tills[i].address ≠ word32 bs 28) →
      exec (.frameReceived .till true bs) s
        = .next (offer ⟨.drop .unknownTill, 1, ⟨false, none, .till, some (word48 bs 6)⟩, none⟩
          (offer ⟨.received .till, 1, ⟨false, none, .till, some (word48 bs 6)⟩, none⟩ s)))
    ∧ (s.up s.ports.managementPort = true → word16 bs 12 = s.ports.managementType →
        s.ports.managementType ≠ 0x0800 → s.ports.managementType ≠ 0x0806 →
        ∃ t, exec (.frameReceived s.ports.managementPort true bs) s = .next t
          ∧ (s.agent.queue.length < 8 → t.still = ({ s with
              agent := { s.agent with
                queue := s.agent.queue ++ [⟨.station (word48 bs 6) s.ports.managementPort, bs.drop 14⟩] }
              alerts := { s.alerts with destination := some (word48 bs 6) } } : State).still)
          ∧ (8 ≤ s.agent.queue.length → t.still = s.still
              ∧ t = offer ⟨.requestDropped, 1, ⟨false, none, s.ports.managementPort, some (word48 bs 6)⟩, none⟩
                (offer ⟨.received s.ports.managementPort, 1,
                  ⟨false, none, s.ports.managementPort, some (word48 bs 6)⟩, none⟩ s)))
    ∧ (∀ (ip : Ipv4) (source : Service) (accepted : Prop), s.up .uplink = true → word48 bs 0 ≠ 0xFFFFFFFFFFFF →
        word16 bs 12 = 0x0800 → parseIpv4 bs = some ip → ip.unfragmented = true → ip.protocol = 17 →
        ip.destination ≠ 0 → ip.destination = s.ports.gateways.uplink →
        ip.destinationService = some s.ports.agentService → ip.sourceService = some source →
        (accepted ↔ udpChecksumAccepted bs ip = true ∧ s.night.settings.collector ≠ 0
          ∧ ip.source = s.night.settings.collector ∧ 3 ≤ (udpPayload bs ip).length) →
        ∃ t, exec (.frameReceived .uplink true bs) s = .next t
          ∧ (accepted → s.agent.queue.length < 8 → t.still = ({ s with agent := { s.agent with
              queue := s.agent.queue ++ [⟨.datagram ip.source source, udpPayload bs ip⟩] } } : State).still)
          ∧ (accepted → 8 ≤ s.agent.queue.length → t.still = s.still
              ∧ t = offer ⟨.requestDropped, 1, ⟨false, none, .uplink, some (word48 bs 6)⟩, none⟩
                (offer ⟨.received .uplink, 1, ⟨false, none, .uplink, some (word48 bs 6)⟩, none⟩ s))
          ∧ (¬ accepted → t.still = s.still
              ∧ t = offer ⟨.drop .unsupported, 1, ⟨false, none, .uplink, some (word48 bs 6)⟩, none⟩
                (offer ⟨.received .uplink, 1, ⟨false, none, .uplink, some (word48 bs 6)⟩, none⟩ s)))

/-- R24, R25, R27: window lookup of a frame of a segment in the active bank: of the enabled entries that have the segment
among their sources and match in key address under mask, protocol and service range, the pinned one with the lowest index,
else the lowest unpinned one, else the segment's default; the outcome holds the fields of what was chosen. R14, R78: where a
segment and a network address resolve to. R28, R39, R42: a frame from OFFICE, LABEL, an enabled till, or UPLINK where it is a
reply to no open request (R91), raises the hit count of what its lookup chose (R26). One with Forward and a TTL above 1 is
rewritten, its key address translated under the mask, and sent to the station its destination resolves to, with the mark and
window index of its copy: to TILL, LABEL, GUEST or OFFICE it joins that egress queue (R15), and to UPLINK, from UPLINK, TILL
or LABEL, the queue of its class unmetered (R29). Where no station is found it is dropped for the reason. R13, R30, R31, R32: a
Forward or Track frame with a TTL of 0 or 1 is dropped as TTL-Expired, a Track or Spool frame of another segment than TILL as
Unsuitable, and a Drop frame as Denied. (With no alert destination set, so that no alert frame comes between.) That Track's
TTL check comes before the segment's is the model's choice (assumption 30). -/
def Obligations.LookupAndResolutionDecideTheFrame : Prop :=
  (∀ (g : Segment) (ip : Ipv4) (bank : Bank) (found : Fin 64 → Prop) (taken : Fin 64 → LookupCopy) (s : State),
    bank = (match s.classifier.active with | .a => s.classifier.bankA | .b => s.classifier.bankB) →
    (∀ i, found i ↔ bank.entries[i].enabled = true ∧ bank.entries[i].sources.get g = true
      ∧ (match bank.entries[i].key with | .destination => ip.destination | .source => ip.source)
          &&& bank.entries[i].mask = bank.entries[i].base &&& bank.entries[i].mask
      ∧ (bank.entries[i].protocol = none ∨ bank.entries[i].protocol = some ip.protocol)
      ∧ (bank.entries[i].range = none ∨ ∃ low high service, bank.entries[i].range = some (low, high)
        ∧ ip.unfragmented = true ∧ (ip.protocol = 6 ∨ ip.protocol = 17) ∧ ip.destinationService = some service
        ∧ low.toNat ≤ service.toNat ∧ service.toNat ≤ high.toNat)) →
    (∀ i, taken i = {
      action := bank.entries[i].action, destination := bank.entries[i].destination
      translate := bank.entries[i].translate, mask := bank.entries[i].mask, key := bank.entries[i].key
      uplinkClass := bank.entries[i].uplinkClass, mark := bank.entries[i].mark, offset := bank.entries[i].offset
      bank := s.classifier.active, index := some i }) →
    (∀ i, found i → bank.entries[i].pinned = true → (∀ j, j < i → found j → bank.entries[j].pinned = false) →
      lookupCopy s.classifier g ip = taken i)
    ∧ (∀ i, found i → (∀ j, found j → bank.entries[j].pinned = false ∧ i ≤ j) →
      lookupCopy s.classifier g ip = taken i)
    ∧ ((∀ i, ¬ found i) → ∃ copy, lookupCopy s.classifier g ip = copy
      ∧ copy.action = (if (bank.defaults.get g).forwards then .forward else .drop)
      ∧ copy.destination = (bank.defaults.get g).destination ∧ copy.translate = none
      ∧ copy.uplinkClass = (bank.defaults.get g).uplinkClass ∧ copy.mark = false
      ∧ copy.bank = s.classifier.active ∧ copy.index = none))
  ∧ (∀ (received : Option Segment) (a : NetAddr) (s : State),
    (∀ x, s.ports.nextHop = some x → resolve s received .uplink a = .ok x)
    ∧ (s.ports.nextHop = none → resolve s received .uplink a = .error .noStation)
    ∧ (∀ g : Segment, g ≠ .uplink → g ≠ .guest ∨ received ≠ some .guest → s.up g = false →
      resolve s received g a = .error .noStation)
    ∧ (s.up .till = true →
      (∀ i : Fin 32, s.tills[i].enabled = true → s.tills[i].address = a →
        (∀ j : Fin 32, j < i → s.tills[j].enabled = true → s.tills[j].address ≠ a) →
        resolve s received .till a = .ok s.tills[i].station)
      ∧ ((∀ i : Fin 32, s.tills[i].enabled = true → s.tills[i].address ≠ a) →
        resolve s received .till a = .error .noStation))
    ∧ (s.up .label = true →
      (∀ b, s.ports.baseStation = some b → b.address = a → resolve s received .label a = .ok b.station)
      ∧ ((∀ b, s.ports.baseStation = some b → b.address ≠ a) →
        resolve s received .label a = .error .noStation))
    ∧ (s.up .office = true →
      (∀ i : Fin 8, s.office[i].enabled = true → s.office[i].address = a →
        (∀ j : Fin 8, j < i → s.office[j].enabled = true → s.office[j].address ≠ a) →
        resolve s received .office a = .ok s.office[i].station)
      ∧ ((∀ i : Fin 8, s.office[i].enabled = true → s.office[i].address ≠ a) →
        resolve s received .office a = .error .noStation))
    ∧ (received = some .guest → resolve s received .guest a = .error .guestIsolated)
    ∧ (s.up .guest = true → received ≠ some .guest →
      (∀ (before after : List GuestEntry) (e : GuestEntry), s.guest.table = before ++ e :: after → e.address = a →
        (∀ x ∈ before, x.address ≠ a) →
        resolve s received .guest a = if e.barred then .error .barred else .ok e.station)
      ∧ ((∀ e ∈ s.guest.table, e.address ≠ a) → resolve s received .guest a = .error .noStation)))
  ∧ ∀ (port : Segment) (bs : Bytes) (ip : Ipv4) (copy : LookupCopy) (origin : Origin)
      (newSource newDestination : Option NetAddr) (s : State),
    s.arrives port bs ip → s.alerts.destination = none → copy = lookupCopy s.classifier port ip →
    origin = ⟨copy.mark, copy.index, port, some (word48 bs 6)⟩ →
    port = .office ∨ port = .label
      ∨ (port = .till ∧ ∃ n : Fin 32, s.tills[n].enabled = true ∧ s.tills[n].station = word48 bs 6
        ∧ s.tills[n].address = ip.source)
      ∨ (port = .uplink ∧ ∀ (i : Fin 64) (r : OpenRequest), s.tracker.slots[i] = some r →
        ¬ (ip.unfragmented = true ∧ ip.protocol = 17 ∧ ip.payloadOffset.isSome = true ∧ ip.source = r.serverAddress
          ∧ ip.sourceService = some r.serverService ∧ ip.destination = s.tills[r.till].address
          ∧ ip.destinationService = some r.tillService ∧ r.tagOffset.toNat + 4 ≤ (udpPayload bs ip).length
          ∧ word32 (udpPayload bs ip) r.tagOffset.toNat = r.tag)) →
    newDestination = (match copy.translate, copy.key with
      | some x, .destination => some ((x &&& copy.mask) ||| (ip.destination &&& ~~~copy.mask))
      | _, _ => none) →
    newSource = (match copy.translate, copy.key with
      | some x, .source => some ((x &&& copy.mask) ||| (ip.source &&& ~~~copy.mask))
      | _, _ => none) →
    (∀ station : Station, copy.action = .forward → 2 ≤ ip.ttl.toNat →
      resolve s (some port) copy.destination (newDestination.getD ip.destination) = .ok station →
      copy.destination ≠ .uplink ∨ port ≠ .office →
      ∃ t f, exec (.frameReceived port true bs) s = .next t
        ∧ t.still = ({ s with classifier := s.classifier.hit port copy } : State).still
        ∧ f.kind = .forwarded ∧ f.entryTick = s.tick ∧ f.origin = origin
        ∧ f.bytes = be48 station ++ be48 s.station ++ (rewriteBytes bs ip newSource newDestination).drop 12
        ∧ (∀ p : EgressPort, copy.destination = egressSegment p → (s.egress.get p).length < 64 →
          t.egress = s.egress.set p (s.egress.get p ++ [f]) ∧ t.uplink = s.uplink)
        ∧ (∀ q : UplinkQueue, copy.destination = .uplink →
          q = (match copy.uplinkClass with | .urgent => .urgent | .office => .office) →
          s.uplink.transmitting ≠ none → (s.uplink.queues.get q).length < s.uplink.limits.get q →
          queuedTotal s.uplink.queues < 256 → t.egress = s.egress
            ∧ t.uplink = { s.uplink with queues := s.uplink.queues.set q (s.uplink.queues.get q ++ [f]) }))
    ∧ (∀ reason : DropReason,
      (copy.action = .forward ∧ 2 ≤ ip.ttl.toNat
          ∧ resolve s (some port) copy.destination (newDestination.getD ip.destination) = .error reason)
        ∨ ((copy.action = .forward ∨ copy.action = .track) ∧ ip.ttl.toNat ≤ 1 ∧ reason = .ttlExpired)
        ∨ (copy.action = .track ∧ port ≠ .till ∧ 2 ≤ ip.ttl.toNat ∧ reason = .unsuitable)
        ∨ (copy.action = .spool ∧ port ≠ .till ∧ reason = .unsuitable)
        ∨ (copy.action = .drop ∧ reason = .denied) →
      ∃ t u, exec (.frameReceived port true bs) s = .next t ∧ t = offer ⟨.drop reason, 1, origin, none⟩ u
        ∧ t.egress = s.egress ∧ t.uplink = s.uplink
        ∧ u.still = ({ s with classifier := s.classifier.hit port copy } : State).still
        ∧ t.still = ({ s with classifier := s.classifier.hit port copy } : State).still)

/-- R35, R78: in every state whose active bank passed the isolation check, a frame received on GUEST, whatever it holds, puts
no forwarded frame into any egress queue, its own segment's included, and leaves journal, pool, tills, tracker, night engine
and label engine as they were. -/
def Obligations.GuestFramesJoinNoEgressQueue : Prop :=
  ∀ (fcs : Bool) (bs : Bytes) (s t : State), IsolationLaw s → exec (.frameReceived .guest fcs bs) s = .next t →
    (∀ p : EgressPort, (t.egress.get p).filter (fun f => f.kind == .forwarded)
        = (s.egress.get p).filter (fun f => f.kind == .forwarded))
      ∧ t.journal = s.journal ∧ t.pool = s.pool ∧ t.tills = s.tills ∧ t.tracker = s.tracker ∧ t.night = s.night
      ∧ t.label = s.label

/-- R16: in CLOSED a received frame changes nothing but what an event and a queued frame change, the request queue and the
alert destination: no table, meter, journal, tracker or engine sees it. It is forwarded nowhere: every forwarded frame in an
egress queue, an uplink queue or the transmitter after it was there, or in an uplink queue, before. -/
def Obligations.ClosedPartHandsOnNoFrame : Prop :=
  ∀ (port : Segment) (fcs : Bool) (bs : Bytes) (s : State), s.running = false →
    ∃ t, exec (.frameReceived port fcs bs) s = .next t
      ∧ t.still = ({ s with
          agent := { s.agent with queue := t.agent.queue }
          alerts := { s.alerts with destination := t.alerts.destination } } : State).still
      ∧ (t.agent.queue = s.agent.queue ∨ ∃ r, t.agent.queue = s.agent.queue ++ [r])
      ∧ (∀ p : EgressPort, (t.egress.get p).filter (fun f => f.kind == .forwarded)
          = (s.egress.get p).filter (fun f => f.kind == .forwarded))
      ∧ (∀ (q : UplinkQueue) (f : Frame), f ∈ t.uplink.queues.get q → f.kind = .forwarded →
          f ∈ s.uplink.queues.get q)
      ∧ ∀ x : Transmission, t.uplink.transmitting = some x → x.frame.kind = .forwarded →
          s.uplink.transmitting = some x ∨ ∃ q, x.frame ∈ s.uplink.queues.get q

/-! ## The receive path's engines -/

/-- R86, R88, R90, R43: a Track frame from an enabled till that carries a tag at the field offset, with a TTL above 1. With
no entry for its key, with fewer entries of its till than its open limit and a lowest free slot, that slot takes the entry
R86 lists and nothing else changes but the hit count. With an entry for its key, that entry alone changes: Waiting, one
resend more up to 15, the deadline the reply timeout ahead. R89: at the open limit no entry changes and nothing is sent;
with all 64 slots full below it the frame is untracked, and no entry changes. R30: a tracked, repeated or untracked frame
waits, rewritten, at the tail of URGENT, when the next-hop station is present, the transmitter busy and the queue has room.
(With no alert destination set, so that no alert frame comes between.) -/
def Obligations.TillRequestIsTracked : Prop :=
  ∀ (bs : Bytes) (ip : Ipv4) (copy : LookupCopy) (n : Fin 32) (tag : BitVec 32) (sent : State → Prop) (s : State),
    s.arrives .till bs ip → copy = lookupCopy s.classifier .till ip → copy.action = .track → 2 ≤ ip.ttl.toNat →
    s.tillOf (word48 bs 6) ip.source = some n → ip.protocol = 17 → ip.unfragmented = true →
    ip.payloadOffset.isSome = true → copy.offset.toNat + 4 ≤ (udpPayload bs ip).length →
    tag = word32 (udpPayload bs ip) copy.offset.toNat →
    (∀ t, sent t ↔ ∀ a, s.alerts.destination = none → s.ports.nextHop = some a → s.uplink.transmitting ≠ none →
      s.uplink.queues.urgent.length < s.uplink.limits.urgent → queuedTotal s.uplink.queues < 256 →
      t.uplink = { s.uplink with queues := { s.uplink.queues with urgent := s.uplink.queues.urgent ++ [{
        kind := .forwarded
        bytes := be48 a ++ be48 s.station ++ (rewriteBytes bs ip (copySource copy ip) (copyDestination copy ip)).drop 12
        entryTick := s.tick, origin := ⟨copy.mark, copy.index, .till, some (word48 bs 6)⟩ }] } }) →
    ∃ t, exec (.frameReceived .till true bs) s = .next t
      ∧ (∀ i : Fin 64, s.tracker.findKey n (ip.sourceService.getD 0) tag = none →
          s.tracker.openCount n < s.tills[n].openLimit → s.tracker.slots[i] = none →
          (∀ j : Fin 64, j < i → s.tracker.slots[j] ≠ none) →
          sent t ∧ t.still = ({ s with
            classifier := s.classifier.hit .till copy
            tracker := { s.tracker with slots := s.tracker.slots.set i (some {
              till := n, tillService := ip.sourceService.getD 0, tag := tag
              originalAddress := ip.destination, originalService := ip.destinationService.getD 0
              serverAddress := (match copy.translate, copy.key with
                | some x, .destination => (x &&& copy.mask) ||| (ip.destination &&& ~~~copy.mask)
                | _, _ => ip.destination)
              serverService := ip.destinationService.getD 0, tagOffset := copy.offset
              windowIndex := copy.index, mark := copy.mark, sentTick := s.tick, resends := 0, state := .waiting
              deadline := s.tick + BitVec.ofNat 32 s.tracker.replyTimeout }) } } : State).still)
      ∧ (∀ (i : Fin 64) (r : OpenRequest), s.tracker.findKey n (ip.sourceService.getD 0) tag = some i →
          s.tracker.slots[i] = some r →
          sent t ∧ t.still = ({ s with
            classifier := s.classifier.hit .till copy
            tracker := { s.tracker with slots := s.tracker.slots.set i (some { r with
              resends := min 15 (r.resends + 1), state := .waiting
              deadline := s.tick + BitVec.ofNat 32 s.tracker.replyTimeout }) } } : State).still)
      ∧ (s.tracker.findKey n (ip.sourceService.getD 0) tag = none →
          s.tills[n].openLimit ≤ s.tracker.openCount n →
          (s.alerts.destination = none → t.uplink = s.uplink)
          ∧ t.still = ({ s with classifier := s.classifier.hit .till copy } : State).still)
      ∧ (s.tracker.findKey n (ip.sourceService.getD 0) tag = none →
          s.tracker.openCount n < s.tills[n].openLimit → (∀ i : Fin 64, s.tracker.slots[i] ≠ none) →
          sent t ∧ t.still = ({ s with classifier := s.classifier.hit .till copy } : State).still)

/-- R91, R92, R44: a frame on UPLINK is a reply to an entry when it is an unfragmented UDP datagram with a payload, from the
entry's server address and service to its till's address and till service, that holds the entry's tag at its tag offset. To
the entry of the lowest slot of several, with a TTL above 1: the entry is freed and nothing else changes; the reply joins the
TILL egress queue, when its till resolves and the queue has room, with the source address the till sent its request to. With
a TTL of 0 or 1 the entry stays. A frame that is a reply to none goes to window lookup, and frees none. -/
def Obligations.MatchedReplyFreesItsRequest : Prop :=
  ∀ (bs : Bytes) (ip : Ipv4) (reply : OpenRequest → Prop) (s : State), s.arrives .uplink bs ip →
    (∀ r, reply r ↔ ip.unfragmented = true ∧ ip.protocol = 17 ∧ ip.payloadOffset.isSome = true
      ∧ ip.source = r.serverAddress ∧ ip.sourceService = some r.serverService
      ∧ ip.destination = s.tills[r.till].address ∧ ip.destinationService = some r.tillService
      ∧ r.tagOffset.toNat + 4 ≤ (udpPayload bs ip).length
      ∧ word32 (udpPayload bs ip) r.tagOffset.toNat = r.tag) →
    (∀ (i : Fin 64) (r : OpenRequest), s.tracker.slots[i] = some r → reply r →
      (∀ (j : Fin 64) (r' : OpenRequest), j < i → s.tracker.slots[j] = some r' → ¬ reply r') →
      (ip.ttl.toNat ≤ 1 → ∃ t, exec (.frameReceived .uplink true bs) s = .next t ∧ t.still = s.still)
      ∧ (2 ≤ ip.ttl.toNat → ∃ t, exec (.frameReceived .uplink true bs) s = .next t
          ∧ t.still = ({ s with
              tracker := { s.tracker with slots := s.tracker.slots.set i none } } : State).still
          ∧ ∀ e : TillEntry, s.alerts.destination = none → s.up .till = true → s.egress.till.length < 64 →
              s.tillAt ip.destination = some e →
              ∃ f, t.egress = { s.egress with till := s.egress.till ++ [f] } ∧ f.kind = .forwarded
                ∧ f.entryTick = s.tick
                ∧ f.bytes = be48 e.station ++ be48 s.station
                    ++ (rewriteBytes bs ip (some r.originalAddress) none).drop 12))
    ∧ ((∀ (i : Fin 64) (r : OpenRequest), s.tracker.slots[i] = some r → ¬ reply r) →
      ∃ t, exec (.frameReceived .uplink true bs) s = .next t ∧ t.tracker = s.tracker
        ∧ t.classifier = s.classifier.hit .uplink (lookupCopy s.classifier .uplink ip))

/-- R102, R103, R104, R112, R107: a Spool frame from an enabled till whose UDP checksum is 0 or correct. When its payload holds
a record number at the field offset and is at most 1,024 bytes: a new record (no last accepted, or a number 1 to 2^31 - 1
after it) that the pool has blocks for is journaled with the next sequence, its blocks taken and the till's last accepted
set; one it has no blocks for changes nothing but the hit count, and so does a duplicate. A payload longer, or too short to
hold the number, changes nothing but the hit count. R105, R199: the till is told, in the TILL egress queue: ACCEPT with code
ACCEPTED and the sequence, or DUPLICATE; REFUSE with FULL, or TOO-LONG or MALFORMED with record number 0. -/
def Obligations.SaleRecordIsJournaledOnce : Prop :=
  ∀ (bs : Bytes) (ip : Ipv4) (copy : LookupCopy) (n : Fin 32) (number : Seq) (blocks : Nat) (good : Prop)
    (told : State → Bytes → Prop) (s : State),
    s.arrives .till bs ip → copy = lookupCopy s.classifier .till ip → copy.action = .spool →
    s.tillOf (word48 bs 6) ip.source = some n → ip.protocol = 17 → ip.unfragmented = true →
    ip.payloadOffset.isSome = true → udpChecksumAccepted bs ip = true →
    (good ↔ copy.offset.toNat + 4 ≤ (udpPayload bs ip).length ∧ (udpPayload bs ip).length ≤ 1024) →
    number = word32 (udpPayload bs ip) copy.offset.toNat → blocks = (16 + (udpPayload bs ip).length + 255) / 256 →
    (∀ t payload, told t payload ↔ s.tillTold ip.source (ip.destinationService.getD 0) (ip.sourceService.getD 0)
      payload t) →
    ∃ t, exec (.frameReceived .till true bs) s = .next t
      ∧ (good → (∀ last, s.tills[n].lastAccepted = some last →
            1 ≤ (number - last).toNat ∧ (number - last).toNat ≤ 2 ^ 31 - 1) →
          blocks + (s.pool.labelReserve - s.pool.labelHeld) ≤ s.pool.free →
          told t ([1, 1, 0, 0] ++ be32 number ++ be32 s.journal.nextSeq) ∧ t.asleep = ({ s with
            classifier := s.classifier.hit .till copy
            tills := s.tills.set n { s.tills[n] with lastAccepted := some number }
            journal := { s.journal with
              records := s.journal.records ++ [{
                sequence := s.journal.nextSeq, till := n, number := number
                time := if s.clock.set then some s.clock.time else none, payload := udpPayload bs ip }]
              nextSeq := s.journal.nextSeq + 1 }
            pool := { s.pool with
              free := s.pool.free - blocks, journalHeld := s.pool.journalHeld + blocks } } : State).asleep)
      ∧ (good → (∀ last, s.tills[n].lastAccepted = some last →
            1 ≤ (number - last).toNat ∧ (number - last).toNat ≤ 2 ^ 31 - 1) →
          s.pool.free < blocks + (s.pool.labelReserve - s.pool.labelHeld) →
          told t ([2, 5, 0, 0] ++ be32 number ++ [0, 0, 0, 0])
          ∧ t.still = ({ s with classifier := s.classifier.hit .till copy } : State).still)
      ∧ (good → ∀ last, s.tills[n].lastAccepted = some last → number = last ∨ 2 ^ 31 ≤ (number - last).toNat →
          told t ([1, 2, 0, 0] ++ be32 number ++ [0, 0, 0, 0])
          ∧ t.still = ({ s with classifier := s.classifier.hit .till copy } : State).still)
      ∧ (¬ good →
          told t ([2, if 1024 < (udpPayload bs ip).length then 3 else 4, 0, 0] ++ [0, 0, 0, 0] ++ [0, 0, 0, 0])
          ∧ t.still = ({ s with classifier := s.classifier.hit .till copy } : State).still)

/-- R71, R72, R73: the source check on GUEST, for an IPv4 frame by its source address and for an ARP frame by its sender address.
With the guest state closed the frame is dropped as Closed, and with an address outside the guest range as Guest-Spoof. A
barred station's is dropped as Barred; one whose address another entry holds, of a known station or an unknown one, as
Guest-Conflict; and one of an unknown station with 128 entries and no victim as Guest-Full: the table holds no unbarred
entry, or the one nearest the tail has not been idle the minimum idle. None of these changes an entry. A known station's
entry takes the address and the tick, counts the frame and moves to the head. An unknown station is admitted at the head with
a full station meter, at 128 entries in the place of the victim, which is counted as Evicted. A frame that passes goes on to
the local-delivery check, where one to a gateway address is dropped as Unsupported (R10); an ARP frame goes on to R11. What
follows changes at most the level and last tick of the station's own meter, which no refill brings above its depth. -/
def Obligations.GuestStationIsAdmittedAtTheHead : Prop :=
  ∀ (bs : Bytes) (address : NetAddr) (toGateway : Prop) (next : State → State) (origin : Origin) (received s : State),
    s.up .guest = true → s.running = true → 60 ≤ bs.length → bs.length ≤ 1518 →
    origin = ⟨false, none, .guest, some (word48 bs 6)⟩ → received = offer ⟨.received .guest, 1, origin, none⟩ s →
    (∃ ip, word48 bs 0 = s.station ∧ s.station ≠ broadcastStation ∧ word16 bs 12 = 0x0800 ∧ parseIpv4 bs = some ip
        ∧ address = ip.source ∧ next = deliverLocal ⟨.guest, bs, ip, none⟩
        ∧ (toGateway ↔ ip.destination ≠ 0 ∧ ∃ g, s.ports.gateways.get g = ip.destination))
      ∨ ((word48 bs 0 = s.station ∨ word48 bs 0 = broadcastStation) ∧ word16 bs 12 = 0x0806 ∧ address = word32 bs 28
        ∧ next = arpFrame .guest bs ∧ ¬ toGateway) →
    (∀ u, received.guestPasses u (word48 bs 6) address bs.length →
      exec (.frameReceived .guest true bs) s = .next (next u)
        ∧ (toGateway → next u = offer ⟨.drop .unsupported, 1, origin, none⟩ u)
        ∧ ∀ e rest, u.guest.table = e :: rest → ∃ level now, level ≤ max e.level s.guest.settings.depth
          ∧ (next u).guest = { s.guest with table := { e with level := level, meterTick := now } :: rest })
    ∧ ∀ reason : DropReason,
      (s.levels.guestState.value = .closed ∧ reason = .closed)
        ∨ (s.levels.guestState.value = .opened ∧ ¬ s.inGuestRange address ∧ reason = .guestSpoof)
        ∨ (s.levels.guestState.value = .opened ∧ s.inGuestRange address
          ∧ ((∃ before after e, s.guest.table = before ++ e :: after ∧ e.station = word48 bs 6
              ∧ (∀ x ∈ before, x.station ≠ word48 bs 6)
              ∧ ((e.barred = true ∧ reason = .barred)
                ∨ (e.barred = false ∧ e.address ≠ address ∧ (∃ x ∈ s.guest.table, x.address = address)
                  ∧ reason = .guestConflict)))
            ∨ ((∀ e ∈ s.guest.table, e.station ≠ word48 bs 6) ∧ (∃ e ∈ s.guest.table, e.address = address)
              ∧ reason = .guestConflict)
            ∨ ((∀ e ∈ s.guest.table, e.station ≠ word48 bs 6 ∧ e.address ≠ address) ∧ 128 ≤ s.guest.table.length
              ∧ ((∀ e ∈ s.guest.table, e.barred = true) ∨ ∃ before after v, s.guest.table = before ++ v :: after
                ∧ v.barred = false ∧ (∀ x ∈ after, x.barred = true)
                ∧ (s.tick - v.lastActive).toNat < 1000 * s.guest.settings.minIdle)
              ∧ reason = .guestFull))) →
      exec (.frameReceived .guest true bs) s = .next (offer ⟨.drop reason, 1, origin, none⟩ received)
        ∧ (offer ⟨.drop reason, 1, origin, none⟩ received).still = s.still

/-! ## Address rewrite -/

/-- R41: every frame rewritten leaves with a TTL one lower and its protocol unchanged; the header checksum update takes the
TTL and protocol word, old and new, beside both halves of each address that was rewritten (R45); and with no address
rewritten no other byte changes, a transport checksum included. -/
def Obligations.RewriteLowersTheTtlByOne : Prop :=
  ∀ (bs : Bytes) (ip : Ipv4) (source destination : Option NetAddr)
    (words : NetAddr → Option NetAddr → List (BitVec 16 × BitVec 16)),
    parseIpv4 bs = some ip → 2 ≤ ip.ttl.toNat →
    (∀ old, words old none = []) →
    (∀ old new, words old (some new) =
      [(old.extractLsb' 16 16, new.extractLsb' 16 16), (old.extractLsb' 0 16, new.extractLsb' 0 16)]) →
    (byteAt (rewriteBytes bs ip source destination) 22).toNat = ip.ttl.toNat - 1
      ∧ byteAt (rewriteBytes bs ip source destination) 23 = byteAt bs 23
      ∧ word16 (rewriteBytes bs ip source destination) 24 = checksumUpdate (word16 bs 24)
          ((BitVec.ofNat 16 (256 * ip.ttl.toNat + ip.protocol.toNat),
            BitVec.ofNat 16 (256 * (ip.ttl.toNat - 1) + ip.protocol.toNat))
            :: (words ip.destination destination ++ words ip.source source))
      ∧ ∀ k, k ≠ 22 → k ≠ 24 → k ≠ 25 → byteAt (rewriteBytes bs ip none none) k = byteAt bs k

/-- R45: a header that passed the checksum test of R7 still passes it when the frame leaves the rewrite, whatever addresses
were rewritten; it still is a header of the same lengths, with the addresses written in place. R46: a UDP datagram whose
checksum was 0 leaves with 0, and one whose checksum was correct and not 0 leaves with a correct one that is not 0. (Of a TCP
checksum nothing is said here.) -/
def Obligations.RewriteKeepsTheChecksumsGood : Prop :=
  ∀ (bs : Bytes) (ip : Ipv4) (source destination : Option NetAddr), parseIpv4 bs = some ip → 2 ≤ ip.ttl.toNat →
    ∃ ip', parseIpv4 (rewriteBytes bs ip source destination) = some ip'
      ∧ (rewriteBytes bs ip source destination).length = bs.length
      ∧ ip'.headerLength = ip.headerLength ∧ ip'.totalLength = ip.totalLength ∧ ip'.protocol = ip.protocol
      ∧ ip'.source = source.getD ip.source ∧ ip'.destination = destination.getD ip.destination
      ∧ ∀ c, ip.protocol = 17 → ip.transportChecksum = some c → ∃ c', ip'.transportChecksum = some c'
        ∧ (c = 0 → c' = 0)
        ∧ (c ≠ 0 → udpChecksumCorrect ip.source ip.destination (udpBytes bs ip) = true →
            c' ≠ 0 ∧ udpChecksumCorrect ip'.source ip'.destination
              (udpBytes (rewriteBytes bs ip source destination) ip') = true)

/-! ## Transmissions, ticks and meters -/

/-- R15: at the end of a transmission the head of an UP port's egress queue is gone and nothing else changes. R54, R55: at the
end of an uplink transmission the scheduler chooses URGENT, else GUEST when the guest gap is at least the spacing less 1,
else the one of TRANSFER and OFFICE that the turn names or the other, else GUEST; the head of that queue is in
transmission, its departure tick recorded, and turn and guest gap follow the choice. The spacing is the day spacing here,
since the engine is not DRAINING. With every queue empty the transmitter is free. A frame departs as it was queued, but an
OPEN (R123) departs with the UPLINK gateway address in force then as its source, which is 0.0.0.0 while that address is unset;
its checksums follow. That a set address too is taken at the departure is the model's choice (assumption 44). -/
def Obligations.TransmissionEndTakesTheNextFrame : Prop :=
  ∀ (departs : Frame → Frame → Prop) (s : State),
    (∀ f x, departs f x ↔ (f.kind ≠ .opening → x = f) ∧ (f.kind = .opening → x = { f with bytes := x.bytes }
      ∧ ∀ (n : Nat) (a b : Station) (source destination : NetAddr) (own other : Service) (payload : Bytes),
        payload.length ≤ 1400 → f.bytes = udpFrame n a b source destination own other payload →
        x.bytes = udpFrame n a b s.ports.gateways.uplink destination own other payload)) →
    (∀ p : EgressPort, s.up (egressSegment p) = true →
      exec (.egressTransmissionEnd p) s = .next { s with egress := s.egress.set p (s.egress.get p).tail })
    ∧ (s.up .uplink = true → s.uplink.transmitting ≠ none → s.night.state ≠ .draining →
        s.alerts.destination = none →
        ∃ t, exec .uplinkTransmissionEnd s = .next t ∧ t.still = s.still ∧ t.egress = s.egress
          ∧ (∀ f rest, s.uplink.queues.urgent = f :: rest →
              ∃ x, departs f x ∧ t.uplink = { s.uplink with
                queues := { s.uplink.queues with urgent := rest }, transmitting := some ⟨x, s.tick⟩
                guestGap := min 15 (s.uplink.guestGap + 1) })
          ∧ (∀ f rest, s.uplink.queues.urgent = [] → s.uplink.queues.guest = f :: rest →
              (s.uplink.daySpacing ≤ s.uplink.guestGap + 1
                ∨ (s.uplink.queues.transfer = [] ∧ s.uplink.queues.office = [])) →
              ∃ x, departs f x ∧ t.uplink = { s.uplink with
                queues := { s.uplink.queues with guest := rest }, transmitting := some ⟨x, s.tick⟩, guestGap := 0 })
          ∧ (∀ f rest, s.uplink.queues.urgent = [] →
              (s.uplink.queues.guest = [] ∨ s.uplink.guestGap + 1 < s.uplink.daySpacing) →
              s.uplink.queues.transfer = f :: rest →
              (s.uplink.turn = .transfer ∨ s.uplink.queues.office = []) →
              ∃ x, departs f x ∧ t.uplink = { s.uplink with
                queues := { s.uplink.queues with transfer := rest }, transmitting := some ⟨x, s.tick⟩, turn := .office
                guestGap := min 15 (s.uplink.guestGap + 1) })
          ∧ (∀ f rest, s.uplink.queues.urgent = [] →
              (s.uplink.queues.guest = [] ∨ s.uplink.guestGap + 1 < s.uplink.daySpacing) →
              s.uplink.queues.office = f :: rest →
              (s.uplink.turn = .office ∨ s.uplink.queues.transfer = []) →
              ∃ x, departs f x ∧ t.uplink = { s.uplink with
                queues := { s.uplink.queues with office := rest }, transmitting := some ⟨x, s.tick⟩, turn := .transfer
                guestGap := min 15 (s.uplink.guestGap + 1) })
          ∧ (s.uplink.queues = ⟨[], [], [], []⟩ → t.uplink = { s.uplink with transmitting := none }))

/-- R19, R159, R74: an advance of the ms tick raises the tick mod 2^32 and a set clock's sub-second count, which returns to 0
at 1,000 and then has one more second advance due; it makes an aging event due at a multiple of 1,000. An aging event
removes the entries that are not barred and idle longer than the idle limit, and keeps the order of the rest. That a due
event is a command of its own is the model's choice (assumptions 4 and 5). -/
def Obligations.TickAdvanceAndGuestAging : Prop :=
  ∀ s : State,
    exec .msTickAdvance s = .next { s with
        tick := s.tick + 1
        agingDue := decide ((s.tick + 1).toNat % 1000 = 0)
        clock := if s.clock.set = false then s.clock
          else if s.clock.sub < 999 then { s.clock with sub := s.clock.sub + 1 }
          else { s.clock with sub := 0, due := s.clock.due + 1 } }
    ∧ (s.agingDue = true → exec .guestAging s = .next { s with
        agingDue := false
        guest := { s.guest with
          table := s.guest.table.filter fun e =>
            e.barred || decide ((s.tick - e.lastActive).toNat ≤ 1000 * s.guest.settings.idleLimit) } })
    ∧ (s.agingDue = false → exec .guestAging s = .next s)

/-- R59, R60: a frame presented to a meter refills it, the elapsed time held at 65,535. It conforms when the level covers its
counted length, and then lowers the level and goes to its uplink queue; under Defer it is not tested while frames are held.
One that does not conform is counted as a nonconformance of the meter, discarded under Drop, and under Defer joins the hold
queue of fewer than 16. R29: a frame
forwarded to UPLINK is presented from OFFICE to the OFFICE meter and the queue of its class, and from GUEST, once the guest
table has passed it, to the joint test. R75: that refills the station meter and the GUEST meter; a frame that its station
meter does not cover, or whose station no entry holds, is dropped; then the GUEST meter decides as above, and a frame that
conforms to both lowers both and goes to GUEST. R61: at a release event a meter with held frames is refilled and releases the
longest run at the head of its hold queue that the level covers, the level lowered by each; the frames reach the tails of
their uplink queues in order (the transmitter busy, and room in them); R77: each guest frame released lowers its station's
meter, refilled, by its counted length or to 0. A meter that holds nothing takes no release event. After a TRANSFER release in
DRAINING the night engine may send (R131). (Uplink queues are spoken of with no alert destination set.) -/
def Obligations.MetersPassHoldAndRelease : Prop :=
  (∀ (i : Meter) (q : UplinkQueue) (f : Frame) (m refilled : ShareMeter) (p : Profile) (tested : Prop)
      (name : NonconformingMeter) (s : State),
    name = (match i with | .guest => .guest | .office => .office | .transfer => .transfer) → m = s.meters.get i → p = s.profileInUse i →
    refilled = { m with
      lastTick := s.tick, level := min p.depth (m.level + p.rate * min 65535 (s.tick - m.lastTick).toNat) } →
    (tested ↔ p.action = .drop ∨ m.hold = []) →
    (tested → f.bytes.length ≤ refilled.level → ∃ t, presentMeter i q f s = t
      ∧ t.quiet = ({ s with
          meters := s.meters.set i { refilled with level := refilled.level - f.bytes.length } } : State).quiet
      ∧ (s.running = true → s.alerts.destination = none → s.uplink.transmitting ≠ none →
          (s.uplink.queues.get q).length < s.uplink.limits.get q → queuedTotal s.uplink.queues < 256 →
          t.uplink = { s.uplink with queues := s.uplink.queues.set q (s.uplink.queues.get q ++ [f]) }))
    ∧ (p.action = .drop → refilled.level < f.bytes.length → ∃ t, presentMeter i q f s = t
      ∧ t.quiet = ({ s with meters := s.meters.set i refilled } : State).quiet ∧ (∃ u, t = offer ⟨.nonconformance name, 1, f.origin, none⟩ u ∧ u.quiet = t.quiet)
      ∧ (s.alerts.destination = none → t.uplink = s.uplink))
    ∧ (p.action = .defer → ¬ tested ∨ refilled.level < f.bytes.length → ∃ t, presentMeter i q f s = t
      ∧ t.quiet = ({ s with meters := s.meters.set i {
          refilled with hold := if m.hold.length < 16 then m.hold ++ [⟨f, q⟩] else m.hold } } : State).quiet
      ∧ (∃ u, t = offer ⟨.nonconformance name, 1, f.origin, none⟩ u ∧ u.quiet = t.quiet)
      ∧ (s.alerts.destination = none → t.uplink = s.uplink)))
  ∧ (∀ (port : Segment) (bs : Bytes) (ip : Ipv4) (copy : LookupCopy) (newSource newDestination : Option NetAddr)
      (station : Station) (metered : Frame → State → State) (checked s : State), s.arrives port bs ip →
    copy = lookupCopy s.classifier port ip → copy.action = .forward → copy.destination = .uplink →
    2 ≤ ip.ttl.toNat → s.ports.nextHop = some station →
    (port = .office ∧ checked = s
        ∧ metered = presentMeter .office (match copy.uplinkClass with | .urgent => .urgent | .office => .office))
      ∨ (port = .guest ∧ metered = jointTest (word48 bs 6)
        ∧ (offer ⟨.received .guest, 1, ⟨false, none, .guest, some (word48 bs 6)⟩, none⟩ s).guestPasses checked
          (word48 bs 6) ip.source bs.length) →
    newDestination = (match copy.translate, copy.key with
      | some x, .destination => some ((x &&& copy.mask) ||| (ip.destination &&& ~~~copy.mask))
      | _, _ => none) →
    newSource = (match copy.translate, copy.key with
      | some x, .source => some ((x &&& copy.mask) ||| (ip.source &&& ~~~copy.mask))
      | _, _ => none) →
    ∃ f u, exec (.frameReceived port true bs) s = .next (metered f u)
      ∧ u.still = ({ checked with classifier := s.classifier.hit port copy } : State).still
      ∧ (s.alerts.destination = none → u.egress = s.egress ∧ u.uplink = s.uplink)
      ∧ f.kind = .forwarded ∧ f.entryTick = s.tick ∧ f.origin = ⟨copy.mark, copy.index, port, some (word48 bs 6)⟩
      ∧ f.bytes = be48 station ++ be48 s.station ++ (rewriteBytes bs ip newSource newDestination).drop 12)
  ∧ (∀ (a : Station) (f : Frame) (m : ShareMeter) (p : Profile) (refilled : GuestEntry → GuestEntry)
      (tested : Prop) (s : State), p = s.profileInUse .guest →
    m = { s.meters.guest with
      lastTick := s.tick
      level := min p.depth (s.meters.guest.level + p.rate * min 65535 (s.tick - s.meters.guest.lastTick).toNat) } →
    (∀ e, refilled e = { e with
      meterTick := s.tick
      level := min s.guest.settings.depth
        (e.level + s.guest.settings.rate * min 65535 (s.tick - e.meterTick).toNat) }) →
    (tested ↔ p.action = .drop ∨ m.hold = []) →
    ((∀ e ∈ s.guest.table, e.station ≠ a) → ∃ t, jointTest a f s = t
      ∧ t.quiet = ({ s with meters := { s.meters with guest := m } } : State).quiet ∧ (∃ u, t = offer ⟨.nonconformance .station, 1, f.origin, none⟩ u ∧ u.quiet = t.quiet)
      ∧ (s.alerts.destination = none → t.uplink = s.uplink))
    ∧ ∀ (before after : List GuestEntry) (e : GuestEntry), s.guest.table = before ++ e :: after → e.station = a →
      (∀ x ∈ before ++ after, x.station ≠ a) →
      ((refilled e).level < f.bytes.length → ∃ t, jointTest a f s = t ∧ t.quiet = ({ s with
          meters := { s.meters with guest := m }
          guest := { s.guest with table := before ++ refilled e :: after } } : State).quiet
        ∧ (∃ u, t = offer ⟨.nonconformance .station, 1, f.origin, none⟩ u ∧ u.quiet = t.quiet) ∧ (s.alerts.destination = none → t.uplink = s.uplink))
      ∧ (f.bytes.length ≤ (refilled e).level → tested → f.bytes.length ≤ m.level →
        ∃ t, jointTest a f s = t ∧ t.quiet = ({ s with
          meters := { s.meters with guest := { m with level := m.level - f.bytes.length } }
          guest := { s.guest with table := before
            ++ { refilled e with level := (refilled e).level - f.bytes.length } :: after } } : State).quiet
        ∧ (s.running = true → s.alerts.destination = none → s.uplink.transmitting ≠ none →
            s.uplink.queues.guest.length < s.uplink.limits.guest → queuedTotal s.uplink.queues < 256 →
            t.uplink = { s.uplink with queues := { s.uplink.queues with guest := s.uplink.queues.guest ++ [f] } }))
      ∧ (f.bytes.length ≤ (refilled e).level → ¬ tested ∨ m.level < f.bytes.length →
        ∃ t, jointTest a f s = t ∧ t.quiet = ({ s with
          meters := { s.meters with guest := { m with
            hold := if p.action = .defer ∧ m.hold.length < 16 then m.hold ++ [⟨f, .guest⟩] else m.hold } }
          guest := { s.guest with table := before ++ refilled e :: after } } : State).quiet
        ∧ (∃ u, t = offer ⟨.nonconformance .guest, 1, f.origin, none⟩ u ∧ u.quiet = t.quiet) ∧ (s.alerts.destination = none → t.uplink = s.uplink)))
  ∧ ∀ (i : Meter) (level : Nat) (charge : List GuestEntry → HeldFrame → List GuestEntry) (s : State),
    level = min (s.profileInUse i).depth ((s.meters.get i).level
      + (s.profileInUse i).rate * min 65535 (s.tick - (s.meters.get i).lastTick).toNat) →
    (∀ table h, charge table h = table.map fun e => if h.frame.origin.station = some e.station then { e with
        meterTick := s.tick
        level := min s.guest.settings.depth (e.level
            + s.guest.settings.rate * min 65535 (s.tick - e.meterTick).toNat) - h.frame.bytes.length }
      else e) →
    ((s.meters.get i).hold = [] → exec (.meterRelease i) s = .next s)
    ∧ ((s.meters.get i).hold ≠ [] → ∃ t k sent,
        exec (.meterRelease i) s = .next (if i = .transfer ∧ s.night.state = .draining then nightFollow t else t)
          ∧ k ≤ (s.meters.get i).hold.length
          ∧ sent = (((s.meters.get i).hold.take k).map fun h => h.frame.bytes.length).sum
          ∧ sent ≤ level
          ∧ (∀ h, (s.meters.get i).hold[k]? = some h → level < sent + h.frame.bytes.length)
          ∧ t.meters = s.meters.set i { s.meters.get i with
              level := level - sent, lastTick := s.tick, hold := (s.meters.get i).hold.drop k }
          ∧ t.guest = (if i = .guest then
              { s.guest with table := ((s.meters.get i).hold.take k).foldl charge s.guest.table } else s.guest)
          ∧ t.quiet = ({ s with meters := t.meters, guest := t.guest } : State).quiet
          ∧ (s.running = true → s.alerts.destination = none → s.uplink.transmitting ≠ none →
              (∀ q : UplinkQueue, (s.uplink.queues.get q).length
                + ((s.meters.get i).hold.take k).countP (fun h => decide (h.queue = q)) ≤ s.uplink.limits.get q) →
              queuedTotal s.uplink.queues + k ≤ 256 →
              t.egress = s.egress ∧ t.uplink = { s.uplink with queues := t.uplink.queues }
                ∧ ∀ q : UplinkQueue, t.uplink.queues.get q = s.uplink.queues.get q
                  ++ (((s.meters.get i).hold.take k).filter fun h => decide (h.queue = q)).map (·.frame)))

/-- R159, R163, R164: a second advance of a set clock moves the reading on by one second, 86,399 to 0 of the next day and day
65,535 to 0. In CLOSED, and in RUNNING when no enabled entry has the new second, nothing else changes. In RUNNING each
level setting takes the value of the highest-index enabled entry of its kind for the new second, with that entry as origin,
and keeps value and origin when there is none. R163, R123: an enabled Call entry at the new second hands a call to the night
engine: in IDLE, FAILED or BACKOFF with the collector address set it places one call, as CALL does, however many such entries
there are; otherwise the call is ignored. R121, R200: where it is the only entry at that second, its OPEN waits in TRANSFER,
the transmitter busy and room there, and nothing else changes. -/
def Obligations.SecondAdvanceFiresTheSchedule : Prop :=
  ∀ (c : Clock) (due : Fin 16 → Prop) (calling : Night) (s : State), s.clock.set = true → 0 < s.clock.due →
    c = { s.clock with
      time := if s.clock.time.second < 86399 then ⟨s.clock.time.day, s.clock.time.second + 1⟩
        else ⟨if s.clock.time.day < 65535 then s.clock.time.day + 1 else 0, 0⟩
      due := s.clock.due - 1 } →
    (∀ i, due i ↔ s.schedule[i].enabled = true ∧ s.schedule[i].second = c.time.second) →
    calling = { s.night with
      state := .calling, attempts := if s.night.state = .backoff then s.night.attempts else 1
      callTimer := some ⟨s.tick, s.night.settings.callTimeout⟩
      ackTimer := none, settleTimer := none, backoffTimer := none } →
    ∃ t, exec .secondAdvance s = .next t ∧ t.clock = c
      ∧ (s.running = false ∨ (∀ i, ¬ due i) → t = { s with clock := c })
      ∧ (s.running = true → ∀ (k : LevelKind) (i : Fin 16), due i → levelKind s.schedule[i].action = some k →
          (∀ j, i < j → due j → levelKind s.schedule[j].action ≠ some k) →
          t.levels.of k = (s.schedule[i].action, .entry i))
      ∧ (∀ k : LevelKind, (∀ i, due i → levelKind s.schedule[i].action ≠ some k) → t.levels.of k = s.levels.of k)
      ∧ ((∀ i, due i → s.schedule[i].action ≠ .call) ∨ s.running = false ∨ s.night.settings.collector = 0
          ∨ s.night.state = .calling ∨ s.night.state = .draining ∨ s.night.state = .settling → t.night = s.night)
      ∧ (∀ i, due i → s.schedule[i].action = .call → s.running = true → s.night.settings.collector ≠ 0 →
          s.night.state = .idle ∨ s.night.state = .failed ∨ s.night.state = .backoff → t.night = calling
            ∧ ((∀ j, due j → j = i) → t.still = ({ s with clock := c, night := calling } : State).still
              ∧ s.nightWaits .opening 1 (be32 s.journal.oldest ++ be32 (s.journal.nextSeq - 1)
                ++ be32 (BitVec.ofNat 32 (s.pool.free - (s.pool.journalReserve - s.pool.journalHeld)))) t.uplink))

/-- R93, R94: the expiry of a Waiting entry whose till permits no hold-over frees it, counted as Expired, with no message. One
whose till permits it becomes Held-over with the late window as its deadline, or is freed when the late window is 0; R95,
R199: its till is sent a hold-over notice, with code NO-REPLY while UPLINK is UP and LINK-DOWN while it is DOWN, the tag, the
original destination address and the resends, from the original service to the till service, which joins the TILL egress
queue. The expiry of a Held-over entry frees it, counted as Abandoned, with no message. Before its deadline an entry does
not expire (assumption 14). That a deadline d is taken as reached when (tick - d) mod 2^32 is below 2^31 is the model's
choice (assumption 41). -/
def Obligations.OpenRequestExpires : Prop :=
  ∀ (i : Fin 64) (r : OpenRequest) (s : State), s.tracker.slots[i] = some r →
    ((s.tick - r.deadline).toNat < 2 ^ 31 → r.state = .heldOver →
      exec (.heldOverExpiry i) s = .next (offer ⟨.tracker .abandoned, 1, ⟨r.mark, r.windowIndex, .till, none⟩, none⟩
        { s with tracker := { s.tracker with slots := s.tracker.slots.set i none } }))
    ∧ ((s.tick - r.deadline).toNat < 2 ^ 31 → r.state = .waiting → s.tills[r.till].holdOver = false →
      exec (.waitingExpiry i) s = .next (offer ⟨.tracker .expired, 1, ⟨r.mark, r.windowIndex, .till, none⟩, none⟩
        { s with tracker := { s.tracker with slots := s.tracker.slots.set i none } }))
    ∧ ((s.tick - r.deadline).toNat < 2 ^ 31 → r.state = .waiting → s.tills[r.till].holdOver = true →
      ∃ t, exec (.waitingExpiry i) s = .next t
        ∧ t.still = ({ s with
          tracker := { s.tracker with slots := s.tracker.slots.set i (if s.tracker.lateWindow = 0 then none
            else some { r with
              state := .heldOver, deadline := s.tick + BitVec.ofNat 32 s.tracker.lateWindow }) } } : State).still
        ∧ s.tillTold s.tills[r.till].address r.originalService r.tillService
            ([3, if s.up .uplink then 6 else 7, 0, 0] ++ be32 r.tag ++ be32 r.originalAddress
              ++ [BitVec.ofNat 8 r.resends]) t)
    ∧ (2 ^ 31 ≤ (s.tick - r.deadline).toNat →
      exec (.heldOverExpiry i) s = .next s ∧ exec (.waitingExpiry i) s = .next s)

/-! ## The night transfer engine -/

/-- R123, R127: a call in IDLE, FAILED or BACKOFF, in RUNNING with the collector address set, puts the engine into CALLING
with the call timer started: by CALL and by WAKE with attempts 1, or kept in BACKOFF, and at the end of a backoff with
attempts one higher, up to 255. CALL in another state, in CLOSED or with the collector unset is refused with STATE, and WAKE
in another state has no effect. R121, R200: the OPEN of each call carries oldest, newest and the free label blocks; with the
transmitter busy and room in TRANSFER it waits there, its source the UPLINK gateway address so far, which is taken anew when it
departs (R123, assumption 44). That the end of a backoff asks for no collector address is the model's choice (assumption
34), and so is that a WAKE taken in IDLE places a call though a STOP came just before it (assumption 48). -/
def Obligations.CallBeginsASession : Prop :=
  ∀ (calling : Nat → Night) (opened : Uplink → Prop) (s : State),
    (∀ n, calling n = { s.night with
      state := .calling, attempts := n, callTimer := some ⟨s.tick, s.night.settings.callTimeout⟩
      ackTimer := none, settleTimer := none, backoffTimer := none }) →
    (∀ u, opened u ↔ s.nightWaits .opening 1 (be32 s.journal.oldest ++ be32 (s.journal.nextSeq - 1)
      ++ be32 (BitVec.ofNat 32 (s.pool.free - (s.pool.journalReserve - s.pool.journalHeld)))) u) →
    (∀ q : Requester, s.holds q.party = true →
      (s.running = true → s.night.settings.collector ≠ 0 → s.night.state = .idle ∨ s.night.state = .failed ∨
        s.night.state = .backoff →
        ∃ u, exec (.call q) s = .next (answerTo q 0x0C .ok [] (renewLease u))
          ∧ u.still = ({ takeRequest (.call q) s with
              night := calling (if s.night.state = .backoff then s.night.attempts else 1) } : State).still
          ∧ opened u.uplink)
      ∧ (s.running = false ∨ s.night.settings.collector = 0 ∨ s.night.state = .calling ∨ s.night.state = .draining ∨
          s.night.state = .settling →
          exec (.call q) s = .next (answerTo q 0x0C .state [] (renewLease (takeRequest (.call q) s)))))
    ∧ (∀ m : NightSource, s.up .uplink = true → s.running = true → s.fromCollector m = true →
      (s.night.state = .idle ∨ s.night.state = .failed ∨ s.night.state = .backoff →
        ∃ t, exec (.wake m) s = .next t
          ∧ t.still = ({ s with
              night := calling (if s.night.state = .backoff then s.night.attempts else 1) } : State).still
          ∧ opened t.uplink)
      ∧ (s.night.state = .calling ∨ s.night.state = .draining ∨ s.night.state = .settling →
          exec (.wake m) s = .next s))
    ∧ (s.night.state = .backoff → timerDue s.tick s.night.backoffTimer = true →
      ∃ t, exec .backoffTimerExpiry s = .next t
        ∧ t.still = ({ s with night := calling (min 255 (s.night.attempts + 1)) } : State).still
        ∧ opened t.uplink)

/-- R128, R133, R161: a GRANT of the collector with its fields in range. In CALLING it takes the window, sets short retries to
0 and leads to DRAINING, or with an empty journal straight to SETTLING with the settle timer started; in DRAINING it replaces
the window. It sets the store clock when the engine follows the collector's; that a second advance already due stays due then
is the model's choice (assumption 5). In any other state it is ignored. R121, R131, R200: the DRAINED of an empty journal
waits in TRANSFER with newest sequence sent, oldest less 1. A journal whose records are no more than the window, take at most
1,400 bytes with their 16 header bytes each and are covered by the TRANSFER meter goes out in one RECORDS that waits in
TRANSFER: first sequence, count, and each record; next-to-send is then past them all and the ack timer runs. -/
def Obligations.GrantOpensTheDrain : Prop :=
  ∀ (m : NightSource) (window : Byte) (day : BitVec 16) (second : BitVec 32) (s : State),
    s.up .uplink = true → s.running = true → s.fromCollector m = true → window ≠ 0 → second.toNat ≤ 86399 →
    (s.night.state ≠ .calling → s.night.state ≠ .draining → exec (.grant m window day second) s = .next s)
    ∧ (s.night.state = .calling ∨ s.night.state = .draining → s.night.settings.followClock = true →
        ∃ t, exec (.grant m window day second) s = .next t ∧ t.night.window = window.toNat
          ∧ t.clock = { s.clock with set := true, time := ⟨day.toNat, second.toNat⟩, sub := 0 })
    ∧ (s.night.state = .calling ∨ s.night.state = .draining → s.night.settings.followClock = false →
        ∃ t, exec (.grant m window day second) s = .next t
          ∧ t.asleep = ({ s with night := { s.night with
              window := window.toNat
              shortRetries := if s.night.state = .calling then 0 else s.night.shortRetries } } : State).asleep
          ∧ (s.night.state = .calling → s.journal.nextSeq ≠ s.journal.oldest → t.night.state = .draining)
          ∧ (s.night.state = .calling → s.journal.nextSeq = s.journal.oldest →
              t.night.state = .settling ∧ t.journal.nextToSend = s.journal.oldest
                ∧ t.night.settleTimer = some ⟨s.tick, 1000 * s.night.settings.settleTimeout⟩
                ∧ s.nightWaits .night 3 (be32 (s.journal.oldest - 1)) t.uplink)
          ∧ (∀ (size : Nat) (rs : List JournalRecord), s.night.state = .calling → rs = s.journal.records → rs ≠ [] →
              rs.length = (s.journal.nextSeq - s.journal.oldest).toNat → rs.length ≤ window.toNat →
              size = (rs.map fun r => 16 + r.payload.length).sum → size ≤ 1400 → s.meters.transfer.hold = [] →
              s.uplink.hasRoom .transfer = true →
              55 + size ≤ min (s.profileInUse .transfer).depth (s.meters.transfer.level
                + (s.profileInUse .transfer).rate * min 65535 (s.tick - s.meters.transfer.lastTick).toNat) →
              t.night.state = .draining ∧ t.journal.nextToSend = s.journal.nextSeq
                ∧ t.night.ackTimer = some ⟨s.tick, s.night.settings.ackTimeout⟩
                ∧ (s.alerts.destination = none → s.nightWaits .night 2
                    (be32 s.journal.oldest ++ [BitVec.ofNat 8 rs.length] ++ rs.flatMap fun r =>
                      be32 r.sequence ++ be32 r.number
                        ++ (match r.time with
                          | none => List.replicate 5 0xFF
                          | some x => be16 (BitVec.ofNat 16 x.day) ++ be24 (BitVec.ofNat 24 x.second))
                        ++ [BitVec.ofNat 8 (r.till.val + 1)] ++ be16 (BitVec.ofNat 16 r.payload.length)
                        ++ r.payload) t.uplink)))

/-- R129, R114, R130: an ACK of the collector for a sequence covers a = (sequence - oldest + 1) mod 2^32 records. With a at most
outstanding, in every engine state, the a oldest records leave the journal, their blocks are freed and oldest becomes the
sequence after; outside DRAINING nothing else happens, and in DRAINING, with records still outstanding, the ack timer
restarts when a is above 0. With a above outstanding it is counted as Stale-Ack and nothing changes; that the event carries
UPLINK and the source station of the message is the model's choice (R169, assumption 16). -/
def Obligations.AckRemovesTheRecordsItCovers : Prop :=
  ∀ (m : NightSource) (sequence : Seq) (a outstanding blocks : Nat) (s : State),
    s.up .uplink = true → s.running = true → s.fromCollector m = true →
    a = (sequence - s.journal.oldest + 1).toNat → outstanding = (s.journal.nextToSend - s.journal.oldest).toNat →
    blocks = ((s.journal.records.take a).map fun r => (16 + r.payload.length + 255) / 256).sum →
    (outstanding < a →
      exec (.ack m sequence) s = .next (offer ⟨.night .staleAck, 1, ⟨false, none, .uplink, some m.station⟩, none⟩ s))
    ∧ (a ≤ outstanding → ∃ t, exec (.ack m sequence) s = .next t
        ∧ t.asleep = ({ s with
            journal := { s.journal with records := s.journal.records.drop a, oldest := sequence + 1 }
            pool := { s.pool with
              free := s.pool.free + blocks, journalHeld := s.pool.journalHeld - blocks } } : State).asleep
        ∧ (s.night.state ≠ .draining → t.night = s.night ∧ t.meters = s.meters
            ∧ t.journal.nextToSend = s.journal.nextToSend)
        ∧ (s.night.state = .draining → s.night.window ≤ 255 → 0 < a → a < outstanding →
            t.night.state = .draining ∧ t.night.ackTimer = some ⟨s.tick, s.night.settings.ackTimeout⟩))

/-- R134, R135: FINISH of the collector in DRAINING and SETTLING, the expiry of the settle timer in SETTLING, and STOP in any
state but IDLE leave the engine IDLE with every timer stopped and next-to-send at oldest, and change nothing else but by the
CLOSED they send, which holds kind, branch number and epoch alone (R121, R200) and waits in TRANSFER when the transmitter is
busy and the queue has room. FINISH in any other state is ignored; STOP in IDLE is refused with STATE. -/
def Obligations.SessionEndsInIdle : Prop :=
  ∀ (night : Night) (journal : Journal) (s : State),
    night = { s.night with
      state := .idle, callTimer := none, ackTimer := none, settleTimer := none, backoffTimer := none } →
    journal = { s.journal with nextToSend := s.journal.oldest } →
    (∀ m : NightSource, s.up .uplink = true → s.running = true → s.fromCollector m = true →
      (s.night.state = .draining ∨ s.night.state = .settling → ∃ t, exec (.finish m) s = .next t
        ∧ t.still = ({ s with night := night, journal := journal } : State).still
        ∧ s.nightWaits .night 5 [] t.uplink)
      ∧ (s.night.state ≠ .draining → s.night.state ≠ .settling → exec (.finish m) s = .next s))
    ∧ (s.night.state = .settling → timerDue s.tick s.night.settleTimer = true →
      ∃ t, exec .settleTimerExpiry s = .next t
        ∧ t.still = ({ s with night := night, journal := journal } : State).still
        ∧ s.nightWaits .night 5 [] t.uplink)
    ∧ (∀ q : Requester, s.holds q.party = true →
      (s.night.state ≠ .idle → ∃ u, exec (.stop q) s = .next (answerTo q 0x0D .ok [] (renewLease u))
        ∧ u.still = ({ takeRequest (.stop q) s with night := night, journal := journal } : State).still
        ∧ s.nightWaits .night 5 [] u.uplink)
      ∧ (s.night.state = .idle →
          exec (.stop q) s = .next (answerTo q 0x0D .state [] (renewLease (takeRequest (.stop q) s)))))

/-- R124, R132, R139: at the expiry of the call timer in CALLING, and of the ack timer in DRAINING at the short retry limit, the
engine enters BACKOFF while attempts is below the long retry limit plus 1, and otherwise FAILED with Night-Failed raised. At
the expiry of the ack timer below the short retry limit it stays in the session with one short retry more, next-to-send back
at oldest: with no room in TRANSFER or a RECORDS message held at the meter it stands there, and otherwise the send events that
follow may take it on again, by no more records than the window (R131). Each expiry raises the retry total by 1, which wraps
at 65,535 and then sets the rollover flag. -/
def Obligations.TimeoutsBackOffOrFail : Prop :=
  ∀ (n : Night) (s : State),
    n = { s.night with
      retryTotal := if s.night.retryTotal = 65535 then 0 else s.night.retryTotal + 1
      rollover := s.night.rollover || decide (s.night.retryTotal = 65535)
      callTimer := none, ackTimer := none, settleTimer := none, backoffTimer := none } →
    (∀ c : Instr,
      (c = .callTimerExpiry ∧ s.night.state = .calling ∧ timerDue s.tick s.night.callTimer = true)
        ∨ (c = .ackTimerExpiry ∧ s.night.state = .draining ∧ timerDue s.tick s.night.ackTimer = true
          ∧ s.night.settings.shortLimit ≤ s.night.shortRetries) →
      (s.night.attempts < s.night.settings.longLimit + 1 → ∃ generator timer, exec c s = .next { s with
        night := { n with state := .backoff, generator := generator, backoffTimer := some timer } })
      ∧ (s.night.settings.longLimit + 1 ≤ s.night.attempts → ∃ t, exec c s = .next t
        ∧ t.still = ({ s with night := { n with state := .failed } } : State).still
        ∧ t.alerts.pending[alertIndex .nightFailed] ≠ none))
    ∧ (s.night.state = .draining → timerDue s.tick s.night.ackTimer = true →
      s.night.shortRetries < s.night.settings.shortLimit → ∃ t, exec .ackTimerExpiry s = .next t
        ∧ t.asleep = ({ s with night := { n with shortRetries := s.night.shortRetries + 1 } } : State).asleep
        ∧ (s.journal.nextSeq = s.journal.oldest → t.night.state = .settling ∧ t.journal.nextToSend = s.journal.oldest)
        ∧ (s.journal.nextSeq ≠ s.journal.oldest → s.night.window ≤ 255 → t.night.state = .draining
            ∧ (t.journal.nextToSend - s.journal.oldest).toNat ≤ s.night.window)
        ∧ (s.journal.nextSeq ≠ s.journal.oldest →
            s.uplink.limits.transfer ≤ s.uplink.queues.transfer.length ∨ s.meters.transfer.hold ≠ [] →
            t = { s with
              night := { s.night with
                retryTotal := n.retryTotal, rollover := n.rollover, shortRetries := s.night.shortRetries + 1
                ackTimer := none }
              journal := { s.journal with nextToSend := s.journal.oldest } }))

/-- R125: at each entry into BACKOFF the generator takes its next value r, and the backoff timer starts, at the tick of the
entry, for a delay in the range of the attempt number that attempts is: low + (r mod (high - low)) ms. The generator advances
at no other event (device reset seeds it, R126). -/
def Obligations.BackoffDelayIsDrawnAtEachEntry : Prop :=
  ∀ (c : Instr) (s t : State), exec c s = .next t → c ≠ .deviceReset →
    (t.night.generator ≠ s.night.generator → s.night.state ≠ .backoff ∧ t.night.state = .backoff)
    ∧ (s.night.state ≠ .backoff → t.night.state = .backoff →
        t.night.attempts = s.night.attempts
        ∧ t.night.generator.toNat = (25173 * s.night.generator.toNat + 13849) % 65536
        ∧ ∀ low high,
            (s.night.attempts, low, high) ∈ [(1, 1000, 2000), (2, 2000, 4000), (3, 4000, 8000), (4, 8000, 16000),
                (5, 16000, 32000), (6, 32000, 64000)]
              ∨ (7 ≤ s.night.attempts ∧ low = 64000 ∧ high = 128000) →
            t.night.backoffTimer = some ⟨s.tick, low + t.night.generator.toNat % (high - low)⟩)

/-- R120: a night message that is not from the collector's address and service, in the branch number and epoch in force, with
its fields in range, is counted as Night-Foreign and changes nothing else. R138: so is a LABELS message outside DRAINING and
SETTLING. That the event carries UPLINK and the source station of the message is the model's choice (R169, assumption 16). (A
message is a command here, with its fields; of R120's tests of a datagram's kind and length nothing is said.) -/
def Obligations.ForeignNightMessagesAreIgnored : Prop :=
  ∀ (m : NightSource) (window : Byte) (day : BitVec 16) (second : BitVec 32) (sequence : Seq) (batch : BitVec 32)
    (updates : List LabelWire) (c : Instr) (s : State),
    c ∈ [.wake m, .grant m window day second, .ack m sequence, .labelsMessage m batch updates, .finish m] →
    s.up .uplink = true → s.running = true →
    (s.night.settings.collector = 0 ∨ m.address ≠ s.night.settings.collector
      ∨ m.service ≠ s.night.settings.service ∨ m.branch ≠ s.night.settings.branch
      ∨ m.epoch ≠ s.night.settings.epoch
      ∨ (c = .grant m window day second ∧ (window = 0 ∨ 86399 < second.toNat))
      ∨ (c = .labelsMessage m batch updates ∧ (updates = []
          ∨ (∃ w ∈ updates, w.number = 0 ∨ 7 < w.page.toNat ∨ 24 < w.text.length)
          ∨ (s.night.state ≠ .draining ∧ s.night.state ≠ .settling)))) →
    exec c s = .next (offer ⟨.night .nightForeign, 1, ⟨false, none, .uplink, some m.station⟩, none⟩ s)
      ∧ (offer ⟨.night .nightForeign, 1, ⟨false, none, .uplink, some m.station⟩, none⟩ s).still = s.still

/-! ## Shelf labels -/

/-- R137, R144: a LABELS message of the collector in DRAINING or SETTLING, its updates in range, with the label window closed so
that no delivery follows. Updates for distinct label numbers none of which is queued, and for which blocks are free, join the
tail in message order with attempts 0, a block each. An update for a queued label number supersedes it in place. An update
the pool has no block for is dropped. R137, R200: the LABEL-ACK built then carries the batch id and the count of the updates
taken, and waits in TRANSFER when the transmitter is busy and the queue has room. (With no alert destination set, so that no
alert frame comes between.) -/
def Obligations.LabelUpdatesJoinTheQueue : Prop :=
  ∀ (m : NightSource) (batch : BitVec 32) (updates : List LabelWire)
    (acked : Nat → State → Prop) (s : State),
    s.up .uplink = true → s.running = true → s.fromCollector m = true →
    s.night.state = .draining ∨ s.night.state = .settling → s.levels.labelWindow.value = .closed → updates ≠ [] →
    (∀ w ∈ updates, w.number ≠ 0 ∧ w.page.toNat ≤ 7 ∧ w.text.length ≤ 24) →
    (∀ n t, acked n t ↔ (s.alerts.destination = none →
      s.nightWaits .night 4 (be32 batch ++ be16 (BitVec.ofNat 16 n)) t.uplink)) →
    ∃ t, exec (.labelsMessage m batch updates) s = .next t
      ∧ ((updates.map fun w => w.number).Nodup →
          (∀ w ∈ updates, holdsLabel s.label.queue w.number = false) →
          updates.length + (s.pool.journalReserve - s.pool.journalHeld) ≤ s.pool.free →
          acked updates.length t ∧ t.quiet = ({ s with
            label := { s.label with
              queue := s.label.queue ++ updates.map fun w => {
                number := w.number, page := w.page, text := w.text, flash := w.flash, item := w.item
                attempts := 0, firstQueued := s.tick, sentTick := none, deadline := none } }
            pool := { s.pool with
              free := s.pool.free - updates.length
              labelHeld := s.pool.labelHeld + updates.length } } : State).quiet)
      ∧ (∀ w, updates = [w] → holdsLabel s.label.queue w.number = true →
          acked 1 t ∧ t.quiet = ({ s with label := { s.label with
            queue := s.label.queue.map fun u =>
              if u.number = w.number then
                { u with page := w.page, text := w.text, flash := w.flash, item := w.item, attempts := 0 }
              else u } } : State).quiet)
      ∧ (∀ w, updates = [w] → holdsLabel s.label.queue w.number = false →
          s.pool.free < 1 + (s.pool.journalReserve - s.pool.journalHeld) → acked 0 t ∧ t.quiet = s.quiet)

/-- R146, R147, R148: with the label window open, LABEL UP, the base station known, fewer than 16 updates in flight and a pacing
interval above 0, the expiry of the pacing timer with credit, and a READY above 0 with no pacing timer running, deliver the
first queued update whose label number is not in flight: it moves to the tail of the in-flight list with its sent tick and
deadline, the credit is lowered by 1, the pacing timer starts, and its DELIVER joins the LABEL egress queue when that has
room. A READY sets the credit to its count, at most 16; with the window closed it does nothing else, and the pacing timer
only stops. -/
def Obligations.DeliveryEventSendsTheFirstFreeUpdate : Prop :=
  ∀ (c : Instr) (station : Station) (slots : Byte) (credit : Nat) (b : BaseStation) (s : State),
    s.up .label = true → s.running = true → s.ports.baseStation = some b →
    (c = .ready station slots ∧ credit = min 16 slots.toNat ∧ s.label.pacingTimer = none)
      ∨ (c = .pacingTimerExpiry ∧ credit = s.label.credit ∧ timerDue s.tick s.label.pacingTimer = true) →
    (s.levels.labelWindow.value = .closed ∨ credit = 0 →
      exec c s = .next { s with label := { s.label with credit := credit, pacingTimer := none } })
    ∧ (∀ (before after : List LabelUpdate) (u : LabelUpdate), s.levels.labelWindow.value = .opened → 0 < credit →
        s.label.inFlight.length < 16 → 0 < s.label.settings.pacing → s.label.queue = before ++ u :: after →
        (∀ x ∈ before, holdsLabel s.label.inFlight x.number = true) →
        holdsLabel s.label.inFlight u.number = false →
        ∃ t, exec c s = .next t
          ∧ t.still = ({ s with label := { s.label with
              queue := before ++ after
              inFlight := s.label.inFlight ++ [{ u with
                sentTick := some s.tick
                deadline := some (s.tick + BitVec.ofNat 32 s.label.settings.outcomeTimeout) }]
              credit := credit - 1
              pacingTimer := some ⟨s.tick, s.label.settings.pacing⟩ } } : State).still
          ∧ (s.egress.label.length < 64 → ∃ f,
              t.egress = { s.egress with label := s.egress.label ++ [f] } ∧ f.kind = .deliver
                ∧ f.bytes = udpFrame s.freeSerial b.station s.station s.ports.gateways.label b.address
                    s.ports.labelService b.service (2 :: labelUpdateBytes u)))

/-- R149, R150, R151, R152: with the label window closed, so that no delivery follows, an outcome for a label number in flight
takes that update off the in-flight list. Delivered frees its block. Rejected enters it on the undelivered list and frees its
block. Absent, Busy and the outcome timeout raise its attempts by 1 up to 15: at the attempt limit it enters the undelivered
list; otherwise it returns to the tail of the label queue, or is discarded, its block freed, when a newer update for its label
number is queued. A full undelivered list loses its oldest record. An outcome for a label number not in flight is counted as
Stray-Outcome and changes nothing. That the event carries LABEL and the source station of the message is the model's choice
(R169, assumption 16), and so is how a deadline is taken as reached (assumption 41). -/
def Obligations.OutcomeEndsTheFlight : Prop :=
  ∀ (station : Station) (number : BitVec 24) (s : State), number ≠ 0 → s.up .label = true → s.running = true →
    s.ports.baseStation.isSome = true → s.levels.labelWindow.value = .closed →
    ((∀ x ∈ s.label.inFlight, x.number ≠ number) → ∀ value : Byte, 1 ≤ value.toNat → value.toNat ≤ 4 →
      exec (.outcome station number value) s =
        .next (offer ⟨.label .strayOutcome, 1, ⟨false, none, .label, some station⟩, none⟩ s))
    ∧ ∀ (before after : List LabelUpdate) (u : LabelUpdate) (freed : Pool)
        (listed : LabelUpdate → GivenUp → LabelEngine),
        s.label.inFlight = before ++ u :: after → u.number = number → (∀ x ∈ before, x.number ≠ number) →
        freed = { s.pool with free := s.pool.free + 1, labelHeld := s.pool.labelHeld - 1 } →
        (∀ v why, listed v why = { s.label with
          inFlight := before ++ after
          undelivered := (if s.label.undelivered.length < 256 then s.label.undelivered
            else s.label.undelivered.drop 1) ++ [⟨v.number, v.page, v.attempts, why⟩] }) →
        (∃ t, exec (.outcome station number 1) s = .next t ∧ t.quiet = ({ s with
          label := { s.label with inFlight := before ++ after }, pool := freed } : State).quiet)
        ∧ (∃ t, exec (.outcome station number 4) s = .next t ∧ t.quiet = ({ s with
          label := listed u .rejected, pool := freed } : State).quiet)
        ∧ ∀ (c : Instr) (why : GivenUp) (u' : LabelUpdate),
            (c = .outcome station number 2 ∧ why = .absent) ∨ (c = .outcome station number 3 ∧ why = .busy)
              ∨ (c = .outcomeTimeout number ∧ why = .absent
                ∧ ∃ d, u.deadline = some d ∧ (s.tick - d).toNat < 2 ^ 31) →
            u' = { u with attempts := min 15 (u.attempts + 1) } →
            ∃ t, exec c s = .next t
              ∧ (s.label.settings.attemptLimit ≤ u'.attempts →
                  t.quiet = ({ s with label := listed u' why, pool := freed } : State).quiet)
              ∧ (u'.attempts < s.label.settings.attemptLimit → holdsLabel s.label.queue number = true →
                  t.quiet = ({ s with
                    label := { s.label with inFlight := before ++ after }, pool := freed } : State).quiet)
              ∧ (u'.attempts < s.label.settings.attemptLimit → holdsLabel s.label.queue number = false →
                  t.quiet = ({ s with label := { s.label with
                    inFlight := before ++ after
                    queue := s.label.queue ++ [{ u' with sentTick := none, deadline := none }] } } : State).quiet)

/-! ## Alerts -/

/-- R174, R178, R198: at the expiry of the alert timer, with a source pending, the alert destination present and the management
port UP, one alert frame joins the port's egress queue, with the alert number, the tick, the store time, every pending source
and its mark, and the sample, whose 16 bytes are zeros when it is absent (R192); every pending source is then marked reported,
the number is one higher, the timer runs again, and a counter source that was new has the effects of a counter alert, the
sample record reported among them. Otherwise the timer is only stopped. That the sources stand in the order of their codes is
the model's choice (assumption 26). -/
def Obligations.AlertTimerSendsTheAlertFrame : Prop :=
  ∀ s : State, timerDue s.tick s.alerts.timer = true →
    (s.alerts.destination = none ∨ (∀ i : Fin 14, s.alerts.pending[i] = none) ∨ s.up s.ports.managementPort = false →
      exec .alertTimerExpiry s = .next { s with alerts := { s.alerts with timer := none } })
    ∧ (∀ (d : Station) (p : EgressPort), s.alerts.destination = some d → (∃ i : Fin 14, s.alerts.pending[i] ≠ none) →
        s.ports.managementPort = egressSegment p → s.up (egressSegment p) = true → (s.egress.get p).length < 64 →
        ∃ t f, exec .alertTimerExpiry s = .next t ∧ t.egress = s.egress.set p (s.egress.get p ++ [f])
          ∧ t.still = s.still
          ∧ f.bytes = ethernetFrame d s.station s.ports.managementType
              ([0, 0, 0x80, 0, 0, 1, 0, 0] ++ be16 s.alerts.number ++ be32 s.tick
                ++ storeTimeBytes (if s.clock.set then some s.clock.time else none)
                ++ sourcesBytes s.alerts.pending
                ++ (match s.counters.sample with
                  | .held x =>
                    if s.alerts.pending[12] = some .new ∨ s.alerts.pending[13] = some .new then 1 :: sampleBytes x
                    else List.replicate 17 0
                  | _ => List.replicate 17 0))
          ∧ t.alerts = { s.alerts with
              pending := s.alerts.pending.map fun x => x.map fun _ => AlertMark.reported
              number := s.alerts.number + 1
              timer := some ⟨s.tick, s.alerts.interval⟩ }
          ∧ (s.alerts.pending[12] ≠ some .new → s.alerts.pending[13] ≠ some .new → t.counters = s.counters)
          ∧ (s.alerts.pending[12] = some .new ∨ s.alerts.pending[13] = some .new →
              t.counters.counters = s.counters.counters ∧ t.counters.triggerState = .released
                ∧ t.counters.group = { s.counters.group with alertEnable1 := false, alertEnable28 := false }
                ∧ t.counters.frozen = (s.counters.frozen || s.counters.group.freezeOnAlert)
                ∧ t.counters.sample = .reported (match s.counters.sample with
                  | .empty => none
                  | .held x => some x
                  | .reported x => x)))

/-! ## Management: identity, responses, reading and the lock -/

/-- R185, R197: IDENTIFY is answered OK with vendor code 0x4F5A, part number 6416, silicon revision 1, the station address, the
part state, the active bank's letter, the identities of bank A and bank B, the lock holder, the lease time left in seconds
rounded up, and the night engine's state. It needs no lock, and leaves both cursors and the lease as they were. That the time
left is 0 while no lease runs is the model's choice (assumption 49). -/
def Obligations.IdentifyReportsThePart : Prop :=
  ∀ (q : Requester) (left : Nat) (s : State),
    left = (match s.agent.leaseTimer with
      | none => 0
      | some t => (t.duration - (s.tick - t.start).toNat + 999) / 1000) →
    ∃ t, exec (.identify q) s = .next t
      ∧ t = answerTo q 0x01 .ok
          (([0x4F, 0x5A, 0x19, 0x10, 1] : Bytes) ++ be48 s.station
            ++ ([if s.agent.partState = .running then 1 else 0, if s.classifier.active = .a then 0 else 1] : Bytes)
            ++ be32 s.classifier.bankA.identity ++ be32 s.classifier.bankB.identity
            ++ ([match s.agent.holder with | none => 0 | some .localParty => 1 | some .remoteParty => 2] : Bytes)
            ++ be16 (BitVec.ofNat 16 left)
            ++ ([match s.night.state with
              | .idle => 0 | .calling => 1 | .draining => 2 | .settling => 3 | .backoff => 4 | .failed => 5] : Bytes))
          (takeRequest (.identify q) s)
      ∧ t.agent.localCursor = s.agent.localCursor ∧ t.agent.remoteCursor = s.agent.remoteCursor
      ∧ t.agent.lease = s.agent.lease ∧ t.agent.leaseTimer = s.agent.leaseTimer

/-- R183, R188: a command code that is not listed is answered UNKNOWN, and a command that requires the change lock is answered
NO-LOCK from a party that does not hold it; neither does anything else. R184, R195: the answer in one part to a local request
is one frame of the management type on the port the request came in on, with tag, command code, status, part number 0, the
last-part mark and the fields; it joins that port's egress queue when the port is UP and the queue has room, in CLOSED as in
RUNNING. The answer to a remote request waits in URGENT when the transmitter is busy and the queue has room (R12). That a local
answer leaves on the port its request came in on, and that an answer carries the frame type and the agent service in force at
its build, is the model's choice (assumptions 17, 25). -/
def Obligations.RefusalsAnswerAndChangeNothing : Prop :=
  (∀ (q : Requester) (code : Byte) (s : State),
    exec (.unknownCommand q code) s
      = .next (answerTo q code.toNat .unknown [] (takeRequest (.unknownCommand q code) s)))
  ∧ (∀ (c : Instr) (q : Requester) (code : Nat) (s : State), lockCode c = some (q, code) →
      s.holds q.party = false → exec c s = .next (answerTo q code .noLock [] (takeRequest c s)))
  ∧ (∀ (q : Requester) (code : Nat) (status : Status) (fields : Bytes) (s : State),
      (answerTo q code status fields s).still = s.still
      ∧ (∀ (a : Station) (p : EgressPort), q.reply = .station a (egressSegment p) → s.up (egressSegment p) = true →
          (s.egress.get p).length < 64 →
          answerTo q code status fields s = { s with egress := s.egress.set p (s.egress.get p ++ [{
            kind := .response
            bytes := padFrame (be48 a ++ be48 s.station ++ be16 s.ports.managementType ++ (be16 q.tag
              ++ [BitVec.ofNat 8 code, BitVec.ofNat 8 (statusCode status), 0, 1, 0, 0] ++ fields))
            entryTick := s.tick, origin := ⟨false, none, egressSegment p, none⟩ }]) })
      ∧ (∀ (a : NetAddr) (service : Service) (next : Station), q.reply = .datagram a service →
          s.ports.nextHop = some next → s.uplink.transmitting ≠ none →
          s.uplink.queues.urgent.length < s.uplink.limits.urgent → queuedTotal s.uplink.queues < 256 →
          ∃ f, (answerTo q code status fields s).uplink = { s.uplink with
              queues := { s.uplink.queues with urgent := s.uplink.queues.urgent ++ [f] } }
            ∧ f.bytes = udpFrame s.freeSerial next s.station s.ports.gateways.uplink a s.ports.agentService service
                (be16 q.tag ++ [BitVec.ofNat 8 code, BitVec.ofNat 8 (statusCode status), 0, 1, 0, 0] ++ fields)))

/-- R186: a READ of a table without meaning, or from a first index outside its range, is refused with BAD-INDEX, and a READ NEXT
with the cursor unset with STATE. Otherwise a READ returns the entries from its first index on, as many as its count held to
1 to 256 and the table's end allow, and sets the requester's cursor after the last; READ NEXT does the same from the cursor.
Entries that fit one part (R184) are answered in it, after the table code, the first index and their count, with END when they
reach the table's end, else ADJUSTED when the count was held. A READ of one till returns its entry. Neither changes anything
else. The layout of the entries beyond what the rules give is the model's choice (assumptions 19, 21, 47, 53; of a till's open
count 21), and so is that of the answer's start (assumption 20), the first index it holds where no entry is returned
(assumption 54), and that a READ of AGENT shows the requester's cursor as it was (assumption 50). -/
def Obligations.ReadsMoveTheCursor : Prop :=
  ∀ (q : Requester) (code : Byte) (first : BitVec 32) (count : BitVec 16) (status : Nat → Nat → Status) (s : State),
    (∀ reached length, status reached length = if length ≤ reached then .endOfTable
      else if count.toNat = 0 ∨ 256 < count.toNat then .adjusted else .ok) →
    (tableOf code = none ∨ (∃ t, tableOf code = some t ∧
        (first.toNat < (tableRange t).1 ∨ (tableRange t).2 < first.toNat)) →
      exec (.read q code first count) s
        = .next (answerTo q 0x02 .badIndex [] (takeRequest (.read q code first count) s)))
    ∧ (∀ table n, tableOf code = some table → (tableRange table).1 ≤ first.toNat →
        first.toNat ≤ (tableRange table).2 →
        n = min (max 1 (min 256 count.toNat)) ((tableEntries s table).length - (first.toNat - (tableRange table).1)) →
        ∃ t, exec (.read q code first count) s = .next t
          ∧ t.still = ((takeRequest (.read q code first count) s).withCursor q.party
              ⟨table, first.toNat + n⟩).still
          ∧ ∀ entries, entries = ((tableEntries (takeRequest (.read q code first count) s) table).drop
                (first.toNat - (tableRange table).1)).take n →
              (entries.map List.length).sum ≤ (match q.party with | .localParty => 1485 | .remoteParty => 1385) →
              t = answerTo q 0x02 (status (first.toNat - (tableRange table).1 + n) (tableEntries s table).length)
                ([code] ++ be32 first ++ be16 (BitVec.ofNat 16 n) ++ entries.flatten)
                ((takeRequest (.read q code first count) s).withCursor q.party ⟨table, first.toNat + n⟩))
    ∧ (s.agent.cursor q.party = none →
        exec (.readNext q count) s = .next (answerTo q 0x03 .state [] (takeRequest (.readNext q count) s)))
    ∧ (∀ (c : Cursor) n, s.agent.cursor q.party = some c →
        n = min (max 1 (min 256 count.toNat))
          ((tableEntries s c.table).length - (c.position - (tableRange c.table).1)) →
        ∃ t, exec (.readNext q count) s = .next t
          ∧ t.still = ((takeRequest (.readNext q count) s).withCursor q.party ⟨c.table, c.position + n⟩).still
          ∧ ∀ entries, entries = ((tableEntries (takeRequest (.readNext q count) s) c.table).drop
                (c.position - (tableRange c.table).1)).take n →
              (entries.map List.length).sum ≤ (match q.party with | .localParty => 1485 | .remoteParty => 1385) →
              t = answerTo q 0x03 (status (c.position - (tableRange c.table).1 + n) (tableEntries s c.table).length)
                ([BitVec.ofNat 8 (tableCode c.table)] ++ be32 (BitVec.ofNat 32 c.position)
                  ++ be16 (BitVec.ofNat 16 n) ++ entries.flatten)
                ((takeRequest (.readNext q count) s).withCursor q.party ⟨c.table, c.position + n⟩))
    ∧ (∀ i : Fin 32, code = 13 → count = 1 → first.toNat = i.val + 1 →
        exec (.read q code first count) s
          = .next (answerTo q 0x02 (if i = 31 then .endOfTable else .ok)
              ([13] ++ be32 first ++ [0, 1] ++ yesNo s.tills[i].enabled ++ be48 s.tills[i].station
                ++ be32 s.tills[i].address ++ num8 s.tills[i].openLimit ++ yesNo s.tills[i].holdOver
                ++ (match s.tills[i].lastAccepted with | none => [0, 0, 0, 0, 0] | some n => 1 :: be32 n)
                ++ num8 (s.tracker.openCount i))
              ((takeRequest (.read q code first count) s).withCursor q.party ⟨.tills, i.val + 2⟩)))

/-- R188, R189: CLAIM grants the lock held by nobody or restarts the lease of its holder, and is refused with LOCKED, naming
the holder, when the other party holds it. RELEASE frees the lock of its holder and stops the lease timer, and is refused with
NO-LOCK otherwise. At the expiry of the lease timer the lock is held by nobody; that a LEASE_EXPIRY command before it changes
nothing is the model's choice (assumptions 4, 14). -/
def Obligations.ClaimReleaseAndLease : Prop :=
  ∀ (q : Requester) (s : State),
    (s.agent.holder = none ∨ s.agent.holder = some q.party →
      exec (.claim q) s = .next (answerTo q 0x18 .ok [] { takeRequest (.claim q) s with
        agent := { (takeRequest (.claim q) s).agent with
          holder := some q.party, leaseTimer := some ⟨s.tick, 1000 * s.agent.lease⟩ } }))
    ∧ (∀ p : Party, s.agent.holder = some p → p ≠ q.party →
      exec (.claim q) s = .next (answerTo q 0x18 .locked
        [match p with | .localParty => 1 | .remoteParty => 2] (takeRequest (.claim q) s)))
    ∧ (s.agent.holder = some q.party →
      exec (.release q) s = .next (answerTo q 0x19 .ok [] { takeRequest (.release q) s with
        agent := { (takeRequest (.release q) s).agent with holder := none, leaseTimer := none } }))
    ∧ (s.agent.holder ≠ some q.party →
      exec (.release q) s = .next (answerTo q 0x19 .noLock [] (takeRequest (.release q) s)))
    ∧ (timerDue s.tick s.agent.leaseTimer = true →
      exec .leaseExpiry s = .next { s with agent := { s.agent with holder := none, leaseTimer := none } })
    ∧ (timerDue s.tick s.agent.leaseTimer = false → exec .leaseExpiry s = .next s)

/-! ## Management: writes. In every one of these the requester holds the change lock, and its lease restarts (R189). -/

/-- R3, R177: a PORTS write with a segment as management port, a management type that is allowed, and different agent and night
services, a service of 0 taken as 1, replaces every port setting; a changed management port makes the alert destination
absent. R147: the delivery events follow, under the settings just written. It is refused with BAD-VALUE otherwise, and with BAD-INDEX at an
index other than 0. R4: an OFFICE STATIONS write within indices 0 to 7 replaces the entries written, and is refused with
BAD-VALUE when a written enabled entry has the address of another enabled entry. That a base-station service of 0 is taken as 1
too, with ADJUSTED, is the model's choice (assumption 31), and so is that the answer is built with the settings just written
(assumption 25). -/
def Obligations.PortAndOfficeWrites : Prop :=
  ∀ (q : Requester) (first : BitVec 32) (s : State), s.holds q.party = true →
    (∀ (w : PortsWrite) (g : Segment) (service : Service → Service), (∀ v, service v = if v = 0 then 1 else v) →
      segmentOf w.managementPort = some g → 0x0600 ≤ w.managementType.toNat →
      w.managementType ∉ [0x0800, 0x0806, 0x8100, 0x88A8, 0x9100] →
      service w.agentService ≠ service w.nightService →
      ∃ u, exec (.writePorts q 0 [w]) s = .next (answerTo q 0x04
          (if w.agentService = 0 ∨ w.nightService = 0 ∨ w.labelService = 0
            ∨ (w.baseStation.any fun b => b.service == 0) = true then .adjusted else .ok) [] (renewLease u))
        ∧ ({ takeRequest (.writePorts q 0 [w]) s with
          ports := {
            gateways := w.gateways, nextHop := w.nextHop
            baseStation := w.baseStation.map fun b => { b with service := service b.service }
            managementPort := g, managementType := w.managementType
            agentService := service w.agentService, nightService := service w.nightService
            labelService := service w.labelService }
          alerts := { s.alerts with
            destination := if g = s.ports.managementPort then s.alerts.destination else none } } : State).delivers u)
    ∧ (∀ w : PortsWrite, segmentOf w.managementPort = none ∨ w.managementType.toNat < 0x0600
        ∨ w.managementType ∈ [0x0800, 0x0806, 0x8100, 0x88A8, 0x9100]
        ∨ max 1 w.agentService.toNat = max 1 w.nightService.toNat →
      exec (.writePorts q 0 [w]) s
        = .next (answerTo q 0x04 .badValue [] (renewLease (takeRequest (.writePorts q 0 [w]) s))))
    ∧ (∀ ws : List PortsWrite, first ≠ 0 → exec (.writePorts q first ws) s
        = .next (answerTo q 0x04 .badIndex [] (renewLease (takeRequest (.writePorts q first ws) s))))
    ∧ (∀ (ws : List OfficeStation) (office : Vector OfficeStation 8), ws ≠ [] → first.toNat + ws.length ≤ 8 →
      (∀ i : Fin 8, office[i] =
        if first.toNat ≤ i.val ∧ i.val < first.toNat + ws.length then ws.getD (i.val - first.toNat) s.office[i]
        else s.office[i]) →
      ((∀ i j : Fin 8, i ≠ j → first.toNat ≤ i.val → i.val < first.toNat + ws.length →
          office[i].enabled = true → office[j].enabled = true → office[i].address ≠ office[j].address) →
        exec (.writeOfficeStations q first ws) s = .next (answerTo q 0x04 .ok []
          (renewLease { takeRequest (.writeOfficeStations q first ws) s with office := office })))
      ∧ (∀ i j : Fin 8, i ≠ j → first.toNat ≤ i.val → i.val < first.toNat + ws.length →
          office[i].enabled = true → office[j].enabled = true → office[i].address = office[j].address →
        exec (.writeOfficeStations q first ws) s = .next (answerTo q 0x04 .badValue []
          (renewLease (takeRequest (.writeOfficeStations q first ws) s)))))

/-- R20, R21, R22, R23: a write of a window entry or a default of the shadow bank replaces it by what the written fields say,
with hit count 0, and a write of the shadow bank's identity replaces it; nothing else changes. The values of key, action,
segment and class are numbered as R20 and R22 list them (R196). A write to the active bank is refused with STATE. A write
whose entry or default has a value without meaning, a range from high to low, or Track with another destination than UPLINK,
is refused with BAD-VALUE and the entry's index; an index past the last is refused with BAD-INDEX. That a default's action is
numbered Drop 0 and Forward 1 is the model's choice (assumption 22), and so is that a sources byte of 32 or more is a value
without meaning (assumption 23). (Of several entries, each takes its own index.) -/
def Obligations.BankWritesReachTheShadowOnly : Prop :=
  ∀ (q : Requester) (k : BankId) (first : BitVec 32) (w : WindowWrite) (v : DefaultWrite) (s : State),
    s.holds q.party = true →
    (s.classifier.active = k →
      exec (.writeWindow q k first [w]) s
        = .next (answerTo q 0x04 .state [] (renewLease (takeRequest (.writeWindow q k first [w]) s)))
      ∧ exec (.writeDefaults q k first [v]) s
        = .next (answerTo q 0x04 .state [] (renewLease (takeRequest (.writeDefaults q k first [v]) s))))
    ∧ (∀ (i : Fin 64) (key : Key) (action : Action) (destination : Segment) (uplinkClass : UplinkClass),
      s.classifier.active ≠ k → first.toNat = i.val → (w.key, key) ∈ [(0, Key.destination), (1, .source)] →
      (w.action, action) ∈ [(0, Action.forward), (1, .track), (2, .spool), (3, .drop)] →
      (w.destination, destination) ∈ [(0, Segment.uplink), (1, .till), (2, .label), (3, .guest), (4, .office)] →
      (w.uplinkClass, uplinkClass) ∈ [(0, UplinkClass.urgent), (1, .office)] → w.sources.toNat < 32 →
      (∀ low high, w.range = some (low, high) → low.toNat ≤ high.toNat) →
      (action = .track → destination = .uplink) →
      exec (.writeWindow q k first [w]) s = .next (answerTo q 0x04 .ok []
        (renewLease { takeRequest (.writeWindow q k first [w]) s with
          classifier := s.classifier.setBank k { s.classifier.bank k with
            entries := (s.classifier.bank k).entries.set i {
              enabled := w.enabled, pinned := w.pinned
              sources := {
                uplink := w.sources.getLsbD 0, till := w.sources.getLsbD 1, label := w.sources.getLsbD 2
                guest := w.sources.getLsbD 3, office := w.sources.getLsbD 4 }
              key := key, base := w.base, mask := w.mask, protocol := w.protocol, range := w.range
              action := action, destination := destination, translate := w.translate, uplinkClass := uplinkClass
              mark := w.mark, offset := w.offset, hits := 0 } } })))
    ∧ (s.classifier.active ≠ k → first.toNat < 64 →
      32 ≤ w.sources.toNat ∨ 2 ≤ w.key.toNat ∨ 4 ≤ w.action.toNat ∨ 5 ≤ w.destination.toNat
        ∨ 2 ≤ w.uplinkClass.toNat ∨ (∃ low high, w.range = some (low, high) ∧ high.toNat < low.toNat)
        ∨ (w.action = 1 ∧ w.destination ≠ 0) →
      exec (.writeWindow q k first [w]) s = .next (answerTo q 0x04 .badValue (be32 first)
        (renewLease (takeRequest (.writeWindow q k first [w]) s))))
    ∧ (∀ (g destination : Segment) (forwards : Bool) (uplinkClass : UplinkClass), s.classifier.active ≠ k →
      (first, g) ∈ [(0, Segment.uplink), (1, .till), (2, .label), (3, .guest), (4, .office)] →
      (v.action, forwards) ∈ [(0, false), (1, true)] →
      (v.destination, destination) ∈ [(0, Segment.uplink), (1, .till), (2, .label), (3, .guest), (4, .office)] →
      (v.uplinkClass, uplinkClass) ∈ [(0, UplinkClass.urgent), (1, .office)] →
      exec (.writeDefaults q k first [v]) s = .next (answerTo q 0x04 .ok []
        (renewLease { takeRequest (.writeDefaults q k first [v]) s with
          classifier := s.classifier.setBank k { s.classifier.bank k with
            defaults := (s.classifier.bank k).defaults.set {
              forwards := forwards, destination := destination, uplinkClass := uplinkClass, hits := 0 } g } })))
    ∧ (s.classifier.active ≠ k → first.toNat < 5 →
      2 ≤ v.action.toNat ∨ 5 ≤ v.destination.toNat ∨ 2 ≤ v.uplinkClass.toNat →
      exec (.writeDefaults q k first [v]) s = .next (answerTo q 0x04 .badValue (be32 first)
        (renewLease (takeRequest (.writeDefaults q k first [v]) s))))
    ∧ (s.classifier.active ≠ k →
      (64 ≤ first.toNat → exec (.writeWindow q k first [w]) s = .next (answerTo q 0x04 .badIndex (be32 first)
        (renewLease (takeRequest (.writeWindow q k first [w]) s))))
      ∧ (5 ≤ first.toNat → exec (.writeDefaults q k first [v]) s = .next (answerTo q 0x04 .badIndex (be32 first)
        (renewLease (takeRequest (.writeDefaults q k first [v]) s)))))
    ∧ (∀ identity : BitVec 32, first = (if k = .a then 0 else 1) →
      (s.classifier.active ≠ k → exec (.writeBankIdentity q first [identity]) s = .next (answerTo q 0x04 .ok []
        (renewLease { takeRequest (.writeBankIdentity q first [identity]) s with
          classifier := s.classifier.setBank k { s.classifier.bank k with identity := identity } })))
      ∧ (s.classifier.active = k → exec (.writeBankIdentity q first [identity]) s
        = .next (answerTo q 0x04 .state [] (renewLease (takeRequest (.writeBankIdentity q first [identity]) s)))))

/-- R53, R69, R85, R110, R119, R143, R178, R191: a write of a table with one entry replaces its settings, each value outside
its range held to the nearer end, with ADJUSTED in place of OK when one was; nothing else changes but that a new station depth
lowers the guests' meters to it (R69). The label reserve is lowered where both reserves exceed the pool (R110). A new lease is
the one the write's own restart takes (R191). -/
def Obligations.SettingsWritesAreClamped : Prop :=
  ∀ (q : Requester) (held : Nat → Nat → Nat → Nat) (status : Bool → Status) (s : State), s.holds q.party = true →
    (∀ low high v, held low high v = max low (min high v)) →
    (∀ changed, status changed = if changed then .adjusted else .ok) →
    (∀ w : UplinkWrite, exec (.writeUplink q 0 [w]) s = .next (answerTo q 0x04
      (status (decide (held 2 16 w.daySpacing.toNat ≠ w.daySpacing.toNat
        ∨ held 2 16 w.drainSpacing.toNat ≠ w.drainSpacing.toNat ∨ held 1 1000 w.residence.toNat ≠ w.residence.toNat))) []
      (renewLease { takeRequest (.writeUplink q 0 [w]) s with uplink := { s.uplink with
        daySpacing := held 2 16 w.daySpacing.toNat, drainSpacing := held 2 16 w.drainSpacing.toNat
        residence := held 1 1000 w.residence.toNat } })))
    ∧ (∀ (w : GuestWrite) (g : GuestSettings),
      g = ⟨w.base, w.mask, held 10 3600 w.minIdle.toNat, held 60 86400 w.idleLimit.toNat, held 0 131071 w.rate.toNat,
        held 1536 1048576 w.depth.toNat⟩ →
      exec (.writeGuest q 0 [w]) s = .next (answerTo q 0x04
        (status (decide (g.minIdle ≠ w.minIdle.toNat ∨ g.idleLimit ≠ w.idleLimit.toNat ∨ g.rate ≠ w.rate.toNat
          ∨ g.depth ≠ w.depth.toNat))) []
        (renewLease { takeRequest (.writeGuest q 0 [w]) s with guest := {
          settings := g, table := s.guest.table.map fun e => { e with level := min e.level g.depth } } })))
    ∧ (∀ w : TrackerWrite, exec (.writeTracker q 0 [w]) s = .next (answerTo q 0x04
      (status (decide (held 100 60000 w.replyTimeout.toNat ≠ w.replyTimeout.toNat
        ∨ held 0 120000 w.lateWindow.toNat ≠ w.lateWindow.toNat))) []
      (renewLease { takeRequest (.writeTracker q 0 [w]) s with tracker := { s.tracker with
        replyTimeout := held 100 60000 w.replyTimeout.toNat, lateWindow := held 0 120000 w.lateWindow.toNat } })))
    ∧ (∀ (w : PoolWrite) (journal label : Nat), journal = held 0 131072 w.journalReserve.toNat →
      label = min (held 0 131072 w.labelReserve.toNat) (131072 - journal) →
      exec (.writePool q 0 [w]) s = .next (answerTo q 0x04
        (status (decide (journal ≠ w.journalReserve.toNat ∨ label ≠ w.labelReserve.toNat))) []
        (renewLease { takeRequest (.writePool q 0 [w]) s with
          pool := { s.pool with journalReserve := journal, labelReserve := label } })))
    ∧ (∀ (w : NightWrite) (n : NightSettings),
      n = ⟨w.collector, if w.service = 0 then 1 else w.service, w.branch, w.epoch, w.followClock,
        held 500 30000 w.callTimeout.toNat, held 1000 60000 w.ackTimeout.toNat, held 5 600 w.settleTimeout.toNat,
        held 0 3 w.shortLimit.toNat, held 0 7 w.longLimit.toNat⟩ →
      exec (.writeNight q 0 [w]) s = .next (answerTo q 0x04
        (status (decide (w.service = 0 ∨ n.callTimeout ≠ w.callTimeout.toNat ∨ n.ackTimeout ≠ w.ackTimeout.toNat
          ∨ n.settleTimeout ≠ w.settleTimeout.toNat ∨ n.shortLimit ≠ w.shortLimit.toNat
          ∨ n.longLimit ≠ w.longLimit.toNat))) []
        (renewLease { takeRequest (.writeNight q 0 [w]) s with night := { s.night with settings := n } })))
    ∧ (∀ (w : LabelWrite) (l : LabelSettings),
      l = ⟨w.pacing.toNat, held 1 15 w.attemptLimit.toNat, held 1000 60000 w.outcomeTimeout.toNat⟩ →
      exec (.writeLabel q 0 [w]) s = .next (answerTo q 0x04
        (status (decide (l.attemptLimit ≠ w.attemptLimit.toNat ∨ l.outcomeTimeout ≠ w.outcomeTimeout.toNat))) []
        (renewLease { takeRequest (.writeLabel q 0 [w]) s with label := { s.label with settings := l } })))
    ∧ (∀ v : BitVec 16, exec (.writeAlerts q 0 [v]) s = .next (answerTo q 0x04
      (status (decide (held 100 60000 v.toNat ≠ v.toNat))) []
      (renewLease { takeRequest (.writeAlerts q 0 [v]) s with
        alerts := { s.alerts with interval := held 100 60000 v.toNat } })))
    ∧ (∀ v : BitVec 16, exec (.writeAgent q 0 [v]) s = .next (answerTo q 0x04
      (status (decide (held 60 3600 v.toNat ≠ v.toNat))) []
      { takeRequest (.writeAgent q 0 [v]) s with agent := { (takeRequest (.writeAgent q 0 [v]) s).agent with
        lease := held 60 3600 v.toNat, leaseTimer := some ⟨s.tick, 1000 * held 60 3600 v.toNat⟩ } }))

/-- R58, R63, R66, R83, R84, R162: a write of METERS, THRESHOLDS, TILLS or SCHEDULE within the table's indices replaces the
entries written and no others, each value outside its range held to the nearer end, with ADJUSTED in place of OK when one
was. A meter's profile takes rate up to 131,071, depth 1,536 to 1,048,576, and action Drop 0 or Defer 1. A meter whose rate or depth in use changes is refilled under the old values and its level then
lowered to the new depth. A threshold keeps its armed state and result unless the write arms it. The open requests of every
till written are freed, without a notice, and the tills of an accepted write that are enabled hold addresses of their own.
A schedule write fires nothing. An action of a meter without meaning, action Drop for the TRANSFER meter, a till's address or station held by another enabled till,
and an action without meaning are refused with BAD-VALUE. -/
def Obligations.IndexedWritesReplaceTheirEntries : Prop :=
  ∀ (q : Requester) (first : BitVec 32) (s : State), s.holds q.party = true →
    (∀ (m : Meter) (w : MeterWrite) (dayAction nightAction : MeterAction) (day night old new : Profile)
        (held : ProfileWrite → MeterAction → Profile),
      first = (match m with | .guest => 0 | .office => 1 | .transfer => 2) →
      (∀ x action, held x action = ⟨min 131071 x.rate.toNat, max 1536 (min 1048576 x.depth.toNat), action⟩) →
      (w.day.action, dayAction) ∈ [(0, MeterAction.drop), (1, .defer)] →
      (w.night.action, nightAction) ∈ [(0, MeterAction.drop), (1, .defer)] →
      day = held w.day dayAction → night = held w.night nightAction → old = s.profileInUse m →
      new = (match s.levels.profile.value with | .day => day | .night => night) →
      (m ≠ .transfer ∨ (dayAction = .defer ∧ nightAction = .defer) → ∃ u,
        exec (.writeMeters q first [w]) s = .next (answerTo q 0x04
          (if day.rate = w.day.rate.toNat ∧ day.depth = w.day.depth.toNat ∧ night.rate = w.night.rate.toNat
            ∧ night.depth = w.night.depth.toNat then .ok else .adjusted) [] (renewLease u))
        ∧ u.quiet = ({ takeRequest (.writeMeters q first [w]) s with
            meters := s.meters.set m
              (if old.rate = new.rate ∧ old.depth = new.depth then { s.meters.get m with day := day, night := night }
              else { s.meters.get m with
                day := day, night := night, lastTick := s.tick
                level := min (min old.depth ((s.meters.get m).level
                  + old.rate * min 65535 (s.tick - (s.meters.get m).lastTick).toNat)) new.depth }) } : State).quiet)
      ∧ (m = .transfer → dayAction = .drop ∨ nightAction = .drop → exec (.writeMeters q first [w]) s
        = .next (answerTo q 0x04 .badValue [] (renewLease (takeRequest (.writeMeters q first [w]) s)))))
    ∧ (∀ w : MeterWrite, first.toNat < 3 → 2 ≤ w.day.action.toNat ∨ 2 ≤ w.night.action.toNat →
      exec (.writeMeters q first [w]) s
        = .next (answerTo q 0x04 .badValue [] (renewLease (takeRequest (.writeMeters q first [w]) s))))
    ∧ (∀ (i : PairId) (w : PairWrite) (top : Nat) (written : Threshold → ThresholdWrite → Threshold),
      first.toNat = (match i with
        | .guestMeter => 0 | .officeMeter => 1 | .transferMeter => 2 | .journal => 3 | .label => 4) →
      top = (match i with | .journal => 131072 | .label => 131072 | _ => 1048576) →
      (∀ t x, written t x = {
        value := min top x.value.toNat, enabled := x.enabled, armed := x.arm || t.armed
        resultValid := !x.arm && t.resultValid, last := t.last }) →
      exec (.writeThresholds q first [w]) s = .next (answerTo q 0x04
        (if top < w.low.value.toNat ∨ top < w.high.value.toNat then .adjusted else .ok) []
        (renewLease { takeRequest (.writeThresholds q first [w]) s with
          thresholds := s.thresholds.set i
            ⟨written (s.thresholds.get i).low w.low, written (s.thresholds.get i).high w.high⟩ })))
    ∧ (∀ (ws : List TillWrite) (tills : Vector TillEntry 32) (isWritten : Fin 32 → Prop), ws ≠ [] →
      1 ≤ first.toNat → first.toNat + ws.length ≤ 33 →
      (∀ i, isWritten i ↔ first.toNat ≤ i.val + 1 ∧ i.val + 1 < first.toNat + ws.length) →
      (∀ i : Fin 32, (¬ isWritten i → tills[i] = s.tills[i]) ∧ ∀ w, isWritten i →
        ws[i.val + 1 - first.toNat]? = some w → tills[i] =
          ⟨w.enabled, w.station, w.address, max 1 (min 4 w.openLimit.toNat), w.holdOver, w.lastAccepted⟩) →
      ((∀ i : Fin 32, isWritten i → tills[i].enabled = true →
          tills[i].address ≠ 0 ∧ tills[i].address ≠ 0xFFFFFFFF ∧ tills[i].address ≠ s.ports.gateways.till
            ∧ ∀ j : Fin 32, j ≠ i → tills[j].enabled = true →
                tills[j].station ≠ tills[i].station ∧ tills[j].address ≠ tills[i].address) →
        ∃ u, exec (.writeTills q first ws) s = .next (answerTo q 0x04
            (if ws.any (fun w => decide (w.openLimit.toNat = 0 ∨ 4 < w.openLimit.toNat)) then .adjusted else .ok) []
            (renewLease u))
          ∧ u = { takeRequest (.writeTills q first ws) s with
              tills := tills, tracker := { s.tracker with slots := u.tracker.slots } }
          ∧ ∀ (j : Fin 64), (∀ r, s.tracker.slots[j] = some r →
              (isWritten r.till → u.tracker.slots[j] = none)
                ∧ (¬ isWritten r.till → u.tracker.slots[j] = some r))
            ∧ (s.tracker.slots[j] = none → u.tracker.slots[j] = none))
      ∧ (∀ i j : Fin 32, isWritten i → tills[i].enabled = true → j ≠ i → tills[j].enabled = true →
          tills[j].station = tills[i].station ∨ tills[j].address = tills[i].address →
          ∃ fields, exec (.writeTills q first ws) s
            = .next (answerTo q 0x04 .badValue fields (renewLease (takeRequest (.writeTills q first ws) s)))))
    ∧ (∀ (i : Fin 16) (w : ScheduleWrite), first.toNat = i.val →
      (∀ action, scheduleActions[w.action.toNat]? = some action →
        exec (.writeSchedule q first [w]) s = .next (answerTo q 0x04
          (if 86399 < w.second.toNat then .adjusted else .ok) []
          (renewLease { takeRequest (.writeSchedule q first [w]) s with
            schedule := s.schedule.set i ⟨w.enabled, min 86399 w.second.toNat, action⟩ })))
      ∧ (7 ≤ w.action.toNat → exec (.writeSchedule q first [w]) s
        = .next (answerTo q 0x04 .badValue [] (renewLease (takeRequest (.writeSchedule q first [w]) s)))))

/-- R187, R195, R196: a WRITE given by its table code and the bytes of its entries does what the write of that table with the
entries those bytes spell does, and is UNKNOWN where they are too short; a WRITE of a read-only table, or of a code without
meaning, is refused with BAD-INDEX. Code 29 with one entry sets the lease to the number its two bytes hold, within 60 to
3,600. That the table's row WRITE stands for the rows of the single tables is the model's choice (assumption 29). (The bytes of
the other codes are fixed through decodeWrite alone.) -/
def Obligations.WriteBytesSpellTheirTablesWrite : Prop :=
  ∀ (q : Requester) (code : Byte) (first : BitVec 32) (count : BitVec 16) (data : Bytes) (s : State),
    (s.agent.queue = [] →
      exec (.write q code first count data) s = exec (decodeWrite q code first count data) s)
    ∧ (s.holds q.party = true →
        code.toNat ∈ [0, 12, 15, 17, 18, 20, 22, 23, 24, 26, 27] ∨ 30 ≤ code.toNat →
        exec (.write q code first count data) s = .next (answerTo q 0x04 .badIndex []
          (renewLease (takeRequest (.write q code first count data) s))))
    ∧ (∀ (v : BitVec 16) (rest : Bytes), s.holds q.party = true → code = 29 → first = 0 → count = 1 →
        data = be16 v ++ rest →
        exec (.write q code first count data) s = .next (answerTo q 0x04
          (if v.toNat < 60 ∨ 3600 < v.toNat then .adjusted else .ok) []
          { takeRequest (.write q code first count data) s with
            agent := { (takeRequest (.write q code first count data) s).agent with
              lease := max 60 (min 3600 v.toNat)
              leaseTimer := some ⟨s.tick, 1000 * max 60 (min 3600 v.toNat)⟩ } }))

/-! ## Management: the other commands of the lock's holder -/

/-- R34, R33: SWAP applies the isolation check to the shadow bank's enabled entries in index order and then to its GUEST
default. An enabled entry with GUEST among its sources offends when its action is Forward to TILL, LABEL or OFFICE, Track, or
Spool; the GUEST default offends when it forwards to TILL, LABEL or OFFICE. SWAP is refused with ISOLATION, naming the lowest
offending index, or the default (0xFFFFFFFF) when it alone offends; nothing changes then. With no offence the banks exchange
their roles, with their contents as they were, and the answer carries the new active bank's letter and identity. -/
def Obligations.SwapChecksIsolation : Prop :=
  ∀ (q : Requester) (k : BankId) (shadow : Bank) (offends : Fin 64 → Prop) (barred : Segment → Prop) (s : State),
    s.holds q.party = true → k ≠ s.classifier.active → shadow = s.classifier.bank k →
    (∀ g, barred g ↔ g = .till ∨ g = .label ∨ g = .office) →
    (∀ i, offends i ↔ shadow.entries[i].enabled = true ∧ shadow.entries[i].sources.guest = true
      ∧ ((shadow.entries[i].action = .forward ∧ barred shadow.entries[i].destination)
        ∨ shadow.entries[i].action = .track ∨ shadow.entries[i].action = .spool)) →
    (∀ i : Fin 64, offends i → (∀ j, j < i → ¬ offends j) →
      exec (.swap q) s = .next (answerTo q 0x05 .isolation (be32 (BitVec.ofNat 32 i.val))
        (renewLease (takeRequest (.swap q) s))))
    ∧ ((∀ i, ¬ offends i) → shadow.defaults.guest.forwards = true → barred shadow.defaults.guest.destination →
      exec (.swap q) s = .next (answerTo q 0x05 .isolation (be32 0xFFFFFFFF) (renewLease (takeRequest (.swap q) s))))
    ∧ ((∀ i, ¬ offends i) → shadow.defaults.guest.forwards = false ∨ ¬ barred shadow.defaults.guest.destination →
      exec (.swap q) s = .next (answerTo q 0x05 .ok (([if k = .a then 0 else 1] : Bytes) ++ be32 shadow.identity)
        (renewLease { takeRequest (.swap q) s with classifier := { s.classifier with active := k } })))

/-- R17, R18, R57, R64, R82, R98, R135, R140, R154: OPEN in CLOSED makes the part RUNNING, and with the clock unset does nothing
else; OPEN in RUNNING and CLOSE in CLOSED are refused with STATE. CLOSE makes it CLOSED, empties the egress queues, the uplink
scheduler, the hold queues and the open request table, forces the night engine to IDLE and takes the updates in flight back.
RESTART empties the egress queues, the uplink scheduler, the hold queues and the pending set, sets every meter to its depth,
the night engine to IDLE with attempts and short retries 0, and takes the updates in flight back; the tables and settings
stay. No frame survives either, in a queue or in transmission: there is none after it but an alert frame built in it. With no
alert destination queues and scheduler are then empty (CLOSE), and so they are, with the pending set and the alert timer
(R180), at a RESTART with global enable off and no threshold enabled, so that nothing is raised in it. -/
def Obligations.PartStateCommandsAndRestart : Prop :=
  ∀ (q : Requester) (label : LabelEngine) (pool : Pool) (emptied : Uplink) (lost : Nat) (s : State),
    s.holds q.party = true →
    emptied = { s.uplink with queues := ⟨[], [], [], []⟩, transmitting := none, turn := .transfer, guestGap := 15 } →
    lost = s.label.inFlight.countP (fun u => holdsLabel s.label.queue u.number) →
    pool = { s.pool with free := s.pool.free + lost, labelHeld := s.pool.labelHeld - lost } →
    label = { s.label with
      queue := (s.label.inFlight.filter fun u => !holdsLabel s.label.queue u.number).map
        (fun u => { u with sentTick := none, deadline := none }) ++ s.label.queue
      inFlight := [], credit := 0, pacingTimer := none } →
    (s.running = false → s.clock.set = false →
      exec (.openPart q) s = .next (answerTo q 0x06 .ok [] (renewLease { takeRequest (.openPart q) s with
        agent := { (takeRequest (.openPart q) s).agent with partState := .running } })))
    ∧ (s.running = true → exec (.openPart q) s
        = .next (answerTo q 0x06 .state [] (renewLease (takeRequest (.openPart q) s))))
    ∧ (s.running = false → exec (.closePart q) s
        = .next (answerTo q 0x07 .state [] (renewLease (takeRequest (.closePart q) s))))
    ∧ (s.running = true → ∃ u, exec (.closePart q) s = .next (answerTo q 0x07 .ok [] (renewLease u))
        ∧ (∀ p, ∀ f ∈ u.egress.get p, f.kind = .alert ∧ f.entryTick = s.tick)
        ∧ (∀ p, ∀ f ∈ u.uplink.queues.get p, f.kind = .alert ∧ f.entryTick = s.tick)
        ∧ (∀ x, u.uplink.transmitting = some x → x.frame.kind = .alert ∧ x.frame.entryTick = s.tick)
        ∧ (s.alerts.destination = none → u.egress = ⟨[], [], [], []⟩ ∧ u.uplink = emptied)
        ∧ u.quiet = ({ takeRequest (.closePart q) s with
            agent := { (takeRequest (.closePart q) s).agent with partState := .closed }
            meters := ⟨{ s.meters.guest with hold := [] }, { s.meters.office with hold := [] },
              { s.meters.transfer with hold := [] }⟩
            night := if s.night.state = .idle then s.night else { s.night with
              state := .idle, callTimer := none, ackTimer := none, settleTimer := none, backoffTimer := none }
            journal := if s.night.state = .idle then s.journal
              else { s.journal with nextToSend := s.journal.oldest }
            tracker := { s.tracker with slots := Vector.replicate 64 none }
            label := label, pool := pool } : State).quiet)
    ∧ (∃ u, exec (.restart q) s = .next (answerTo q 0x10 .ok [] (renewLease u))
        ∧ (∀ p, ∀ f ∈ u.egress.get p, f.kind = .alert ∧ f.entryTick = s.tick)
        ∧ (∀ p, ∀ f ∈ u.uplink.queues.get p, f.kind = .alert ∧ f.entryTick = s.tick)
        ∧ (∀ x, u.uplink.transmitting = some x → x.frame.kind = .alert ∧ x.frame.entryTick = s.tick)
        ∧ (∀ x ∈ [AlertSource.journalLow, .journalHigh, .nightFailed, .labelLost],
            u.alerts.pending[alertIndex x] = none)
        ∧ (s.counters.group.globalEnable = false →
            (∀ i, (s.thresholds.get i).low.enabled = false ∧ (s.thresholds.get i).high.enabled = false) →
            u.egress = ⟨[], [], [], []⟩ ∧ u.uplink = emptied
              ∧ u.alerts = { s.alerts with pending := Vector.replicate 14 none, timer := none })
        ∧ (∀ m, u.meters.get m = { s.meters.get m with
            level := (s.profileInUse m).depth, lastTick := s.tick, hold := [] })
        ∧ u.quiet = ({ takeRequest (.restart q) s with
            meters := u.meters
            guest := { s.guest with table := s.guest.table.map fun e =>
              { e with level := s.guest.settings.depth, meterTick := s.tick } }
            night := { s.night with
              state := .idle, attempts := 0, shortRetries := 0, callTimer := none, ackTimer := none
              settleTimer := none, backoffTimer := none }
            journal := { s.journal with nextToSend := s.journal.oldest }
            label := label, pool := pool } : State).quiet)

/-- R160, R165, R190: SET CLOCK sets the clock to its day and second, the second held to 86,399, with sub-second 0, and answers
with them. In CLOSED nothing else changes. In RUNNING, and at OPEN of a part whose clock is set, the level settings are
replayed: each takes the value of the enabled entry of its kind with the greatest second at or before the time of day, or, when
none is, with the greatest of all, the highest index of several, with origin Replay; one with no enabled entry stays. That a
second advance already due stays due at SET CLOCK is the model's choice (assumption 5). -/
def Obligations.ClockSetReplaysTheSchedule : Prop :=
  ∀ (c : Instr) (q : Requester) (day : BitVec 16) (second : BitVec 32) (shown : StoreTime) (clock : Clock)
    (answer : State → State) (s : State), s.holds q.party = true →
    (c = .setClock q day second ∧ shown = ⟨day.toNat, min 86399 second.toNat⟩
        ∧ clock = { s.clock with set := true, time := shown, sub := 0 }
        ∧ ∀ u, answer u = answerTo q 0x08 (if 86399 < second.toNat then .adjusted else .ok)
            (be16 day ++ be32 (BitVec.ofNat 32 shown.second)) (renewLease u))
      ∨ (c = .openPart q ∧ s.running = false ∧ s.clock.set = true ∧ shown = s.clock.time ∧ clock = s.clock
        ∧ ∀ u, answer u = answerTo q 0x06 .ok [] (renewLease u)) →
    (s.running = false → c = .setClock q day second →
      exec c s = .next (answer { takeRequest c s with clock := clock }))
    ∧ (s.running = true ∨ c = .openPart q → ∃ u, exec c s = .next (answer u) ∧ u.clock = clock ∧ u.running = true ∧ u.night = s.night
        ∧ u.journal = s.journal ∧ u.schedule = s.schedule
        ∧ (∀ (k : LevelKind) (i : Fin 16),
            (IsLatest s.schedule (fun j => s.schedule[j].enabled = true ∧ levelKind s.schedule[j].action = some k
                ∧ s.schedule[j].second ≤ shown.second) i
              ∨ (IsLatest s.schedule (fun j => s.schedule[j].enabled = true
                    ∧ levelKind s.schedule[j].action = some k) i
                ∧ ∀ j : Fin 16, s.schedule[j].enabled = true → levelKind s.schedule[j].action = some k →
                    shown.second < s.schedule[j].second)) →
            u.levels.of k = (s.schedule[i].action, .replay i))
        ∧ (∀ k : LevelKind, (∀ j : Fin 16, s.schedule[j].enabled = true →
              levelKind s.schedule[j].action ≠ some k) → u.levels.of k = s.levels.of k))

/-- R166, R164, R63, R79, R155: PROFILE, LABELS and GUEST set their own level setting with origin Command; a value above 1 is
refused with BAD-VALUE. A change of profile refills each meter under the old profile and lowers its level to the new depth.
Closing the guest state empties the guest table and the GUEST hold queue. Opening the label window is one event at the label
engine, followed by the delivery events: where a condition of R147 fails there are none; otherwise the first queued update
whose label number is not in flight goes in flight with its sent tick and deadline, the credit lowered and the pacing timer
started, and its DELIVER joins the LABEL egress queue; with a pacing interval of 0 they go on so. A setting given the value it
has changes only its origin. -/
def Obligations.LevelCommandsSetTheirSetting : Prop :=
  (∀ s : State, s.delivers (deliveries s)) ∧ ∀ (q : Requester) (v : Byte) (s : State), s.holds q.party = true →
    (1 < v.toNat →
      exec (.profile q v) s
          = .next (answerTo q 0x11 .badValue [] (renewLease (takeRequest (.profile q v) s)))
        ∧ exec (.labels q v) s
          = .next (answerTo q 0x0A .badValue [] (renewLease (takeRequest (.labels q v) s)))
        ∧ exec (.guest q v) s
          = .next (answerTo q 0x0B .badValue [] (renewLease (takeRequest (.guest q v) s))))
    ∧ (∀ value : DayNight, v = (match value with | .day => 0 | .night => 1) →
      ∃ u, exec (.profile q v) s = .next (answerTo q 0x11 .ok [] (renewLease u))
        ∧ (s.levels.profile.value = value → u = { takeRequest (.profile q v) s with
            levels := { s.levels with profile := ⟨value, .command⟩ } })
        ∧ (s.levels.profile.value ≠ value →
            u.quiet = ({ takeRequest (.profile q v) s with
              levels := { s.levels with profile := ⟨value, .command⟩ }, meters := u.meters } : State).quiet
            ∧ (s.alerts.destination = none → u.egress = s.egress ∧ u.uplink = s.uplink)
            ∧ ∀ m (old new : Profile), old = s.profileInUse m →
                new = (match value with | .day => (s.meters.get m).day | .night => (s.meters.get m).night) →
                u.meters.get m = { s.meters.get m with
                  lastTick := s.tick
                  level := min (min old.depth ((s.meters.get m).level
                    + old.rate * min 65535 (s.tick - (s.meters.get m).lastTick).toNat)) new.depth }))
    ∧ (∀ value : Gate, v = (match value with | .opened => 0 | .closed => 1) →
      (value = .closed ∨ s.levels.labelWindow.value = .opened →
        exec (.labels q v) s = .next (answerTo q 0x0A .ok [] (renewLease { takeRequest (.labels q v) s with
          levels := { s.levels with labelWindow := ⟨value, .command⟩ } })))
      ∧ (value = .opened → s.levels.labelWindow.value = .closed →
        ∃ u, exec (.labels q v) s = .next (answerTo q 0x0A .ok [] (renewLease u))
          ∧ ({ takeRequest (.labels q v) s with
            levels := { s.levels with labelWindow := ⟨value, .command⟩ } } : State).delivers u)
      ∧ exec (.guest q v) s = .next (answerTo q 0x0B .ok [] (renewLease { takeRequest (.guest q v) s with
          levels := { s.levels with guestState := ⟨value, .command⟩ }
          guest := if s.levels.guestState.value = .opened ∧ value = .closed then { s.guest with table := [] }
            else s.guest
          meters := if s.levels.guestState.value = .opened ∧ value = .closed then
              { s.meters with guest := { s.meters.guest with hold := [] } }
            else s.meters })))

/-- R116, R152, R176: JOURNAL DISCARD in IDLE or FAILED empties the journal, frees its blocks, sets oldest and next-to-send to the
next sequence, its pair compared after it (R67), and answers with the records and blocks discarded; in another engine state it
is refused with BUSY. LABEL
CLEAR empties the undelivered list and answers with its count. ALERT CLEAR takes the sources it names off the pending set, and
is refused with BAD-VALUE when one of them has no meaning. -/
def Obligations.DiscardsAndClears : Prop :=
  ∀ (q : Requester) (s : State), s.holds q.party = true →
    (s.night.state = .idle ∨ s.night.state = .failed →
      ∃ u, exec (.journalDiscard q) s = .next (answerTo q 0x0E .ok
          (be32 (BitVec.ofNat 32 s.journal.records.length) ++ be32 (BitVec.ofNat 32 s.pool.journalHeld)) (renewLease u))
        ∧ u.quiet = ({ takeRequest (.journalDiscard q) s with
            journal := ⟨[], s.journal.nextSeq, s.journal.nextSeq, s.journal.nextSeq⟩
            pool := { s.pool with free := s.pool.free + s.pool.journalHeld, journalHeld := 0 } } : State).quiet
        ∧ u = compareChanged .journal s.pool.journalHeld { takeRequest (.journalDiscard q) s with
            journal := ⟨[], s.journal.nextSeq, s.journal.nextSeq, s.journal.nextSeq⟩
            pool := { s.pool with free := s.pool.free + s.pool.journalHeld, journalHeld := 0 } })
    ∧ (s.night.state ≠ .idle → s.night.state ≠ .failed → exec (.journalDiscard q) s
        = .next (answerTo q 0x0E .busy [] (renewLease (takeRequest (.journalDiscard q) s))))
    ∧ exec (.labelClear q) s = .next (answerTo q 0x17 .ok (be16 (BitVec.ofNat 16 s.label.undelivered.length))
        (renewLease { takeRequest (.labelClear q) s with label := { s.label with undelivered := [] } }))
    ∧ (∀ (codes : List Byte) (marks : Vector (Option AlertMark) 14), codes ≠ [] →
      (∀ i : Fin 14, marks[i] = if BitVec.ofNat 8 (i.val + 1) ∈ codes then none else s.alerts.pending[i]) →
      ((∀ c ∈ codes, 1 ≤ c.toNat ∧ c.toNat ≤ 14) → exec (.alertClear q codes) s = .next (answerTo q 0x16 .ok []
        (renewLease { takeRequest (.alertClear q codes) s with alerts := { s.alerts with pending := marks } })))
      ∧ (∀ c ∈ codes, c = 0 ∨ 14 < c.toNat → exec (.alertClear q codes) s
        = .next (answerTo q 0x16 .badValue [] (renewLease (takeRequest (.alertClear q codes) s)))))

/-- R80: BAR marks the entry of its station barred, its position and last-active tick kept. UNBAR of a barred entry ends the
mark, takes the tick as last-active and moves the entry to the head; of one not barred it changes nothing. A station that no
entry holds is refused with BAD-VALUE. -/
def Obligations.BarAndUnbar : Prop :=
  ∀ (q : Requester) (a : Station) (s : State), s.holds q.party = true →
    (∀ (before after : List GuestEntry) (e : GuestEntry), s.guest.table = before ++ e :: after → e.station = a →
      (∀ x ∈ before ++ after, x.station ≠ a) →
      exec (.bar q a) s = .next (answerTo q 0x13 .ok [] (renewLease { takeRequest (.bar q a) s with
        guest := { s.guest with table := before ++ { e with barred := true } :: after } }))
      ∧ (e.barred = true → exec (.unbar q a) s = .next (answerTo q 0x14 .ok []
        (renewLease { takeRequest (.unbar q a) s with
          guest := { s.guest with
            table := { e with barred := false, lastActive := s.tick } :: (before ++ after) } })))
      ∧ (e.barred = false → exec (.unbar q a) s
        = .next (answerTo q 0x14 .ok [] (renewLease (takeRequest (.unbar q a) s)))))
    ∧ ((∀ e ∈ s.guest.table, e.station ≠ a) →
      exec (.bar q a) s = .next (answerTo q 0x13 .badValue [] (renewLease (takeRequest (.bar q a) s)))
      ∧ exec (.unbar q a) s = .next (answerTo q 0x14 .badValue [] (renewLease (takeRequest (.unbar q a) s))))

/-- R172, R183: COUNTERS Configure replaces every counter's selector, condition and run flag and the group controls, and leaves
values, overflow flags, the frozen mark, the trigger state and the sample as they were; a selector or condition without meaning
is refused with BAD-VALUE and the number of the first counter at fault. Start (form 2) ends the freeze, sets the trigger state by the
trigger and empties the sample; a form byte that spells no form of COUNTERS is refused with BAD-VALUE. Clear takes value and overflow flag of the counters it names, and is refused with BAD-INDEX
when a number is outside 1 to 8. That a Clear of no counter is carried out is the model's choice (assumption 35), and so is
which index these refusals name (assumption 36), and that COUNTERS_START is the row of a form byte without meaning
(assumption 24). -/
def Obligations.CountersCommands : Prop :=
  ∀ (q : Requester) (s : State), s.holds q.party = true →
    (∀ (ws : Vector CounterWrite 8) (group : GroupControls) (fault : Fin 8 → Prop),
      (∀ i, fault i ↔ selectorOf ws[i].kind ws[i].qualifier = none ∨ 3 ≤ ws[i].condition.toNat) →
      ((∀ i, ¬ fault i) → ∃ counters : Vector Counter 8,
        exec (.countersConfigure q ws group) s = .next (answerTo q 0x15 .ok []
          (renewLease { takeRequest (.countersConfigure q ws group) s with
            counters := { s.counters with counters := counters, group := group } }))
        ∧ ∀ i : Fin 8, counters[i].value = s.counters.counters[i].value
          ∧ counters[i].overflow = s.counters.counters[i].overflow ∧ counters[i].run = ws[i].run
          ∧ selectorOf ws[i].kind ws[i].qualifier = some counters[i].selector
          ∧ [Condition.always, .markedOnly, .unmarkedOnly][ws[i].condition.toNat]? = some counters[i].condition)
      ∧ (∀ i, fault i → (∀ j, j < i → ¬ fault j) → exec (.countersConfigure q ws group) s
        = .next (answerTo q 0x15 .badValue (be32 (BitVec.ofNat 32 (i.val + 1)))
            (renewLease (takeRequest (.countersConfigure q ws group) s)))))
    ∧ exec (.countersStart ⟨q, 2⟩) s = .next (answerTo q 0x15 .ok []
        (renewLease { takeRequest (.countersStart ⟨q, 2⟩) s with
          counters := { s.counters with
            frozen := false, sample := .empty
            triggerState := if s.counters.group.trigger then .waiting else .released } }))
    ∧ (∀ form : Byte, form ≠ 2 → exec (.countersStart ⟨q, form⟩) s
        = .next (answerTo q 0x15 .badValue [] (renewLease (takeRequest (.countersStart ⟨q, form⟩) s))))
    ∧ (∀ (ns : List Byte) (counters : Vector Counter 8),
      (∀ i : Fin 8, counters[i] = if BitVec.ofNat 8 (i.val + 1) ∈ ns then
          { s.counters.counters[i] with value := 0, overflow := false } else s.counters.counters[i]) →
      ((∀ n ∈ ns, 1 ≤ n.toNat ∧ n.toNat ≤ 8) → exec (.countersClear q ns) s = .next (answerTo q 0x15 .ok []
        (renewLease { takeRequest (.countersClear q ns) s with
          counters := { s.counters with counters := counters } })))
      ∧ (∀ n ∈ ns, n = 0 ∨ 8 < n.toNat → exec (.countersClear q ns) s
        = .next (answerTo q 0x15 .badIndex [] (renewLease (takeRequest (.countersClear q ns) s)))))

/-- R52: ADJUST QUEUES holds each of its four limits to 1 to 256. A sum above 256 is refused with BAD-VALUE; otherwise the four
limits are replaced together, with ADJUSTED where one was held, and no frame is discarded. (In DRAINING the night engine may
send at once, R131.) -/
def Obligations.AdjustQueuesReplacesTheLimits : Prop :=
  ∀ (q : Requester) (w : QueueLimitsWrite) (held : BitVec 16 → Nat) (limits : PerQueue Nat) (s : State),
    s.holds q.party = true → (∀ v, held v = max 1 (min 256 v.toNat)) →
    limits = ⟨held w.urgent, held w.transfer, held w.office, held w.guest⟩ →
    (256 < held w.urgent + held w.transfer + held w.office + held w.guest → exec (.adjustQueues q w) s
      = .next (answerTo q 0x0F .badValue [] (renewLease (takeRequest (.adjustQueues q w) s))))
    ∧ (held w.urgent + held w.transfer + held w.office + held w.guest ≤ 256 → ∃ u, exec (.adjustQueues q w) s
        = .next (answerTo q 0x0F (if held w.urgent ≠ w.urgent.toNat ∨ held w.transfer ≠ w.transfer.toNat
            ∨ held w.office ≠ w.office.toNat ∨ held w.guest ≠ w.guest.toNat then .adjusted else .ok) []
            (renewLease u))
        ∧ u.uplink.limits = limits
        ∧ u.asleep = ({ takeRequest (.adjustQueues q w) s with
            uplink := { s.uplink with limits := limits } } : State).asleep
        ∧ (s.night.state ≠ .draining → u = { takeRequest (.adjustQueues q w) s with
            uplink := { s.uplink with limits := limits } }))
end

