-- ==== Sys2Proof/Laws/State.lean ====
section
/-! SUPPORT. The small lemmas of State: for every named update and every field, what the field is after the update. All
true by unfolding, so that no later proof unfolds a record update. -/

namespace Sys2Proof.Machine

/-! ## withGuest -/

@[simp] theorem State.withGuest_station (s : State) (a : Station) (f : GuestEntry → GuestEntry) :
    (s.withGuest a f).station = s.station := rfl
@[simp] theorem State.withGuest_tick (s : State) (a : Station) (f : GuestEntry → GuestEntry) :
    (s.withGuest a f).tick = s.tick := rfl
@[simp] theorem State.withGuest_agingDue (s : State) (a : Station) (f : GuestEntry → GuestEntry) :
    (s.withGuest a f).agingDue = s.agingDue := rfl
@[simp] theorem State.withGuest_links (s : State) (a : Station) (f : GuestEntry → GuestEntry) :
    (s.withGuest a f).links = s.links := rfl
@[simp] theorem State.withGuest_egress (s : State) (a : Station) (f : GuestEntry → GuestEntry) :
    (s.withGuest a f).egress = s.egress := rfl
@[simp] theorem State.withGuest_ports (s : State) (a : Station) (f : GuestEntry → GuestEntry) :
    (s.withGuest a f).ports = s.ports := rfl
@[simp] theorem State.withGuest_office (s : State) (a : Station) (f : GuestEntry → GuestEntry) :
    (s.withGuest a f).office = s.office := rfl
@[simp] theorem State.withGuest_classifier (s : State) (a : Station) (f : GuestEntry → GuestEntry) :
    (s.withGuest a f).classifier = s.classifier := rfl
@[simp] theorem State.withGuest_uplink (s : State) (a : Station) (f : GuestEntry → GuestEntry) :
    (s.withGuest a f).uplink = s.uplink := rfl
@[simp] theorem State.withGuest_meters (s : State) (a : Station) (f : GuestEntry → GuestEntry) :
    (s.withGuest a f).meters = s.meters := rfl
@[simp] theorem State.withGuest_thresholds (s : State) (a : Station) (f : GuestEntry → GuestEntry) :
    (s.withGuest a f).thresholds = s.thresholds := rfl
@[simp] theorem State.withGuest_guest (s : State) (a : Station) (f : GuestEntry → GuestEntry) :
    (s.withGuest a f).guest = { s.guest with table := updateGuest s.guest.table a f } := rfl
@[simp] theorem State.withGuest_tills (s : State) (a : Station) (f : GuestEntry → GuestEntry) :
    (s.withGuest a f).tills = s.tills := rfl
@[simp] theorem State.withGuest_tracker (s : State) (a : Station) (f : GuestEntry → GuestEntry) :
    (s.withGuest a f).tracker = s.tracker := rfl
@[simp] theorem State.withGuest_journal (s : State) (a : Station) (f : GuestEntry → GuestEntry) :
    (s.withGuest a f).journal = s.journal := rfl
@[simp] theorem State.withGuest_pool (s : State) (a : Station) (f : GuestEntry → GuestEntry) :
    (s.withGuest a f).pool = s.pool := rfl
@[simp] theorem State.withGuest_night (s : State) (a : Station) (f : GuestEntry → GuestEntry) :
    (s.withGuest a f).night = s.night := rfl
@[simp] theorem State.withGuest_label (s : State) (a : Station) (f : GuestEntry → GuestEntry) :
    (s.withGuest a f).label = s.label := rfl
@[simp] theorem State.withGuest_clock (s : State) (a : Station) (f : GuestEntry → GuestEntry) :
    (s.withGuest a f).clock = s.clock := rfl
@[simp] theorem State.withGuest_schedule (s : State) (a : Station) (f : GuestEntry → GuestEntry) :
    (s.withGuest a f).schedule = s.schedule := rfl
@[simp] theorem State.withGuest_levels (s : State) (a : Station) (f : GuestEntry → GuestEntry) :
    (s.withGuest a f).levels = s.levels := rfl
@[simp] theorem State.withGuest_counters (s : State) (a : Station) (f : GuestEntry → GuestEntry) :
    (s.withGuest a f).counters = s.counters := rfl
@[simp] theorem State.withGuest_alerts (s : State) (a : Station) (f : GuestEntry → GuestEntry) :
    (s.withGuest a f).alerts = s.alerts := rfl
@[simp] theorem State.withGuest_agent (s : State) (a : Station) (f : GuestEntry → GuestEntry) :
    (s.withGuest a f).agent = s.agent := rfl
@[simp] theorem State.withGuest_freeSerial (s : State) (a : Station) (f : GuestEntry → GuestEntry) :
    (s.withGuest a f).freeSerial = s.freeSerial := rfl
@[simp] theorem State.withGuest_pending (s : State) (a : Station) (f : GuestEntry → GuestEntry) :
    (s.withGuest a f).pending = s.pending := rfl

/-! ## withTable -/

@[simp] theorem State.withTable_station (s : State) (t : List GuestEntry) : (s.withTable t).station = s.station := rfl
@[simp] theorem State.withTable_tick (s : State) (t : List GuestEntry) : (s.withTable t).tick = s.tick := rfl
@[simp] theorem State.withTable_agingDue (s : State) (t : List GuestEntry) :
    (s.withTable t).agingDue = s.agingDue := rfl
@[simp] theorem State.withTable_links (s : State) (t : List GuestEntry) : (s.withTable t).links = s.links := rfl
@[simp] theorem State.withTable_egress (s : State) (t : List GuestEntry) : (s.withTable t).egress = s.egress := rfl
@[simp] theorem State.withTable_ports (s : State) (t : List GuestEntry) : (s.withTable t).ports = s.ports := rfl
@[simp] theorem State.withTable_office (s : State) (t : List GuestEntry) : (s.withTable t).office = s.office := rfl
@[simp] theorem State.withTable_classifier (s : State) (t : List GuestEntry) :
    (s.withTable t).classifier = s.classifier := rfl
@[simp] theorem State.withTable_uplink (s : State) (t : List GuestEntry) : (s.withTable t).uplink = s.uplink := rfl
@[simp] theorem State.withTable_meters (s : State) (t : List GuestEntry) : (s.withTable t).meters = s.meters := rfl
@[simp] theorem State.withTable_thresholds (s : State) (t : List GuestEntry) :
    (s.withTable t).thresholds = s.thresholds := rfl
@[simp] theorem State.withTable_guest (s : State) (t : List GuestEntry) :
    (s.withTable t).guest = { s.guest with table := t } := rfl
@[simp] theorem State.withTable_tills (s : State) (t : List GuestEntry) : (s.withTable t).tills = s.tills := rfl
@[simp] theorem State.withTable_tracker (s : State) (t : List GuestEntry) : (s.withTable t).tracker = s.tracker := rfl
@[simp] theorem State.withTable_journal (s : State) (t : List GuestEntry) : (s.withTable t).journal = s.journal := rfl
@[simp] theorem State.withTable_pool (s : State) (t : List GuestEntry) : (s.withTable t).pool = s.pool := rfl
@[simp] theorem State.withTable_night (s : State) (t : List GuestEntry) : (s.withTable t).night = s.night := rfl
@[simp] theorem State.withTable_label (s : State) (t : List GuestEntry) : (s.withTable t).label = s.label := rfl
@[simp] theorem State.withTable_clock (s : State) (t : List GuestEntry) : (s.withTable t).clock = s.clock := rfl
@[simp] theorem State.withTable_schedule (s : State) (t : List GuestEntry) :
    (s.withTable t).schedule = s.schedule := rfl
@[simp] theorem State.withTable_levels (s : State) (t : List GuestEntry) : (s.withTable t).levels = s.levels := rfl
@[simp] theorem State.withTable_counters (s : State) (t : List GuestEntry) :
    (s.withTable t).counters = s.counters := rfl
@[simp] theorem State.withTable_alerts (s : State) (t : List GuestEntry) : (s.withTable t).alerts = s.alerts := rfl
@[simp] theorem State.withTable_agent (s : State) (t : List GuestEntry) : (s.withTable t).agent = s.agent := rfl
@[simp] theorem State.withTable_freeSerial (s : State) (t : List GuestEntry) :
    (s.withTable t).freeSerial = s.freeSerial := rfl
@[simp] theorem State.withTable_pending (s : State) (t : List GuestEntry) : (s.withTable t).pending = s.pending := rfl

/-! ## setSlot -/

@[simp] theorem State.setSlot_station (s : State) (i : Fin 64) (x : Option OpenRequest) :
    (s.setSlot i x).station = s.station := rfl
@[simp] theorem State.setSlot_tick (s : State) (i : Fin 64) (x : Option OpenRequest) :
    (s.setSlot i x).tick = s.tick := rfl
@[simp] theorem State.setSlot_agingDue (s : State) (i : Fin 64) (x : Option OpenRequest) :
    (s.setSlot i x).agingDue = s.agingDue := rfl
@[simp] theorem State.setSlot_links (s : State) (i : Fin 64) (x : Option OpenRequest) :
    (s.setSlot i x).links = s.links := rfl
@[simp] theorem State.setSlot_egress (s : State) (i : Fin 64) (x : Option OpenRequest) :
    (s.setSlot i x).egress = s.egress := rfl
@[simp] theorem State.setSlot_ports (s : State) (i : Fin 64) (x : Option OpenRequest) :
    (s.setSlot i x).ports = s.ports := rfl
@[simp] theorem State.setSlot_office (s : State) (i : Fin 64) (x : Option OpenRequest) :
    (s.setSlot i x).office = s.office := rfl
@[simp] theorem State.setSlot_classifier (s : State) (i : Fin 64) (x : Option OpenRequest) :
    (s.setSlot i x).classifier = s.classifier := rfl
@[simp] theorem State.setSlot_uplink (s : State) (i : Fin 64) (x : Option OpenRequest) :
    (s.setSlot i x).uplink = s.uplink := rfl
@[simp] theorem State.setSlot_meters (s : State) (i : Fin 64) (x : Option OpenRequest) :
    (s.setSlot i x).meters = s.meters := rfl
@[simp] theorem State.setSlot_thresholds (s : State) (i : Fin 64) (x : Option OpenRequest) :
    (s.setSlot i x).thresholds = s.thresholds := rfl
@[simp] theorem State.setSlot_guest (s : State) (i : Fin 64) (x : Option OpenRequest) :
    (s.setSlot i x).guest = s.guest := rfl
@[simp] theorem State.setSlot_tills (s : State) (i : Fin 64) (x : Option OpenRequest) :
    (s.setSlot i x).tills = s.tills := rfl
@[simp] theorem State.setSlot_tracker (s : State) (i : Fin 64) (x : Option OpenRequest) :
    (s.setSlot i x).tracker = s.tracker.setSlot i x := rfl
@[simp] theorem State.setSlot_journal (s : State) (i : Fin 64) (x : Option OpenRequest) :
    (s.setSlot i x).journal = s.journal := rfl
@[simp] theorem State.setSlot_pool (s : State) (i : Fin 64) (x : Option OpenRequest) :
    (s.setSlot i x).pool = s.pool := rfl
@[simp] theorem State.setSlot_night (s : State) (i : Fin 64) (x : Option OpenRequest) :
    (s.setSlot i x).night = s.night := rfl
@[simp] theorem State.setSlot_label (s : State) (i : Fin 64) (x : Option OpenRequest) :
    (s.setSlot i x).label = s.label := rfl
@[simp] theorem State.setSlot_clock (s : State) (i : Fin 64) (x : Option OpenRequest) :
    (s.setSlot i x).clock = s.clock := rfl
@[simp] theorem State.setSlot_schedule (s : State) (i : Fin 64) (x : Option OpenRequest) :
    (s.setSlot i x).schedule = s.schedule := rfl
@[simp] theorem State.setSlot_levels (s : State) (i : Fin 64) (x : Option OpenRequest) :
    (s.setSlot i x).levels = s.levels := rfl
@[simp] theorem State.setSlot_counters (s : State) (i : Fin 64) (x : Option OpenRequest) :
    (s.setSlot i x).counters = s.counters := rfl
@[simp] theorem State.setSlot_alerts (s : State) (i : Fin 64) (x : Option OpenRequest) :
    (s.setSlot i x).alerts = s.alerts := rfl
@[simp] theorem State.setSlot_agent (s : State) (i : Fin 64) (x : Option OpenRequest) :
    (s.setSlot i x).agent = s.agent := rfl
@[simp] theorem State.setSlot_freeSerial (s : State) (i : Fin 64) (x : Option OpenRequest) :
    (s.setSlot i x).freeSerial = s.freeSerial := rfl
@[simp] theorem State.setSlot_pending (s : State) (i : Fin 64) (x : Option OpenRequest) :
    (s.setSlot i x).pending = s.pending := rfl

/-! ## withLastAccepted -/

@[simp] theorem State.withLastAccepted_station (s : State) (t : Fin 32) (n : Seq) :
    (s.withLastAccepted t n).station = s.station := rfl
@[simp] theorem State.withLastAccepted_tick (s : State) (t : Fin 32) (n : Seq) :
    (s.withLastAccepted t n).tick = s.tick := rfl
@[simp] theorem State.withLastAccepted_agingDue (s : State) (t : Fin 32) (n : Seq) :
    (s.withLastAccepted t n).agingDue = s.agingDue := rfl
@[simp] theorem State.withLastAccepted_links (s : State) (t : Fin 32) (n : Seq) :
    (s.withLastAccepted t n).links = s.links := rfl
@[simp] theorem State.withLastAccepted_egress (s : State) (t : Fin 32) (n : Seq) :
    (s.withLastAccepted t n).egress = s.egress := rfl
@[simp] theorem State.withLastAccepted_ports (s : State) (t : Fin 32) (n : Seq) :
    (s.withLastAccepted t n).ports = s.ports := rfl
@[simp] theorem State.withLastAccepted_office (s : State) (t : Fin 32) (n : Seq) :
    (s.withLastAccepted t n).office = s.office := rfl
@[simp] theorem State.withLastAccepted_classifier (s : State) (t : Fin 32) (n : Seq) :
    (s.withLastAccepted t n).classifier = s.classifier := rfl
@[simp] theorem State.withLastAccepted_uplink (s : State) (t : Fin 32) (n : Seq) :
    (s.withLastAccepted t n).uplink = s.uplink := rfl
@[simp] theorem State.withLastAccepted_meters (s : State) (t : Fin 32) (n : Seq) :
    (s.withLastAccepted t n).meters = s.meters := rfl
@[simp] theorem State.withLastAccepted_thresholds (s : State) (t : Fin 32) (n : Seq) :
    (s.withLastAccepted t n).thresholds = s.thresholds := rfl
@[simp] theorem State.withLastAccepted_guest (s : State) (t : Fin 32) (n : Seq) :
    (s.withLastAccepted t n).guest = s.guest := rfl
@[simp] theorem State.withLastAccepted_tills (s : State) (t : Fin 32) (n : Seq) :
    (s.withLastAccepted t n).tills = s.tills.set t { s.tills[t] with lastAccepted := some n } := rfl
@[simp] theorem State.withLastAccepted_tracker (s : State) (t : Fin 32) (n : Seq) :
    (s.withLastAccepted t n).tracker = s.tracker := rfl
@[simp] theorem State.withLastAccepted_journal (s : State) (t : Fin 32) (n : Seq) :
    (s.withLastAccepted t n).journal = s.journal := rfl
@[simp] theorem State.withLastAccepted_pool (s : State) (t : Fin 32) (n : Seq) :
    (s.withLastAccepted t n).pool = s.pool := rfl
@[simp] theorem State.withLastAccepted_night (s : State) (t : Fin 32) (n : Seq) :
    (s.withLastAccepted t n).night = s.night := rfl
@[simp] theorem State.withLastAccepted_label (s : State) (t : Fin 32) (n : Seq) :
    (s.withLastAccepted t n).label = s.label := rfl
@[simp] theorem State.withLastAccepted_clock (s : State) (t : Fin 32) (n : Seq) :
    (s.withLastAccepted t n).clock = s.clock := rfl
@[simp] theorem State.withLastAccepted_schedule (s : State) (t : Fin 32) (n : Seq) :
    (s.withLastAccepted t n).schedule = s.schedule := rfl
@[simp] theorem State.withLastAccepted_levels (s : State) (t : Fin 32) (n : Seq) :
    (s.withLastAccepted t n).levels = s.levels := rfl
@[simp] theorem State.withLastAccepted_counters (s : State) (t : Fin 32) (n : Seq) :
    (s.withLastAccepted t n).counters = s.counters := rfl
@[simp] theorem State.withLastAccepted_alerts (s : State) (t : Fin 32) (n : Seq) :
    (s.withLastAccepted t n).alerts = s.alerts := rfl
@[simp] theorem State.withLastAccepted_agent (s : State) (t : Fin 32) (n : Seq) :
    (s.withLastAccepted t n).agent = s.agent := rfl
@[simp] theorem State.withLastAccepted_freeSerial (s : State) (t : Fin 32) (n : Seq) :
    (s.withLastAccepted t n).freeSerial = s.freeSerial := rfl
@[simp] theorem State.withLastAccepted_pending (s : State) (t : Fin 32) (n : Seq) :
    (s.withLastAccepted t n).pending = s.pending := rfl

/-! ## recordsTaken -/

@[simp] theorem State.recordsTaken_station (s : State) : s.recordsTaken.station = s.station := rfl
@[simp] theorem State.recordsTaken_tick (s : State) : s.recordsTaken.tick = s.tick := rfl
@[simp] theorem State.recordsTaken_agingDue (s : State) : s.recordsTaken.agingDue = s.agingDue := rfl
@[simp] theorem State.recordsTaken_links (s : State) : s.recordsTaken.links = s.links := rfl
@[simp] theorem State.recordsTaken_egress (s : State) : s.recordsTaken.egress = s.egress := rfl
@[simp] theorem State.recordsTaken_ports (s : State) : s.recordsTaken.ports = s.ports := rfl
@[simp] theorem State.recordsTaken_office (s : State) : s.recordsTaken.office = s.office := rfl
@[simp] theorem State.recordsTaken_classifier (s : State) : s.recordsTaken.classifier = s.classifier := rfl
@[simp] theorem State.recordsTaken_uplink (s : State) : s.recordsTaken.uplink = s.uplink := rfl
@[simp] theorem State.recordsTaken_meters (s : State) : s.recordsTaken.meters = s.meters := rfl
@[simp] theorem State.recordsTaken_thresholds (s : State) : s.recordsTaken.thresholds = s.thresholds := rfl
@[simp] theorem State.recordsTaken_guest (s : State) : s.recordsTaken.guest = s.guest := rfl
@[simp] theorem State.recordsTaken_tills (s : State) : s.recordsTaken.tills = s.tills := rfl
@[simp] theorem State.recordsTaken_tracker (s : State) : s.recordsTaken.tracker = s.tracker := rfl
@[simp] theorem State.recordsTaken_journal (s : State) :
    s.recordsTaken.journal = { s.journal with nextToSend := s.journal.nextToSend + BitVec.ofNat 32 s.nextRecords.length } := rfl
@[simp] theorem State.recordsTaken_pool (s : State) : s.recordsTaken.pool = s.pool := rfl
@[simp] theorem State.recordsTaken_label (s : State) : s.recordsTaken.label = s.label := rfl
@[simp] theorem State.recordsTaken_clock (s : State) : s.recordsTaken.clock = s.clock := rfl
@[simp] theorem State.recordsTaken_schedule (s : State) : s.recordsTaken.schedule = s.schedule := rfl
@[simp] theorem State.recordsTaken_levels (s : State) : s.recordsTaken.levels = s.levels := rfl
@[simp] theorem State.recordsTaken_counters (s : State) : s.recordsTaken.counters = s.counters := rfl
@[simp] theorem State.recordsTaken_alerts (s : State) : s.recordsTaken.alerts = s.alerts := rfl
@[simp] theorem State.recordsTaken_agent (s : State) : s.recordsTaken.agent = s.agent := rfl
@[simp] theorem State.recordsTaken_freeSerial (s : State) : s.recordsTaken.freeSerial = s.freeSerial := rfl
@[simp] theorem State.recordsTaken_pending (s : State) : s.recordsTaken.pending = s.pending := rfl

/-! ## sentInFlight -/

@[simp] theorem State.sentInFlight_station (s : State) (u : LabelUpdate) :
    (s.sentInFlight u).station = s.station := rfl
@[simp] theorem State.sentInFlight_tick (s : State) (u : LabelUpdate) : (s.sentInFlight u).tick = s.tick := rfl
@[simp] theorem State.sentInFlight_agingDue (s : State) (u : LabelUpdate) :
    (s.sentInFlight u).agingDue = s.agingDue := rfl
@[simp] theorem State.sentInFlight_links (s : State) (u : LabelUpdate) : (s.sentInFlight u).links = s.links := rfl
@[simp] theorem State.sentInFlight_egress (s : State) (u : LabelUpdate) : (s.sentInFlight u).egress = s.egress := rfl
@[simp] theorem State.sentInFlight_ports (s : State) (u : LabelUpdate) : (s.sentInFlight u).ports = s.ports := rfl
@[simp] theorem State.sentInFlight_office (s : State) (u : LabelUpdate) : (s.sentInFlight u).office = s.office := rfl
@[simp] theorem State.sentInFlight_classifier (s : State) (u : LabelUpdate) :
    (s.sentInFlight u).classifier = s.classifier := rfl
@[simp] theorem State.sentInFlight_uplink (s : State) (u : LabelUpdate) : (s.sentInFlight u).uplink = s.uplink := rfl
@[simp] theorem State.sentInFlight_meters (s : State) (u : LabelUpdate) : (s.sentInFlight u).meters = s.meters := rfl
@[simp] theorem State.sentInFlight_thresholds (s : State) (u : LabelUpdate) :
    (s.sentInFlight u).thresholds = s.thresholds := rfl
@[simp] theorem State.sentInFlight_guest (s : State) (u : LabelUpdate) : (s.sentInFlight u).guest = s.guest := rfl
@[simp] theorem State.sentInFlight_tills (s : State) (u : LabelUpdate) : (s.sentInFlight u).tills = s.tills := rfl
@[simp] theorem State.sentInFlight_tracker (s : State) (u : LabelUpdate) :
    (s.sentInFlight u).tracker = s.tracker := rfl
@[simp] theorem State.sentInFlight_journal (s : State) (u : LabelUpdate) :
    (s.sentInFlight u).journal = s.journal := rfl
@[simp] theorem State.sentInFlight_pool (s : State) (u : LabelUpdate) : (s.sentInFlight u).pool = s.pool := rfl
@[simp] theorem State.sentInFlight_night (s : State) (u : LabelUpdate) : (s.sentInFlight u).night = s.night := rfl
@[simp] theorem State.sentInFlight_clock (s : State) (u : LabelUpdate) : (s.sentInFlight u).clock = s.clock := rfl
@[simp] theorem State.sentInFlight_schedule (s : State) (u : LabelUpdate) :
    (s.sentInFlight u).schedule = s.schedule := rfl
@[simp] theorem State.sentInFlight_levels (s : State) (u : LabelUpdate) : (s.sentInFlight u).levels = s.levels := rfl
@[simp] theorem State.sentInFlight_counters (s : State) (u : LabelUpdate) :
    (s.sentInFlight u).counters = s.counters := rfl
@[simp] theorem State.sentInFlight_alerts (s : State) (u : LabelUpdate) : (s.sentInFlight u).alerts = s.alerts := rfl
@[simp] theorem State.sentInFlight_agent (s : State) (u : LabelUpdate) : (s.sentInFlight u).agent = s.agent := rfl
@[simp] theorem State.sentInFlight_freeSerial (s : State) (u : LabelUpdate) :
    (s.sentInFlight u).freeSerial = s.freeSerial := rfl
@[simp] theorem State.sentInFlight_pending (s : State) (u : LabelUpdate) :
    (s.sentInFlight u).pending = s.pending := rfl

/-! ## landed -/

@[simp] theorem State.landed_station (s : State) (n : BitVec 24) : (s.landed n).station = s.station := rfl
@[simp] theorem State.landed_tick (s : State) (n : BitVec 24) : (s.landed n).tick = s.tick := rfl
@[simp] theorem State.landed_agingDue (s : State) (n : BitVec 24) : (s.landed n).agingDue = s.agingDue := rfl
@[simp] theorem State.landed_links (s : State) (n : BitVec 24) : (s.landed n).links = s.links := rfl
@[simp] theorem State.landed_egress (s : State) (n : BitVec 24) : (s.landed n).egress = s.egress := rfl
@[simp] theorem State.landed_ports (s : State) (n : BitVec 24) : (s.landed n).ports = s.ports := rfl
@[simp] theorem State.landed_office (s : State) (n : BitVec 24) : (s.landed n).office = s.office := rfl
@[simp] theorem State.landed_classifier (s : State) (n : BitVec 24) : (s.landed n).classifier = s.classifier := rfl
@[simp] theorem State.landed_uplink (s : State) (n : BitVec 24) : (s.landed n).uplink = s.uplink := rfl
@[simp] theorem State.landed_meters (s : State) (n : BitVec 24) : (s.landed n).meters = s.meters := rfl
@[simp] theorem State.landed_thresholds (s : State) (n : BitVec 24) : (s.landed n).thresholds = s.thresholds := rfl
@[simp] theorem State.landed_guest (s : State) (n : BitVec 24) : (s.landed n).guest = s.guest := rfl
@[simp] theorem State.landed_tills (s : State) (n : BitVec 24) : (s.landed n).tills = s.tills := rfl
@[simp] theorem State.landed_tracker (s : State) (n : BitVec 24) : (s.landed n).tracker = s.tracker := rfl
@[simp] theorem State.landed_journal (s : State) (n : BitVec 24) : (s.landed n).journal = s.journal := rfl
@[simp] theorem State.landed_pool (s : State) (n : BitVec 24) : (s.landed n).pool = s.pool := rfl
@[simp] theorem State.landed_night (s : State) (n : BitVec 24) : (s.landed n).night = s.night := rfl
@[simp] theorem State.landed_label (s : State) (n : BitVec 24) :
    (s.landed n).label = { s.label with inFlight := s.label.inFlight.eraseP (·.number == n) } := rfl
@[simp] theorem State.landed_clock (s : State) (n : BitVec 24) : (s.landed n).clock = s.clock := rfl
@[simp] theorem State.landed_schedule (s : State) (n : BitVec 24) : (s.landed n).schedule = s.schedule := rfl
@[simp] theorem State.landed_levels (s : State) (n : BitVec 24) : (s.landed n).levels = s.levels := rfl
@[simp] theorem State.landed_counters (s : State) (n : BitVec 24) : (s.landed n).counters = s.counters := rfl
@[simp] theorem State.landed_alerts (s : State) (n : BitVec 24) : (s.landed n).alerts = s.alerts := rfl
@[simp] theorem State.landed_agent (s : State) (n : BitVec 24) : (s.landed n).agent = s.agent := rfl
@[simp] theorem State.landed_freeSerial (s : State) (n : BitVec 24) : (s.landed n).freeSerial = s.freeSerial := rfl
@[simp] theorem State.landed_pending (s : State) (n : BitVec 24) : (s.landed n).pending = s.pending := rfl

/-! ## withPorts -/

@[simp] theorem State.withPorts_station (s : State) (p : PortSettings) : (s.withPorts p).station = s.station := rfl
@[simp] theorem State.withPorts_tick (s : State) (p : PortSettings) : (s.withPorts p).tick = s.tick := rfl
@[simp] theorem State.withPorts_agingDue (s : State) (p : PortSettings) : (s.withPorts p).agingDue = s.agingDue := rfl
@[simp] theorem State.withPorts_links (s : State) (p : PortSettings) : (s.withPorts p).links = s.links := rfl
@[simp] theorem State.withPorts_egress (s : State) (p : PortSettings) : (s.withPorts p).egress = s.egress := rfl
@[simp] theorem State.withPorts_ports (s : State) (p : PortSettings) : (s.withPorts p).ports = p := rfl
@[simp] theorem State.withPorts_office (s : State) (p : PortSettings) : (s.withPorts p).office = s.office := rfl
@[simp] theorem State.withPorts_classifier (s : State) (p : PortSettings) :
    (s.withPorts p).classifier = s.classifier := rfl
@[simp] theorem State.withPorts_uplink (s : State) (p : PortSettings) : (s.withPorts p).uplink = s.uplink := rfl
@[simp] theorem State.withPorts_meters (s : State) (p : PortSettings) : (s.withPorts p).meters = s.meters := rfl
@[simp] theorem State.withPorts_thresholds (s : State) (p : PortSettings) :
    (s.withPorts p).thresholds = s.thresholds := rfl
@[simp] theorem State.withPorts_guest (s : State) (p : PortSettings) : (s.withPorts p).guest = s.guest := rfl
@[simp] theorem State.withPorts_tills (s : State) (p : PortSettings) : (s.withPorts p).tills = s.tills := rfl
@[simp] theorem State.withPorts_tracker (s : State) (p : PortSettings) : (s.withPorts p).tracker = s.tracker := rfl
@[simp] theorem State.withPorts_journal (s : State) (p : PortSettings) : (s.withPorts p).journal = s.journal := rfl
@[simp] theorem State.withPorts_pool (s : State) (p : PortSettings) : (s.withPorts p).pool = s.pool := rfl
@[simp] theorem State.withPorts_night (s : State) (p : PortSettings) : (s.withPorts p).night = s.night := rfl
@[simp] theorem State.withPorts_label (s : State) (p : PortSettings) : (s.withPorts p).label = s.label := rfl
@[simp] theorem State.withPorts_clock (s : State) (p : PortSettings) : (s.withPorts p).clock = s.clock := rfl
@[simp] theorem State.withPorts_schedule (s : State) (p : PortSettings) : (s.withPorts p).schedule = s.schedule := rfl
@[simp] theorem State.withPorts_levels (s : State) (p : PortSettings) : (s.withPorts p).levels = s.levels := rfl
@[simp] theorem State.withPorts_counters (s : State) (p : PortSettings) : (s.withPorts p).counters = s.counters := rfl
@[simp] theorem State.withPorts_agent (s : State) (p : PortSettings) : (s.withPorts p).agent = s.agent := rfl
@[simp] theorem State.withPorts_freeSerial (s : State) (p : PortSettings) :
    (s.withPorts p).freeSerial = s.freeSerial := rfl
@[simp] theorem State.withPorts_pending (s : State) (p : PortSettings) : (s.withPorts p).pending = s.pending := rfl

/-! ## withBank -/

@[simp] theorem State.withBank_station (s : State) (i : BankId) (b : Bank) :
    (s.withBank i b).station = s.station := rfl
@[simp] theorem State.withBank_tick (s : State) (i : BankId) (b : Bank) : (s.withBank i b).tick = s.tick := rfl
@[simp] theorem State.withBank_agingDue (s : State) (i : BankId) (b : Bank) :
    (s.withBank i b).agingDue = s.agingDue := rfl
@[simp] theorem State.withBank_links (s : State) (i : BankId) (b : Bank) : (s.withBank i b).links = s.links := rfl
@[simp] theorem State.withBank_egress (s : State) (i : BankId) (b : Bank) : (s.withBank i b).egress = s.egress := rfl
@[simp] theorem State.withBank_ports (s : State) (i : BankId) (b : Bank) : (s.withBank i b).ports = s.ports := rfl
@[simp] theorem State.withBank_office (s : State) (i : BankId) (b : Bank) : (s.withBank i b).office = s.office := rfl
@[simp] theorem State.withBank_classifier (s : State) (i : BankId) (b : Bank) :
    (s.withBank i b).classifier = s.classifier.setBank i b := rfl
@[simp] theorem State.withBank_uplink (s : State) (i : BankId) (b : Bank) : (s.withBank i b).uplink = s.uplink := rfl
@[simp] theorem State.withBank_meters (s : State) (i : BankId) (b : Bank) : (s.withBank i b).meters = s.meters := rfl
@[simp] theorem State.withBank_thresholds (s : State) (i : BankId) (b : Bank) :
    (s.withBank i b).thresholds = s.thresholds := rfl
@[simp] theorem State.withBank_guest (s : State) (i : BankId) (b : Bank) : (s.withBank i b).guest = s.guest := rfl
@[simp] theorem State.withBank_tills (s : State) (i : BankId) (b : Bank) : (s.withBank i b).tills = s.tills := rfl
@[simp] theorem State.withBank_tracker (s : State) (i : BankId) (b : Bank) :
    (s.withBank i b).tracker = s.tracker := rfl
@[simp] theorem State.withBank_journal (s : State) (i : BankId) (b : Bank) :
    (s.withBank i b).journal = s.journal := rfl
@[simp] theorem State.withBank_pool (s : State) (i : BankId) (b : Bank) : (s.withBank i b).pool = s.pool := rfl
@[simp] theorem State.withBank_night (s : State) (i : BankId) (b : Bank) : (s.withBank i b).night = s.night := rfl
@[simp] theorem State.withBank_label (s : State) (i : BankId) (b : Bank) : (s.withBank i b).label = s.label := rfl
@[simp] theorem State.withBank_clock (s : State) (i : BankId) (b : Bank) : (s.withBank i b).clock = s.clock := rfl
@[simp] theorem State.withBank_schedule (s : State) (i : BankId) (b : Bank) :
    (s.withBank i b).schedule = s.schedule := rfl
@[simp] theorem State.withBank_levels (s : State) (i : BankId) (b : Bank) : (s.withBank i b).levels = s.levels := rfl
@[simp] theorem State.withBank_counters (s : State) (i : BankId) (b : Bank) :
    (s.withBank i b).counters = s.counters := rfl
@[simp] theorem State.withBank_alerts (s : State) (i : BankId) (b : Bank) : (s.withBank i b).alerts = s.alerts := rfl
@[simp] theorem State.withBank_agent (s : State) (i : BankId) (b : Bank) : (s.withBank i b).agent = s.agent := rfl
@[simp] theorem State.withBank_freeSerial (s : State) (i : BankId) (b : Bank) :
    (s.withBank i b).freeSerial = s.freeSerial := rfl
@[simp] theorem State.withBank_pending (s : State) (i : BankId) (b : Bank) :
    (s.withBank i b).pending = s.pending := rfl

/-! ## withCursor -/

@[simp] theorem State.withCursor_station (s : State) (p : Party) (c : Cursor) :
    (s.withCursor p c).station = s.station := by cases p <;> rfl
@[simp] theorem State.withCursor_tick (s : State) (p : Party) (c : Cursor) :
    (s.withCursor p c).tick = s.tick := by cases p <;> rfl
@[simp] theorem State.withCursor_agingDue (s : State) (p : Party) (c : Cursor) :
    (s.withCursor p c).agingDue = s.agingDue := by cases p <;> rfl
@[simp] theorem State.withCursor_links (s : State) (p : Party) (c : Cursor) :
    (s.withCursor p c).links = s.links := by cases p <;> rfl
@[simp] theorem State.withCursor_egress (s : State) (p : Party) (c : Cursor) :
    (s.withCursor p c).egress = s.egress := by cases p <;> rfl
@[simp] theorem State.withCursor_ports (s : State) (p : Party) (c : Cursor) :
    (s.withCursor p c).ports = s.ports := by cases p <;> rfl
@[simp] theorem State.withCursor_office (s : State) (p : Party) (c : Cursor) :
    (s.withCursor p c).office = s.office := by cases p <;> rfl
@[simp] theorem State.withCursor_classifier (s : State) (p : Party) (c : Cursor) :
    (s.withCursor p c).classifier = s.classifier := by cases p <;> rfl
@[simp] theorem State.withCursor_uplink (s : State) (p : Party) (c : Cursor) :
    (s.withCursor p c).uplink = s.uplink := by cases p <;> rfl
@[simp] theorem State.withCursor_meters (s : State) (p : Party) (c : Cursor) :
    (s.withCursor p c).meters = s.meters := by cases p <;> rfl
@[simp] theorem State.withCursor_thresholds (s : State) (p : Party) (c : Cursor) :
    (s.withCursor p c).thresholds = s.thresholds := by cases p <;> rfl
@[simp] theorem State.withCursor_guest (s : State) (p : Party) (c : Cursor) :
    (s.withCursor p c).guest = s.guest := by cases p <;> rfl
@[simp] theorem State.withCursor_tills (s : State) (p : Party) (c : Cursor) :
    (s.withCursor p c).tills = s.tills := by cases p <;> rfl
@[simp] theorem State.withCursor_tracker (s : State) (p : Party) (c : Cursor) :
    (s.withCursor p c).tracker = s.tracker := by cases p <;> rfl
@[simp] theorem State.withCursor_journal (s : State) (p : Party) (c : Cursor) :
    (s.withCursor p c).journal = s.journal := by cases p <;> rfl
@[simp] theorem State.withCursor_pool (s : State) (p : Party) (c : Cursor) :
    (s.withCursor p c).pool = s.pool := by cases p <;> rfl
@[simp] theorem State.withCursor_night (s : State) (p : Party) (c : Cursor) :
    (s.withCursor p c).night = s.night := by cases p <;> rfl
@[simp] theorem State.withCursor_label (s : State) (p : Party) (c : Cursor) :
    (s.withCursor p c).label = s.label := by cases p <;> rfl
@[simp] theorem State.withCursor_clock (s : State) (p : Party) (c : Cursor) :
    (s.withCursor p c).clock = s.clock := by cases p <;> rfl
@[simp] theorem State.withCursor_schedule (s : State) (p : Party) (c : Cursor) :
    (s.withCursor p c).schedule = s.schedule := by cases p <;> rfl
@[simp] theorem State.withCursor_levels (s : State) (p : Party) (c : Cursor) :
    (s.withCursor p c).levels = s.levels := by cases p <;> rfl
@[simp] theorem State.withCursor_counters (s : State) (p : Party) (c : Cursor) :
    (s.withCursor p c).counters = s.counters := by cases p <;> rfl
@[simp] theorem State.withCursor_alerts (s : State) (p : Party) (c : Cursor) :
    (s.withCursor p c).alerts = s.alerts := by cases p <;> rfl
@[simp] theorem State.withCursor_freeSerial (s : State) (p : Party) (c : Cursor) :
    (s.withCursor p c).freeSerial = s.freeSerial := by cases p <;> rfl
@[simp] theorem State.withCursor_pending (s : State) (p : Party) (c : Cursor) :
    (s.withCursor p c).pending = s.pending := by cases p <;> rfl

/-! ## withPart -/

@[simp] theorem State.withPart_station (s : State) (p : PartState) : (s.withPart p).station = s.station := rfl
@[simp] theorem State.withPart_tick (s : State) (p : PartState) : (s.withPart p).tick = s.tick := rfl
@[simp] theorem State.withPart_agingDue (s : State) (p : PartState) : (s.withPart p).agingDue = s.agingDue := rfl
@[simp] theorem State.withPart_links (s : State) (p : PartState) : (s.withPart p).links = s.links := rfl
@[simp] theorem State.withPart_egress (s : State) (p : PartState) : (s.withPart p).egress = s.egress := rfl
@[simp] theorem State.withPart_ports (s : State) (p : PartState) : (s.withPart p).ports = s.ports := rfl
@[simp] theorem State.withPart_office (s : State) (p : PartState) : (s.withPart p).office = s.office := rfl
@[simp] theorem State.withPart_classifier (s : State) (p : PartState) :
    (s.withPart p).classifier = s.classifier := rfl
@[simp] theorem State.withPart_uplink (s : State) (p : PartState) : (s.withPart p).uplink = s.uplink := rfl
@[simp] theorem State.withPart_meters (s : State) (p : PartState) : (s.withPart p).meters = s.meters := rfl
@[simp] theorem State.withPart_thresholds (s : State) (p : PartState) :
    (s.withPart p).thresholds = s.thresholds := rfl
@[simp] theorem State.withPart_guest (s : State) (p : PartState) : (s.withPart p).guest = s.guest := rfl
@[simp] theorem State.withPart_tills (s : State) (p : PartState) : (s.withPart p).tills = s.tills := rfl
@[simp] theorem State.withPart_tracker (s : State) (p : PartState) : (s.withPart p).tracker = s.tracker := rfl
@[simp] theorem State.withPart_journal (s : State) (p : PartState) : (s.withPart p).journal = s.journal := rfl
@[simp] theorem State.withPart_pool (s : State) (p : PartState) : (s.withPart p).pool = s.pool := rfl
@[simp] theorem State.withPart_night (s : State) (p : PartState) : (s.withPart p).night = s.night := rfl
@[simp] theorem State.withPart_label (s : State) (p : PartState) : (s.withPart p).label = s.label := rfl
@[simp] theorem State.withPart_clock (s : State) (p : PartState) : (s.withPart p).clock = s.clock := rfl
@[simp] theorem State.withPart_schedule (s : State) (p : PartState) : (s.withPart p).schedule = s.schedule := rfl
@[simp] theorem State.withPart_levels (s : State) (p : PartState) : (s.withPart p).levels = s.levels := rfl
@[simp] theorem State.withPart_counters (s : State) (p : PartState) : (s.withPart p).counters = s.counters := rfl
@[simp] theorem State.withPart_alerts (s : State) (p : PartState) : (s.withPart p).alerts = s.alerts := rfl
@[simp] theorem State.withPart_agent (s : State) (p : PartState) :
    (s.withPart p).agent = { s.agent with partState := p } := rfl
@[simp] theorem State.withPart_freeSerial (s : State) (p : PartState) :
    (s.withPart p).freeSerial = s.freeSerial := rfl
@[simp] theorem State.withPart_pending (s : State) (p : PartState) : (s.withPart p).pending = s.pending := rfl

/-! ## withEgress -/

@[simp] theorem State.withEgress_station (s : State) (p : EgressPort) (q : List Frame) :
    (s.withEgress p q).station = s.station := rfl
@[simp] theorem State.withEgress_tick (s : State) (p : EgressPort) (q : List Frame) :
    (s.withEgress p q).tick = s.tick := rfl
@[simp] theorem State.withEgress_agingDue (s : State) (p : EgressPort) (q : List Frame) :
    (s.withEgress p q).agingDue = s.agingDue := rfl
@[simp] theorem State.withEgress_links (s : State) (p : EgressPort) (q : List Frame) :
    (s.withEgress p q).links = s.links := rfl
@[simp] theorem State.withEgress_egress (s : State) (p : EgressPort) (q : List Frame) :
    (s.withEgress p q).egress = s.egress.set p q := rfl
@[simp] theorem State.withEgress_ports (s : State) (p : EgressPort) (q : List Frame) :
    (s.withEgress p q).ports = s.ports := rfl
@[simp] theorem State.withEgress_office (s : State) (p : EgressPort) (q : List Frame) :
    (s.withEgress p q).office = s.office := rfl
@[simp] theorem State.withEgress_classifier (s : State) (p : EgressPort) (q : List Frame) :
    (s.withEgress p q).classifier = s.classifier := rfl
@[simp] theorem State.withEgress_uplink (s : State) (p : EgressPort) (q : List Frame) :
    (s.withEgress p q).uplink = s.uplink := rfl
@[simp] theorem State.withEgress_meters (s : State) (p : EgressPort) (q : List Frame) :
    (s.withEgress p q).meters = s.meters := rfl
@[simp] theorem State.withEgress_thresholds (s : State) (p : EgressPort) (q : List Frame) :
    (s.withEgress p q).thresholds = s.thresholds := rfl
@[simp] theorem State.withEgress_guest (s : State) (p : EgressPort) (q : List Frame) :
    (s.withEgress p q).guest = s.guest := rfl
@[simp] theorem State.withEgress_tills (s : State) (p : EgressPort) (q : List Frame) :
    (s.withEgress p q).tills = s.tills := rfl
@[simp] theorem State.withEgress_tracker (s : State) (p : EgressPort) (q : List Frame) :
    (s.withEgress p q).tracker = s.tracker := rfl
@[simp] theorem State.withEgress_journal (s : State) (p : EgressPort) (q : List Frame) :
    (s.withEgress p q).journal = s.journal := rfl
@[simp] theorem State.withEgress_pool (s : State) (p : EgressPort) (q : List Frame) :
    (s.withEgress p q).pool = s.pool := rfl
@[simp] theorem State.withEgress_night (s : State) (p : EgressPort) (q : List Frame) :
    (s.withEgress p q).night = s.night := rfl
@[simp] theorem State.withEgress_label (s : State) (p : EgressPort) (q : List Frame) :
    (s.withEgress p q).label = s.label := rfl
@[simp] theorem State.withEgress_clock (s : State) (p : EgressPort) (q : List Frame) :
    (s.withEgress p q).clock = s.clock := rfl
@[simp] theorem State.withEgress_schedule (s : State) (p : EgressPort) (q : List Frame) :
    (s.withEgress p q).schedule = s.schedule := rfl
@[simp] theorem State.withEgress_levels (s : State) (p : EgressPort) (q : List Frame) :
    (s.withEgress p q).levels = s.levels := rfl
@[simp] theorem State.withEgress_counters (s : State) (p : EgressPort) (q : List Frame) :
    (s.withEgress p q).counters = s.counters := rfl
@[simp] theorem State.withEgress_alerts (s : State) (p : EgressPort) (q : List Frame) :
    (s.withEgress p q).alerts = s.alerts := rfl
@[simp] theorem State.withEgress_agent (s : State) (p : EgressPort) (q : List Frame) :
    (s.withEgress p q).agent = s.agent := rfl
@[simp] theorem State.withEgress_freeSerial (s : State) (p : EgressPort) (q : List Frame) :
    (s.withEgress p q).freeSerial = s.freeSerial := rfl
@[simp] theorem State.withEgress_pending (s : State) (p : EgressPort) (q : List Frame) :
    (s.withEgress p q).pending = s.pending := rfl

/-! ## uplinkEmptied -/

@[simp] theorem State.uplinkEmptied_station (s : State) : s.uplinkEmptied.station = s.station := rfl
@[simp] theorem State.uplinkEmptied_tick (s : State) : s.uplinkEmptied.tick = s.tick := rfl
@[simp] theorem State.uplinkEmptied_agingDue (s : State) : s.uplinkEmptied.agingDue = s.agingDue := rfl
@[simp] theorem State.uplinkEmptied_links (s : State) : s.uplinkEmptied.links = s.links := rfl
@[simp] theorem State.uplinkEmptied_egress (s : State) : s.uplinkEmptied.egress = s.egress := rfl
@[simp] theorem State.uplinkEmptied_ports (s : State) : s.uplinkEmptied.ports = s.ports := rfl
@[simp] theorem State.uplinkEmptied_office (s : State) : s.uplinkEmptied.office = s.office := rfl
@[simp] theorem State.uplinkEmptied_classifier (s : State) : s.uplinkEmptied.classifier = s.classifier := rfl
@[simp] theorem State.uplinkEmptied_uplink (s : State) : s.uplinkEmptied.uplink = s.uplink.emptied := rfl
@[simp] theorem State.uplinkEmptied_meters (s : State) : s.uplinkEmptied.meters = s.meters := rfl
@[simp] theorem State.uplinkEmptied_thresholds (s : State) : s.uplinkEmptied.thresholds = s.thresholds := rfl
@[simp] theorem State.uplinkEmptied_guest (s : State) : s.uplinkEmptied.guest = s.guest := rfl
@[simp] theorem State.uplinkEmptied_tills (s : State) : s.uplinkEmptied.tills = s.tills := rfl
@[simp] theorem State.uplinkEmptied_tracker (s : State) : s.uplinkEmptied.tracker = s.tracker := rfl
@[simp] theorem State.uplinkEmptied_journal (s : State) : s.uplinkEmptied.journal = s.journal := rfl
@[simp] theorem State.uplinkEmptied_pool (s : State) : s.uplinkEmptied.pool = s.pool := rfl
@[simp] theorem State.uplinkEmptied_night (s : State) : s.uplinkEmptied.night = s.night := rfl
@[simp] theorem State.uplinkEmptied_label (s : State) : s.uplinkEmptied.label = s.label := rfl
@[simp] theorem State.uplinkEmptied_clock (s : State) : s.uplinkEmptied.clock = s.clock := rfl
@[simp] theorem State.uplinkEmptied_schedule (s : State) : s.uplinkEmptied.schedule = s.schedule := rfl
@[simp] theorem State.uplinkEmptied_levels (s : State) : s.uplinkEmptied.levels = s.levels := rfl
@[simp] theorem State.uplinkEmptied_counters (s : State) : s.uplinkEmptied.counters = s.counters := rfl
@[simp] theorem State.uplinkEmptied_alerts (s : State) : s.uplinkEmptied.alerts = s.alerts := rfl
@[simp] theorem State.uplinkEmptied_agent (s : State) : s.uplinkEmptied.agent = s.agent := rfl
@[simp] theorem State.uplinkEmptied_freeSerial (s : State) : s.uplinkEmptied.freeSerial = s.freeSerial := rfl
@[simp] theorem State.uplinkEmptied_pending (s : State) : s.uplinkEmptied.pending = s.pending := rfl

/-! ## flushed -/

@[simp] theorem State.flushed_station (s : State) : s.flushed.station = s.station := rfl
@[simp] theorem State.flushed_tick (s : State) : s.flushed.tick = s.tick := rfl
@[simp] theorem State.flushed_agingDue (s : State) : s.flushed.agingDue = s.agingDue := rfl
@[simp] theorem State.flushed_links (s : State) : s.flushed.links = s.links := rfl
@[simp] theorem State.flushed_egress (s : State) : s.flushed.egress = ⟨[], [], [], []⟩ := rfl
@[simp] theorem State.flushed_ports (s : State) : s.flushed.ports = s.ports := rfl
@[simp] theorem State.flushed_office (s : State) : s.flushed.office = s.office := rfl
@[simp] theorem State.flushed_classifier (s : State) : s.flushed.classifier = s.classifier := rfl
@[simp] theorem State.flushed_uplink (s : State) : s.flushed.uplink = s.uplink.emptied := rfl
@[simp] theorem State.flushed_meters (s : State) : s.flushed.meters = s.meters := rfl
@[simp] theorem State.flushed_thresholds (s : State) : s.flushed.thresholds = s.thresholds := rfl
@[simp] theorem State.flushed_guest (s : State) : s.flushed.guest = s.guest := rfl
@[simp] theorem State.flushed_tills (s : State) : s.flushed.tills = s.tills := rfl
@[simp] theorem State.flushed_tracker (s : State) : s.flushed.tracker = s.tracker := rfl
@[simp] theorem State.flushed_journal (s : State) : s.flushed.journal = s.journal := rfl
@[simp] theorem State.flushed_pool (s : State) : s.flushed.pool = s.pool := rfl
@[simp] theorem State.flushed_night (s : State) : s.flushed.night = s.night := rfl
@[simp] theorem State.flushed_label (s : State) : s.flushed.label = s.label := rfl
@[simp] theorem State.flushed_clock (s : State) : s.flushed.clock = s.clock := rfl
@[simp] theorem State.flushed_schedule (s : State) : s.flushed.schedule = s.schedule := rfl
@[simp] theorem State.flushed_levels (s : State) : s.flushed.levels = s.levels := rfl
@[simp] theorem State.flushed_counters (s : State) : s.flushed.counters = s.counters := rfl
@[simp] theorem State.flushed_alerts (s : State) : s.flushed.alerts = s.alerts := rfl
@[simp] theorem State.flushed_agent (s : State) : s.flushed.agent = s.agent := rfl
@[simp] theorem State.flushed_freeSerial (s : State) : s.flushed.freeSerial = s.freeSerial := rfl
@[simp] theorem State.flushed_pending (s : State) : s.flushed.pending = s.pending := rfl

/-! ## renewLease -/

@[simp] theorem renewLease_station (s : State) : (renewLease s).station = s.station := rfl
@[simp] theorem renewLease_tick (s : State) : (renewLease s).tick = s.tick := rfl
@[simp] theorem renewLease_agingDue (s : State) : (renewLease s).agingDue = s.agingDue := rfl
@[simp] theorem renewLease_links (s : State) : (renewLease s).links = s.links := rfl
@[simp] theorem renewLease_egress (s : State) : (renewLease s).egress = s.egress := rfl
@[simp] theorem renewLease_ports (s : State) : (renewLease s).ports = s.ports := rfl
@[simp] theorem renewLease_office (s : State) : (renewLease s).office = s.office := rfl
@[simp] theorem renewLease_classifier (s : State) : (renewLease s).classifier = s.classifier := rfl
@[simp] theorem renewLease_uplink (s : State) : (renewLease s).uplink = s.uplink := rfl
@[simp] theorem renewLease_meters (s : State) : (renewLease s).meters = s.meters := rfl
@[simp] theorem renewLease_thresholds (s : State) : (renewLease s).thresholds = s.thresholds := rfl
@[simp] theorem renewLease_guest (s : State) : (renewLease s).guest = s.guest := rfl
@[simp] theorem renewLease_tills (s : State) : (renewLease s).tills = s.tills := rfl
@[simp] theorem renewLease_tracker (s : State) : (renewLease s).tracker = s.tracker := rfl
@[simp] theorem renewLease_journal (s : State) : (renewLease s).journal = s.journal := rfl
@[simp] theorem renewLease_pool (s : State) : (renewLease s).pool = s.pool := rfl
@[simp] theorem renewLease_night (s : State) : (renewLease s).night = s.night := rfl
@[simp] theorem renewLease_label (s : State) : (renewLease s).label = s.label := rfl
@[simp] theorem renewLease_clock (s : State) : (renewLease s).clock = s.clock := rfl
@[simp] theorem renewLease_schedule (s : State) : (renewLease s).schedule = s.schedule := rfl
@[simp] theorem renewLease_levels (s : State) : (renewLease s).levels = s.levels := rfl
@[simp] theorem renewLease_counters (s : State) : (renewLease s).counters = s.counters := rfl
@[simp] theorem renewLease_alerts (s : State) : (renewLease s).alerts = s.alerts := rfl
@[simp] theorem renewLease_agent (s : State) :
    (renewLease s).agent = { s.agent with leaseTimer := s.timer (1000 * s.agent.lease) } := rfl
@[simp] theorem renewLease_freeSerial (s : State) : (renewLease s).freeSerial = s.freeSerial := rfl
@[simp] theorem renewLease_pending (s : State) : (renewLease s).pending = s.pending := rfl

/-! ## closeGuest -/

@[simp] theorem closeGuest_station (s : State) : (closeGuest s).station = s.station := rfl
@[simp] theorem closeGuest_tick (s : State) : (closeGuest s).tick = s.tick := rfl
@[simp] theorem closeGuest_agingDue (s : State) : (closeGuest s).agingDue = s.agingDue := rfl
@[simp] theorem closeGuest_links (s : State) : (closeGuest s).links = s.links := rfl
@[simp] theorem closeGuest_egress (s : State) : (closeGuest s).egress = s.egress := rfl
@[simp] theorem closeGuest_ports (s : State) : (closeGuest s).ports = s.ports := rfl
@[simp] theorem closeGuest_office (s : State) : (closeGuest s).office = s.office := rfl
@[simp] theorem closeGuest_classifier (s : State) : (closeGuest s).classifier = s.classifier := rfl
@[simp] theorem closeGuest_uplink (s : State) : (closeGuest s).uplink = s.uplink := rfl
@[simp] theorem closeGuest_meters (s : State) :
    (closeGuest s).meters = { s.meters with guest := { s.meters.guest with hold := [] } } := rfl
@[simp] theorem closeGuest_thresholds (s : State) : (closeGuest s).thresholds = s.thresholds := rfl
@[simp] theorem closeGuest_guest (s : State) : (closeGuest s).guest = { s.guest with table := [] } := rfl
@[simp] theorem closeGuest_tills (s : State) : (closeGuest s).tills = s.tills := rfl
@[simp] theorem closeGuest_tracker (s : State) : (closeGuest s).tracker = s.tracker := rfl
@[simp] theorem closeGuest_journal (s : State) : (closeGuest s).journal = s.journal := rfl
@[simp] theorem closeGuest_pool (s : State) : (closeGuest s).pool = s.pool := rfl
@[simp] theorem closeGuest_night (s : State) : (closeGuest s).night = s.night := rfl
@[simp] theorem closeGuest_label (s : State) : (closeGuest s).label = s.label := rfl
@[simp] theorem closeGuest_clock (s : State) : (closeGuest s).clock = s.clock := rfl
@[simp] theorem closeGuest_schedule (s : State) : (closeGuest s).schedule = s.schedule := rfl
@[simp] theorem closeGuest_levels (s : State) : (closeGuest s).levels = s.levels := rfl
@[simp] theorem closeGuest_counters (s : State) : (closeGuest s).counters = s.counters := rfl
@[simp] theorem closeGuest_alerts (s : State) : (closeGuest s).alerts = s.alerts := rfl
@[simp] theorem closeGuest_agent (s : State) : (closeGuest s).agent = s.agent := rfl
@[simp] theorem closeGuest_freeSerial (s : State) : (closeGuest s).freeSerial = s.freeSerial := rfl
@[simp] theorem closeGuest_pending (s : State) : (closeGuest s).pending = s.pending := rfl

/-! ## nightRestart -/

@[simp] theorem nightRestart_station (s : State) : (nightRestart s).station = s.station := rfl
@[simp] theorem nightRestart_tick (s : State) : (nightRestart s).tick = s.tick := rfl
@[simp] theorem nightRestart_agingDue (s : State) : (nightRestart s).agingDue = s.agingDue := rfl
@[simp] theorem nightRestart_links (s : State) : (nightRestart s).links = s.links := rfl
@[simp] theorem nightRestart_egress (s : State) : (nightRestart s).egress = s.egress := rfl
@[simp] theorem nightRestart_ports (s : State) : (nightRestart s).ports = s.ports := rfl
@[simp] theorem nightRestart_office (s : State) : (nightRestart s).office = s.office := rfl
@[simp] theorem nightRestart_classifier (s : State) : (nightRestart s).classifier = s.classifier := rfl
@[simp] theorem nightRestart_uplink (s : State) : (nightRestart s).uplink = s.uplink := rfl
@[simp] theorem nightRestart_meters (s : State) : (nightRestart s).meters = s.meters := rfl
@[simp] theorem nightRestart_thresholds (s : State) : (nightRestart s).thresholds = s.thresholds := rfl
@[simp] theorem nightRestart_guest (s : State) : (nightRestart s).guest = s.guest := rfl
@[simp] theorem nightRestart_tills (s : State) : (nightRestart s).tills = s.tills := rfl
@[simp] theorem nightRestart_tracker (s : State) : (nightRestart s).tracker = s.tracker := rfl
@[simp] theorem nightRestart_journal (s : State) :
    (nightRestart s).journal = { s.journal with nextToSend := s.journal.oldest } := rfl
@[simp] theorem nightRestart_pool (s : State) : (nightRestart s).pool = s.pool := rfl
@[simp] theorem nightRestart_night (s : State) :
    (nightRestart s).night = { s.night.enter .idle with attempts := 0, shortRetries := 0 } := rfl
@[simp] theorem nightRestart_label (s : State) : (nightRestart s).label = s.label := rfl
@[simp] theorem nightRestart_clock (s : State) : (nightRestart s).clock = s.clock := rfl
@[simp] theorem nightRestart_schedule (s : State) : (nightRestart s).schedule = s.schedule := rfl
@[simp] theorem nightRestart_levels (s : State) : (nightRestart s).levels = s.levels := rfl
@[simp] theorem nightRestart_counters (s : State) : (nightRestart s).counters = s.counters := rfl
@[simp] theorem nightRestart_alerts (s : State) : (nightRestart s).alerts = s.alerts := rfl
@[simp] theorem nightRestart_agent (s : State) : (nightRestart s).agent = s.agent := rfl
@[simp] theorem nightRestart_freeSerial (s : State) : (nightRestart s).freeSerial = s.freeSerial := rfl
@[simp] theorem nightRestart_pending (s : State) : (nightRestart s).pending = s.pending := rfl

/-! ## still -/

@[simp] theorem State.still_station (s : State) : s.still.station = s.station := rfl
@[simp] theorem State.still_tick (s : State) : s.still.tick = s.tick := rfl
@[simp] theorem State.still_agingDue (s : State) : s.still.agingDue = s.agingDue := rfl
@[simp] theorem State.still_links (s : State) : s.still.links = s.links := rfl
@[simp] theorem State.still_egress (s : State) : s.still.egress = ⟨[], [], [], []⟩ := rfl
@[simp] theorem State.still_ports (s : State) : s.still.ports = s.ports := rfl
@[simp] theorem State.still_office (s : State) : s.still.office = s.office := rfl
@[simp] theorem State.still_classifier (s : State) : s.still.classifier = s.classifier := rfl
@[simp] theorem State.still_uplink (s : State) : s.still.uplink = s.uplink.emptied := rfl
@[simp] theorem State.still_meters (s : State) : s.still.meters = s.meters := rfl
@[simp] theorem State.still_thresholds (s : State) : s.still.thresholds = s.thresholds := rfl
@[simp] theorem State.still_guest (s : State) : s.still.guest = s.guest := rfl
@[simp] theorem State.still_tills (s : State) : s.still.tills = s.tills := rfl
@[simp] theorem State.still_tracker (s : State) : s.still.tracker = s.tracker := rfl
@[simp] theorem State.still_journal (s : State) : s.still.journal = s.journal := rfl
@[simp] theorem State.still_pool (s : State) : s.still.pool = s.pool := rfl
@[simp] theorem State.still_night (s : State) : s.still.night = s.night := rfl
@[simp] theorem State.still_label (s : State) : s.still.label = s.label := rfl
@[simp] theorem State.still_clock (s : State) : s.still.clock = s.clock := rfl
@[simp] theorem State.still_schedule (s : State) : s.still.schedule = s.schedule := rfl
@[simp] theorem State.still_levels (s : State) : s.still.levels = s.levels := rfl
@[simp] theorem State.still_counters (s : State) : s.still.counters = s.counters.still := rfl
@[simp] theorem State.still_alerts (s : State) : s.still.alerts = s.alerts.still := rfl
@[simp] theorem State.still_agent (s : State) : s.still.agent = s.agent := rfl
@[simp] theorem State.still_freeSerial (s : State) : s.still.freeSerial = 0 := rfl
@[simp] theorem State.still_pending (s : State) : s.still.pending = s.pending := rfl

/-! ## quiet -/

@[simp] theorem State.quiet_station (s : State) : s.quiet.station = s.station := rfl
@[simp] theorem State.quiet_tick (s : State) : s.quiet.tick = s.tick := rfl
@[simp] theorem State.quiet_agingDue (s : State) : s.quiet.agingDue = s.agingDue := rfl
@[simp] theorem State.quiet_links (s : State) : s.quiet.links = s.links := rfl
@[simp] theorem State.quiet_egress (s : State) : s.quiet.egress = ⟨[], [], [], []⟩ := rfl
@[simp] theorem State.quiet_ports (s : State) : s.quiet.ports = s.ports := rfl
@[simp] theorem State.quiet_office (s : State) : s.quiet.office = s.office := rfl
@[simp] theorem State.quiet_classifier (s : State) : s.quiet.classifier = s.classifier := rfl
@[simp] theorem State.quiet_uplink (s : State) : s.quiet.uplink = s.uplink.emptied := rfl
@[simp] theorem State.quiet_meters (s : State) : s.quiet.meters = s.meters := rfl
@[simp] theorem State.quiet_guest (s : State) : s.quiet.guest = s.guest := rfl
@[simp] theorem State.quiet_tills (s : State) : s.quiet.tills = s.tills := rfl
@[simp] theorem State.quiet_tracker (s : State) : s.quiet.tracker = s.tracker := rfl
@[simp] theorem State.quiet_journal (s : State) : s.quiet.journal = s.journal := rfl
@[simp] theorem State.quiet_pool (s : State) : s.quiet.pool = s.pool := rfl
@[simp] theorem State.quiet_night (s : State) : s.quiet.night = s.night := rfl
@[simp] theorem State.quiet_label (s : State) : s.quiet.label = s.label := rfl
@[simp] theorem State.quiet_clock (s : State) : s.quiet.clock = s.clock := rfl
@[simp] theorem State.quiet_schedule (s : State) : s.quiet.schedule = s.schedule := rfl
@[simp] theorem State.quiet_levels (s : State) : s.quiet.levels = s.levels := rfl
@[simp] theorem State.quiet_counters (s : State) : s.quiet.counters = s.counters.still := rfl
@[simp] theorem State.quiet_alerts (s : State) : s.quiet.alerts = s.alerts.still := rfl
@[simp] theorem State.quiet_agent (s : State) : s.quiet.agent = s.agent := rfl
@[simp] theorem State.quiet_freeSerial (s : State) : s.quiet.freeSerial = 0 := rfl
@[simp] theorem State.quiet_pending (s : State) : s.quiet.pending = s.pending := rfl

/-! ## answered -/

@[simp] theorem State.answered_station (s : State) : s.answered.station = s.station := rfl
@[simp] theorem State.answered_tick (s : State) : s.answered.tick = s.tick := rfl
@[simp] theorem State.answered_agingDue (s : State) : s.answered.agingDue = s.agingDue := rfl
@[simp] theorem State.answered_links (s : State) : s.answered.links = s.links := rfl
@[simp] theorem State.answered_egress (s : State) : s.answered.egress = ⟨[], [], [], []⟩ := rfl
@[simp] theorem State.answered_ports (s : State) : s.answered.ports = s.ports := rfl
@[simp] theorem State.answered_office (s : State) : s.answered.office = s.office := rfl
@[simp] theorem State.answered_classifier (s : State) : s.answered.classifier = s.classifier := rfl
@[simp] theorem State.answered_uplink (s : State) : s.answered.uplink = s.uplink.emptied := rfl
@[simp] theorem State.answered_meters (s : State) : s.answered.meters = s.meters := rfl
@[simp] theorem State.answered_thresholds (s : State) : s.answered.thresholds = s.thresholds := rfl
@[simp] theorem State.answered_guest (s : State) : s.answered.guest = s.guest := rfl
@[simp] theorem State.answered_tills (s : State) : s.answered.tills = s.tills := rfl
@[simp] theorem State.answered_tracker (s : State) : s.answered.tracker = s.tracker := rfl
@[simp] theorem State.answered_journal (s : State) : s.answered.journal = s.journal := rfl
@[simp] theorem State.answered_pool (s : State) : s.answered.pool = s.pool := rfl
@[simp] theorem State.answered_night (s : State) : s.answered.night = s.night := rfl
@[simp] theorem State.answered_label (s : State) : s.answered.label = s.label := rfl
@[simp] theorem State.answered_clock (s : State) : s.answered.clock = s.clock := rfl
@[simp] theorem State.answered_schedule (s : State) : s.answered.schedule = s.schedule := rfl
@[simp] theorem State.answered_levels (s : State) : s.answered.levels = s.levels := rfl
@[simp] theorem State.answered_counters (s : State) : s.answered.counters = s.counters.still := rfl
@[simp] theorem State.answered_alerts (s : State) : s.answered.alerts = s.alerts.still := rfl
@[simp] theorem State.answered_agent (s : State) :
    s.answered.agent = { s.agent with queue := [], leaseTimer := none } := rfl
@[simp] theorem State.answered_freeSerial (s : State) : s.answered.freeSerial = 0 := rfl
@[simp] theorem State.answered_pending (s : State) : s.answered.pending = s.pending := rfl

/-! ## Departures, events and the sample record -/

/-- A frame that is no OPEN departs as it was queued (R50, R123). -/
@[simp] theorem Frame.departing_of_ne (f : Frame) (g : NetAddr) (h : f.kind ≠ .opening) : f.departing g = f := if_neg h

/-- A departure changes no more of a frame than its bytes (R123). -/
theorem Frame.departing_eq (f : Frame) (g : NetAddr) : f.departing g = { f with bytes := (f.departing g).bytes } := by
  unfold Frame.departing
  split <;> rfl

@[simp] theorem Frame.departing_kind (f : Frame) (g : NetAddr) : (f.departing g).kind = f.kind := by rw [f.departing_eq g]
@[simp] theorem Frame.departing_origin (f : Frame) (g : NetAddr) : (f.departing g).origin = f.origin := by
  rw [f.departing_eq g]
@[simp] theorem Frame.departing_entryTick (f : Frame) (g : NetAddr) : (f.departing g).entryTick = f.entryTick := by
  rw [f.departing_eq g]

/-- R54: what a departure leaves as the uplink's `queues`. -/
@[simp] theorem Uplink.departed_queues (u : Uplink) (g : NetAddr) (now : Tick) (q : UplinkQueue) (f : Frame)
    (rest : List Frame) : (u.departed g now q f rest).queues = u.queues.set q rest := rfl

/-- R54, R123: what a departure leaves as the uplink's `transmitting`. -/
@[simp] theorem Uplink.departed_transmitting (u : Uplink) (g : NetAddr) (now : Tick) (q : UplinkQueue) (f : Frame)
    (rest : List Frame) : (u.departed g now q f rest).transmitting = some ⟨f.departing g, now⟩ := rfl

/-- R55: what a departure leaves as the uplink's `turn`. -/
@[simp] theorem Uplink.departed_turn (u : Uplink) (g : NetAddr) (now : Tick) (q : UplinkQueue) (f : Frame)
    (rest : List Frame) : (u.departed g now q f rest).turn = turnAfter u.turn q := rfl

/-- R55: what a departure leaves as the uplink's `guestGap`. -/
@[simp] theorem Uplink.departed_guestGap (u : Uplink) (g : NetAddr) (now : Tick) (q : UplinkQueue) (f : Frame)
    (rest : List Frame) : (u.departed g now q f rest).guestGap = gapAfter u.guestGap q := rfl

/-- R52, R53: a departure leaves the four limits and the three uplink settings as they were. -/
@[simp] theorem Uplink.departed_settings (u : Uplink) (g : NetAddr) (now : Tick) (q : UplinkQueue) (f : Frame)
    (rest : List Frame) :
    (u.departed g now q f rest).limits = u.limits ∧ (u.departed g now q f rest).daySpacing = u.daySpacing
      ∧ (u.departed g now q f rest).drainSpacing = u.drainSpacing
      ∧ (u.departed g now q f rest).residence = u.residence := ⟨rfl, rfl, rfl, rfl⟩

/-- An event of weight 1 that names no queue, field by field (R169). -/
@[simp] theorem occur_eq (n : EventName) (o : Origin) : occur n o = ⟨n, 1, o, none⟩ := rfl

/-- An event of a weight that names no queue, field by field (R169). -/
@[simp] theorem weighted_eq (n : EventName) (w : Nat) (o : Origin) : weighted n w o = ⟨n, w, o, none⟩ := rfl

/-- The Queue-Full event of an uplink queue, field by field (R51). -/
@[simp] theorem queueFull_eq (q : UplinkQueue) (o : Origin) : queueFull q o = ⟨.drop .queueFull, 1, o, some q⟩ := rfl

/-- A counter alert keeps the fields of the sample record (R175). -/
@[simp] theorem SampleRecord.report_fields (r : SampleRecord) : r.report.fields = r.fields := rfl

end Sys2Proof.Machine
end

