-- ==== Sys2Proof/Laws/Frames.lean ====
section
/-! SUPPORT. The frames of the shared operations: what offering an event, sending a frame, raising a source and answering a
command leave as it was. Each says once that two states are the same but for what `still` or `quiet` takes away; what
follows of a single field is read off it. -/

namespace Sys2Proof.Machine

/-! ## Reading a field off a frame -/

variable {s t : State}

theorem still_station (h : t.still = s.still) : t.station = s.station := by simpa using congrArg State.station h
theorem still_tick (h : t.still = s.still) : t.tick = s.tick := by simpa using congrArg State.tick h
theorem still_agingDue (h : t.still = s.still) : t.agingDue = s.agingDue := by simpa using congrArg State.agingDue h
theorem still_links (h : t.still = s.still) : t.links = s.links := by simpa using congrArg State.links h
theorem still_ports (h : t.still = s.still) : t.ports = s.ports := by simpa using congrArg State.ports h
theorem still_office (h : t.still = s.still) : t.office = s.office := by simpa using congrArg State.office h
theorem still_classifier (h : t.still = s.still) : t.classifier = s.classifier := by simpa using congrArg State.classifier h
theorem still_meters (h : t.still = s.still) : t.meters = s.meters := by simpa using congrArg State.meters h
theorem still_thresholds (h : t.still = s.still) : t.thresholds = s.thresholds := by simpa using congrArg State.thresholds h
theorem still_guest (h : t.still = s.still) : t.guest = s.guest := by simpa using congrArg State.guest h
theorem still_tills (h : t.still = s.still) : t.tills = s.tills := by simpa using congrArg State.tills h
theorem still_tracker (h : t.still = s.still) : t.tracker = s.tracker := by simpa using congrArg State.tracker h
theorem still_journal (h : t.still = s.still) : t.journal = s.journal := by simpa using congrArg State.journal h
theorem still_pool (h : t.still = s.still) : t.pool = s.pool := by simpa using congrArg State.pool h
theorem still_night (h : t.still = s.still) : t.night = s.night := by simpa using congrArg State.night h
theorem still_label (h : t.still = s.still) : t.label = s.label := by simpa using congrArg State.label h
theorem still_clock (h : t.still = s.still) : t.clock = s.clock := by simpa using congrArg State.clock h
theorem still_schedule (h : t.still = s.still) : t.schedule = s.schedule := by simpa using congrArg State.schedule h
theorem still_levels (h : t.still = s.still) : t.levels = s.levels := by simpa using congrArg State.levels h
theorem still_agent (h : t.still = s.still) : t.agent = s.agent := by simpa using congrArg State.agent h
theorem still_pending (h : t.still = s.still) : t.pending = s.pending := by simpa using congrArg State.pending h

/-- What is still the same is quiet the same. -/
theorem quiet_of_still (h : t.still = s.still) : t.quiet = s.quiet := by simp only [State.quiet, h]

/-- What is still the same is the same once answered. -/
theorem answered_of_still (h : t.still = s.still) : t.answered = s.answered := by
  simp only [State.answered, h, still_agent h]

theorem quiet_station (h : t.quiet = s.quiet) : t.station = s.station := by simpa using congrArg State.station h
theorem quiet_tick (h : t.quiet = s.quiet) : t.tick = s.tick := by simpa using congrArg State.tick h
theorem quiet_links (h : t.quiet = s.quiet) : t.links = s.links := by simpa using congrArg State.links h
theorem quiet_ports (h : t.quiet = s.quiet) : t.ports = s.ports := by simpa using congrArg State.ports h
theorem quiet_office (h : t.quiet = s.quiet) : t.office = s.office := by simpa using congrArg State.office h
theorem quiet_classifier (h : t.quiet = s.quiet) : t.classifier = s.classifier := by simpa using congrArg State.classifier h
theorem quiet_meters (h : t.quiet = s.quiet) : t.meters = s.meters := by simpa using congrArg State.meters h
theorem quiet_guest (h : t.quiet = s.quiet) : t.guest = s.guest := by simpa using congrArg State.guest h
theorem quiet_tills (h : t.quiet = s.quiet) : t.tills = s.tills := by simpa using congrArg State.tills h
theorem quiet_tracker (h : t.quiet = s.quiet) : t.tracker = s.tracker := by simpa using congrArg State.tracker h
theorem quiet_journal (h : t.quiet = s.quiet) : t.journal = s.journal := by simpa using congrArg State.journal h
theorem quiet_pool (h : t.quiet = s.quiet) : t.pool = s.pool := by simpa using congrArg State.pool h
theorem quiet_night (h : t.quiet = s.quiet) : t.night = s.night := by simpa using congrArg State.night h
theorem quiet_label (h : t.quiet = s.quiet) : t.label = s.label := by simpa using congrArg State.label h
theorem quiet_clock (h : t.quiet = s.quiet) : t.clock = s.clock := by simpa using congrArg State.clock h
theorem quiet_schedule (h : t.quiet = s.quiet) : t.schedule = s.schedule := by simpa using congrArg State.schedule h
theorem quiet_levels (h : t.quiet = s.quiet) : t.levels = s.levels := by simpa using congrArg State.levels h
theorem quiet_agent (h : t.quiet = s.quiet) : t.agent = s.agent := by simpa using congrArg State.agent h
theorem quiet_pending (h : t.quiet = s.quiet) : t.pending = s.pending := by simpa using congrArg State.pending h

@[simp] theorem still_still (s : State) : s.still.still = s.still := by
  simp [State.still, CounterUnit.still, AlertUnit.still, Uplink.emptied, Function.comp_def]

/-! ## Events and alerts -/

theorem CounterUnit.still_added (u : CounterUnit) (i : Fin 8) (w : Nat) : (u.added i w).still = u.still := by
  simp only [CounterUnit.still, CounterUnit.added, CounterUnit.mk.injEq, and_true]
  ext j hj
  · simp only [Vector.getElem_map, Vector.getElem_set, Fin.getElem_fin]
    split <;> simp_all

theorem AlertUnit.still_raise (a : AlertUnit) (x : AlertSource) : (a.raise x).still = a.still := rfl
theorem AlertUnit.still_sent (a : AlertUnit) (n : Tick) : (a.sent n).still = a.still := rfl
theorem CounterUnit.still_counterAlert (u : CounterUnit) : u.counterAlert.still = u.still := rfl

/-- One counter's consideration of an event changes nothing but the counters and the pending set. -/
theorem countOne_still (o : Occurrence) (s : State) (i : Fin 8) : (countOne o s i).still = s.still := by
  have h (u : CounterUnit) (ts : TriggerState) (r : SampleRecord) :
      ({ u with triggerState := ts, sample := r } : CounterUnit).still = u.still := rfl
  unfold countOne
  dsimp only
  split
  · split
    · split
      · simp only [State.still, AlertUnit.still_raise, State.mk.injEq, and_true, true_and]
        split <;> exact CounterUnit.still_added _ _ _
      · simp only [State.still, State.mk.injEq, and_true, true_and]
        split <;> exact CounterUnit.still_added _ _ _
    · simp only [State.still, State.mk.injEq, and_true, true_and]
      exact CounterUnit.still_added _ _ _
  · rfl

theorem countEvent_still (o : Occurrence) (s : State) : (countEvent o s).still = s.still := by
  unfold countEvent
  generalize List.finRange 8 = l
  induction l generalizing s with
  | nil => rfl
  | cons i l ih => rw [List.foldl_cons, ih, countOne_still]

/-! ## Queues -/

/-- How a block offers its events keeps a state still. -/
def KeepsStill (offer : Occurrence → State → State) : Prop := ∀ o s, (offer o s).still = s.still

theorem countEvent_keepsStill : KeepsStill countEvent := countEvent_still

section
variable {offer : Occurrence → State → State} (ho : KeepsStill offer)
include ho

theorem presentEgressWith_still (p : EgressPort) (f : Frame) (s : State) :
    (presentEgressWith offer p f s).still = s.still := by
  unfold presentEgressWith
  split
  · exact ho _ _
  · split
    · exact ho _ _
    · split
      · rfl
      · exact ho _ _

theorem departWith_still (s : State) : (departWith offer s).still = s.still := by
  unfold departWith
  split
  · split
    · rfl
    · split
      · rfl
      · dsimp only
        split
        · rw [ho, ho]; rfl
        · rw [ho]; rfl
  · rfl

theorem presentUplinkWith_still (q : UplinkQueue) (f : Frame) (s : State) :
    (presentUplinkWith offer q f s).still = s.still := by
  unfold presentUplinkWith
  split
  · exact ho _ _
  · split
    · rw [departWith_still ho]; rfl
    · exact ho _ _

theorem presentOnWith_still (p : Segment) (f : Frame) (s : State) : (presentOnWith offer p f s).still = s.still := by
  cases p
  · exact presentUplinkWith_still ho _ _ _
  all_goals exact presentEgressWith_still ho _ _ _

end

/-- The send test changes nothing but what `still` takes away. -/
theorem alertTest_still (s : State) : (alertTest s).still = s.still := by
  unfold alertTest
  split
  · rfl
  · split
    · rw [presentOnWith_still countEvent_keepsStill]
      simp only [State.still, AlertUnit.still_sent, State.mk.injEq, and_true, true_and]
      split <;> rfl
    · rfl

/-- Offering an event changes nothing but what `still` takes away. -/
theorem offer_still (o : Occurrence) (s : State) : (offer o s).still = s.still := by
  unfold offer
  rw [alertTest_still, countEvent_still]

theorem offer_keepsStill : KeepsStill offer := offer_still

theorem drop_still (r : DropReason) (o : Origin) (s : State) : (drop r o s).still = s.still := offer_still _ _

/-- Raising a source changes nothing but what `still` takes away. -/
theorem raise_still (x : AlertSource) (s : State) : (raise x s).still = s.still := by
  unfold raise
  rw [alertTest_still]
  rfl

theorem presentEgress_still (p : EgressPort) (f : Frame) (s : State) : (presentEgress p f s).still = s.still :=
  presentEgressWith_still offer_keepsStill p f s

theorem depart_still (s : State) : (depart s).still = s.still := departWith_still offer_keepsStill s

theorem presentUplink_still (q : UplinkQueue) (f : Frame) (s : State) : (presentUplink q f s).still = s.still :=
  presentUplinkWith_still offer_keepsStill q f s

theorem presentOn_still (p : Segment) (f : Frame) (s : State) : (presentOn p f s).still = s.still :=
  presentOnWith_still offer_keepsStill p f s

/-- A part-originated datagram whose presentation keeps a state still keeps it still. -/
theorem originate_still (d : Datagram) {present : Frame → State → State}
    (hp : ∀ f s, (present f s).still = s.still) (s : State) : (originate d present s).still = s.still := by
  unfold originate
  split
  · exact offer_still _ _
  · rw [hp]; rfl

/-! ## Comparisons -/

/-- A comparison changes the pair compared, and beyond it nothing but what `still` takes away. -/
theorem comparePair_still (i : PairId) (s : State) :
    (comparePair i s).still =
      ({ s with thresholds := s.thresholds.set i ((s.thresholds.get i).compared (s.watched i)) } : State).still := by
  unfold comparePair
  dsimp only
  split
  · rw [raise_still]
    split
    · rw [raise_still]
    · rfl
  · split
    · rw [raise_still]
    · rfl

/-- A comparison keeps a state quiet. -/
theorem compareChanged_quiet (i : PairId) (before : Nat) (s : State) :
    (compareChanged i before s).quiet = s.quiet := by
  unfold compareChanged
  split
  · rfl
  · rw [quiet_of_still (comparePair_still i s)]
    rfl

/-- A comparison that is not due changes nothing. -/
theorem compareChanged_same (i : PairId) (s : State) : compareChanged i (s.watched i) s = s := by
  simp [compareChanged]

/-! ## Responses -/

theorem sendPart_still (q : Requester) (m : Bytes) (s : State) : (sendPart q m s).still = s.still := by
  unfold sendPart
  split
  · exact presentOn_still _ _ _
  · exact originate_still _ (presentUplink_still _) _

theorem sendParts_still (q : Requester) (code : Nat) (status : Status) (parts : List Bytes) :
    ∀ (n : Nat) (s : State), (sendParts q code status n parts s).still = s.still := by
  induction parts with
  | nil => intro n s; rfl
  | cons p rest ih => intro n s; rw [sendParts, ih, sendPart_still]

/-- The response to a command changes nothing but what `still` takes away. -/
theorem respond_still (q : Requester) (code : Nat) (r : CmdResult) : (respond q code r).still = r.state.still :=
  sendParts_still q code r.status r.parts 0 r.state

@[simp] theorem takeRequest_still_answered (i : Instr) (s : State) : (takeRequest i s).answered = s.answered := by
  unfold takeRequest
  split
  · split <;> rfl
  · rfl

/-- Taking a request changes the request queue alone. -/
theorem takeRequest_eq (i : Instr) (s : State) :
    ∃ q, takeRequest i s = { s with agent := { s.agent with queue := q } } := by
  unfold takeRequest
  split
  · split
    · exact ⟨_, rfl⟩
    · exact ⟨s.agent.queue, rfl⟩
  · exact ⟨s.agent.queue, rfl⟩

@[simp] theorem takeRequest_holds (i : Instr) (s : State) (p : Party) : (takeRequest i s).holds p = s.holds p := by
  obtain ⟨q, h⟩ := takeRequest_eq i s
  rw [h]; rfl

/-- What a command without the lock's test leaves, but for its response. -/
theorem openCommand_still (q : Requester) (i : Instr) (code : Nat) (run : State → CmdResult) (s : State) :
    (openCommand q i code run s).still = (run (takeRequest i s)).state.still := respond_still _ _ _

/-- What a lock-requiring command of the holder leaves, but for its response: what its run leaves, the lease renewed. -/
theorem lockedCommand_still (q : Requester) (i : Instr) (code : Nat) (run : State → CmdResult) (s : State)
    (h : s.holds q.party = true) :
    (lockedCommand q i code run s).still = (renewLease (run (takeRequest i s)).state).still := by
  unfold lockedCommand
  rw [openCommand_still]
  simp only [takeRequest_holds, h, if_true, CmdResult.renewed]

/-- What a lock-requiring command of another party leaves, but for its response: the request taken. -/
theorem lockedCommand_noLock (q : Requester) (i : Instr) (code : Nat) (run : State → CmdResult) (s : State)
    (h : s.holds q.party = false) :
    (lockedCommand q i code run s).still = (takeRequest i s).still := by
  unfold lockedCommand
  rw [openCommand_still]
  simp [takeRequest_holds, h, refused]

/-! ## Meters, the night engine and the label engine -/

/-- A meter replaced, and its comparison: the meters alone, and what `quiet` takes away. -/
theorem setMeter_quiet (s : State) (i : Meter) (m : ShareMeter) :
    (s.setMeter i m).quiet = ({ s with meters := s.meters.set i m } : State).quiet :=
  compareChanged_quiet _ _ _

/-- A frame presented to a share meter changes that meter alone, and what `quiet` takes away. -/
theorem presentMeter_quiet (i : Meter) (q : UplinkQueue) (f : Frame) (s : State) :
    ∃ m, (presentMeter i q f s).quiet = ({ s with meters := s.meters.set i m } : State).quiet := by
  unfold presentMeter
  dsimp only
  split
  · exact ⟨_, (quiet_of_still (presentUplink_still _ _ _)).trans (setMeter_quiet _ _ _)⟩
  · exact ⟨_, (quiet_of_still (offer_still _ _)).trans (setMeter_quiet _ _ _)⟩

theorem sendNight_still (k : Nat) (b : Bytes) (s : State) : (sendNight k b s).still = s.still :=
  originate_still _ (presentUplink_still _) _

theorem sendOpen_still (s : State) : (sendOpen s).still = s.still := originate_still _ (presentUplink_still _) _
theorem sendDrained_still (s : State) : (sendDrained s).still = s.still := sendNight_still _ _ _
theorem sendClosed_still (s : State) : (sendClosed s).still = s.still := sendNight_still _ _ _
theorem sendLabelAck_still (b : BitVec 32) (n : Nat) (s : State) : (sendLabelAck b n s).still = s.still :=
  sendNight_still _ _ _

/-- A send event: the records taken, the TRANSFER meter, and what `quiet` takes away. -/
theorem sendRecords_quiet (s : State) :
    ∃ m, (sendRecords s).quiet = ({ s.recordsTaken with meters := s.meters.set .transfer m } : State).quiet := by
  have h := quiet_of_still (offer_still (occur (.night .recordsSent) (builtOrigin .uplink)) s.recordsTaken)
  unfold sendRecords originate
  split
  · refine ⟨s.meters.transfer, ?_⟩
    rw [quiet_of_still (offer_still _ _), h]
    rfl
  · obtain ⟨m, hm⟩ := presentMeter_quiet .transfer .transfer
      ((offer (occur (.night .recordsSent) (builtOrigin .uplink)) s.recordsTaken).datagramFrame s.recordsMessage _)
      { offer (occur (.night .recordsSent) (builtOrigin .uplink)) s.recordsTaken with
        freeSerial := (offer (occur (.night .recordsSent) (builtOrigin .uplink)) s.recordsTaken).freeSerial + 1 }
    refine ⟨m, hm.trans ?_⟩
    have hs := offer_still (occur (.night .recordsSent) (builtOrigin .uplink)) s.recordsTaken
    have hmet : (offer (occur (.night .recordsSent) (builtOrigin .uplink)) s.recordsTaken).meters = s.meters :=
      (still_meters hs).trans rfl
    show State.quiet { (offer _ s.recordsTaken) with meters := _, freeSerial := _ } = _
    rw [hmet]
    have : ∀ (a : State) (x : Meters) (n : Nat), State.quiet { a with meters := x, freeSerial := n } =
        { a.quiet with meters := x } := fun _ _ _ => rfl
    rw [this, h]
    rfl

/-- A delivery event: the update in flight, and what `still` takes away. -/
theorem deliverOne_still (b : BaseStation) (u : LabelUpdate) (s : State) :
    (deliverOne b u s).still = (s.sentInFlight u).still := originate_still _ (presentEgress_still _) _

/-- Delivery events change the label engine alone, and what `still` takes away. -/
theorem deliverWhile_still (n : Nat) (s : State) :
    ∃ l, (deliverWhile n s).still = ({ s with label := l } : State).still := by
  induction n generalizing s with
  | zero => exact ⟨s.label, rfl⟩
  | succ n ih =>
    unfold deliverWhile
    split
    · split
      · rename_i b u _ _
        obtain ⟨l, hl⟩ := ih (deliverOne b u s)
        refine ⟨l, hl.trans ?_⟩
        have : ∀ a : State, ({ a with label := l } : State).still = { a.still with label := l } := fun _ => rfl
        rw [this, deliverOne_still]
        rfl
      · exact ⟨s.label, rfl⟩
    · exact ⟨s.label, rfl⟩

/-- A delivery event adds its update to the in-flight list. -/
theorem deliverOne_inFlight_length (b : BaseStation) (u : LabelUpdate) (s : State) :
    (deliverOne b u s).label.inFlight.length = s.label.inFlight.length + 1 := by
  simp [still_label (deliverOne_still b u s), State.sentInFlight]

/-- A bound that reaches 16 updates in flight holds back no delivery event (R145). -/
theorem deliverWhile_enough (n : Nat) (s : State) (h : 16 ≤ n + s.label.inFlight.length) :
    deliverWhile (n + 1) s = deliverWhile n s := by
  induction n generalizing s with
  | zero =>
    have : s.deliveryOpen = false := by simp [State.deliveryOpen]; omega
    simp [deliverWhile, this]
  | succ n ih =>
    have key : ∀ b u, deliverWhile (n + 1) (deliverOne b u s) = deliverWhile n (deliverOne b u s) := fun b u =>
      ih _ (by rw [deliverOne_inFlight_length]; omega)
    rw [deliverWhile, deliverWhile]
    split
    · split
      · exact key _ _
      · rfl
    · rfl

theorem deliveries_still (s : State) : ∃ l, (deliveries s).still = ({ s with label := l } : State).still :=
  deliverWhile_still 16 s

end Sys2Proof.Machine
end

