-- ==== Sys2Proof/WellFormed.lean ====
section
/-! DEFINITION. Well-formed commands: the bounds a message's own length fields put on its operands (R195, R197, R201).
`exec` is total and does not ask; a command that no message can carry is ill formed. -/

namespace Sys2Proof

/-- An entry count fits the 16 bits of a WRITE's count field (R195). -/
def countFits {α : Type} (entries : List α) : Bool := decide (entries.length ≤ 65535)

/-- A list with a one-byte count (R195, R197). -/
def byteCountFits {α : Type} (items : List α) : Bool := decide (items.length ≤ 255)

/-- Whether some message or event can carry a command's operands. -/
def Instr.wellFormed : Instr → Bool
  | .labelsMessage _ _ updates => updates.all fun u => byteCountFits u.text
  | .writePorts _ _ es => countFits es
  | .writeOfficeStations _ _ es => countFits es
  | .writeWindow _ _ _ es => countFits es
  | .writeDefaults _ _ _ es => countFits es
  | .writeBankIdentity _ _ es => countFits es
  | .writeUplink _ _ es => countFits es
  | .writeMeters _ _ es => countFits es
  | .writeThresholds _ _ es => countFits es
  | .writeGuest _ _ es => countFits es
  | .writeTills _ _ es => countFits es
  | .writeTracker _ _ es => countFits es
  | .writePool _ _ es => countFits es
  | .writeNight _ _ es => countFits es
  | .writeLabel _ _ es => countFits es
  | .writeSchedule _ _ es => countFits es
  | .writeAlerts _ _ es => countFits es
  | .writeAgent _ _ es => countFits es
  | .countersStart q => q.form != 1 && q.form != 3
  | .countersClear _ numbers => byteCountFits numbers
  | .alertClear _ sources => byteCountFits sources
  | .deviceReset => true
  | .linkUp _ _ => true
  | .linkLoss _ => true
  | .frameReceived _ _ _ => true
  | .egressTransmissionEnd _ => true
  | .uplinkTransmissionEnd => true
  | .msTickAdvance => true
  | .meterRelease _ => true
  | .guestAging => true
  | .secondAdvance => true
  | .waitingExpiry _ => true
  | .heldOverExpiry _ => true
  | .wake _ => true
  | .grant _ _ _ _ => true
  | .ack _ _ => true
  | .finish _ => true
  | .callTimerExpiry => true
  | .backoffTimerExpiry => true
  | .ackTimerExpiry => true
  | .settleTimerExpiry => true
  | .ready _ _ => true
  | .outcome _ _ _ => true
  | .pacingTimerExpiry => true
  | .outcomeTimeout _ => true
  | .alertTimerExpiry => true
  | .leaseExpiry => true
  | .identify _ => true
  | .read _ _ _ _ => true
  | .readNext _ _ => true
  | .write _ _ _ _ _ => true
  | .swap _ => true
  | .openPart _ => true
  | .closePart _ => true
  | .restart _ => true
  | .setClock _ _ _ => true
  | .profile _ _ => true
  | .labels _ _ => true
  | .guest _ _ => true
  | .call _ => true
  | .stop _ => true
  | .journalDiscard _ => true
  | .adjustQueues _ _ => true
  | .bar _ _ => true
  | .unbar _ _ => true
  | .countersConfigure _ _ _ => true
  | .labelClear _ => true
  | .claim _ => true
  | .release _ => true
  | .unknownCommand _ _ => true

end Sys2Proof
end

