-- ==== Sys2Proof/Tests/Slice0.lean ====
section
/-! SUPPORT. Tests: ill-formed commands refused, wire formats read as the manual writes them, the manual's worked values,
one step on a small state per family, and for every statement with hypotheses a state and operands that meet them. -/

namespace Sys2Proof.Tests

open Sys2Proof Sys2Proof.Machine

/- The checks below run one after another: run together, their waiting threads outgrow the memory a check may use. -/
set_option Elab.async false

/-! ## Requesters, addresses and small states -/

/-- The station address of the parts under test. -/
abbrev here : Station := 0x020000006416

/-- A local request of tag 7, from the branch management station on OFFICE. -/
abbrev boss : Requester := ⟨7, .station 0x020000000401 .office⟩

/-- A remote request of tag 8, from the collector. -/
abbrev head : Requester := ⟨8, .datagram 0x0A640001 7416⟩

/-- A part after device reset. -/
abbrev fresh : State := State.resetWith here []

/-- A window entry that sends UDP frames of a segment to a service number to an action. -/
def window (sources : PerSegment Bool) (service : Service) (action : Action) (destination : Segment) (offset : Byte) :
    WindowEntry :=
  { WindowEntry.reset with
    enabled := true, sources := sources, protocol := some 17, range := some (service, service), action := action
    destination := destination, offset := offset }

/-- Bank A of the shop: payment requests, sale records, the office's frames to TILL, and GUEST to UPLINK. -/
def shopBank : Bank :=
  { Bank.reset with
    entries := (((Bank.reset.entries.set 0
      { window ⟨false, true, false, false, false⟩ 5000 .track .uplink 2 with
        translate := some 0xAC100000, mask := 0xFFFF0000, base := 0x0A640000 }).set 1
      (window ⟨false, true, false, false, false⟩ 6000 .spool .uplink 0)).set 2
      (window ⟨false, false, false, false, true⟩ 5001 .forward .till 0))
    defaults := { Bank.reset.defaults with guest := ⟨true, .uplink, .office, 0⟩ } }

/-- A branch at work: every port UP, RUNNING, the lock held by the local party. -/
def shop : State :=
  { fresh with
    links := PerSegment.all (some .mb100)
    ports := { fresh.ports with
      gateways := ⟨0x0A000002, 0x0A000101, 0x0A000201, 0x0A000301, 0x0A000401⟩
      nextHop := some 0x020000000001
      baseStation := some ⟨0x020000000201, 0x0A00020B, 7418⟩ }
    office := fresh.office.set 0 ⟨true, 0x020000000401, 0x0A00040B⟩
    classifier := { fresh.classifier with bankA := shopBank }
    tills := fresh.tills.set 0 ⟨true, 0x020000000101, 0x0A00010B, 2, false, none⟩
    guest := { settings := ⟨0x0A000300, 0xFFFFFF00, 60, 1800, 1, 1536⟩, table := [] }
    levels := { fresh.levels with guestState := ⟨.opened, .command⟩ }
    night := { fresh.night with settings := { fresh.night.settings with
      collector := 0x0A640001, branch := 12, epoch := 5 } }
    clock := { set := true, time := ⟨9, 30000⟩, sub := 0, due := 0 }
    agent := { fresh.agent with
      partState := .running, holder := some .localParty, leaseTimer := some ⟨0, 600000⟩ } }

/-- The shop at a tick. -/
def shopAt (tick : Tick) : State := { shop with tick := tick }

/-- The shop with its night engine changed. -/
def shopNight (f : Night → Night) : State := { shop with night := f shop.night }

/-- The shop with its label engine changed and the label window open or closed. -/
def shopLabels (gate : Gate) (f : LabelEngine → LabelEngine) : State :=
  { shop with label := f shop.label, levels := { shop.levels with labelWindow := ⟨gate, .command⟩ } }

/-- A message of the shop's collector. -/
abbrev collector : NightSource := ⟨0x020000000001, 0x0A640001, 7417, 12, 5⟩

/-- A label update for a label number. -/
def update (number : BitVec 24) (attempts : Nat) : LabelUpdate :=
  ⟨number, 1, [0x31], false, none, attempts, 0, none, none⟩

/-- A journal record with a sequence and a payload of four bytes. -/
def record (sequence : Seq) : JournalRecord := ⟨sequence, 0, sequence, none, [0, 0, 0, 1]⟩

/-- An IPv4 UDP frame with a UDP checksum of 0 to the part's station address (R193). -/
def datagramTo (station : Station) (source destination : NetAddr) (from_ to_ : Service) (ttl : Byte) (payload : Bytes) :
    Bytes :=
  let udp := be16 from_ ++ be16 to_ ++ num16 (8 + payload.length) ++ [0, 0] ++ payload
  let header := fun c => ([0x45, 0] : Bytes) ++ num16 (20 + udp.length) ++ [0, 0, 0, 0, ttl, 17] ++ be16 c
    ++ be32 source ++ be32 destination
  padFrame (be48 here ++ be48 station ++ [8, 0] ++ header (~~~ onesSum (wordsOf (header 0))) ++ udp)

/-- A state with a frame of the part in the uplink transmitter. -/
def busy (s : State) : State :=
  { s with uplink := { s.uplink with transmitting := some ⟨⟨.response, [], 0, ⟨false, none, .office, none⟩⟩, 0⟩ } }

/-- The state a command answers with, the state itself where it answers none. -/
def after (c : Instr) (s : State) : State :=
  match exec c s with
  | .next t => t
  | _ => s

/-! ## Well-formed commands -/

theorem test_wellFormed_labels : (Instr.labelsMessage collector 1 [⟨1, 0, false, none, List.replicate 255 0⟩]).wellFormed = true
    ∧ (Instr.labelsMessage collector 1 [⟨1, 0, false, none, List.replicate 256 0⟩]).wellFormed = false := by
  decide +kernel

theorem test_wellFormed_clears : (Instr.countersClear boss (List.replicate 255 1)).wellFormed = true
    ∧ (Instr.countersClear boss (List.replicate 256 1)).wellFormed = false
    ∧ (Instr.alertClear boss (List.replicate 256 1)).wellFormed = false := by
  decide +kernel

/-- Forms 1 and 3 spell Configure and Clear. -/
theorem test_wellFormed_form : (Instr.countersStart ⟨boss, 2⟩).wellFormed = true
    ∧ (Instr.countersStart ⟨boss, 0⟩).wellFormed = true ∧ (Instr.countersStart ⟨boss, 1⟩).wellFormed = false
    ∧ (Instr.countersStart ⟨boss, 3⟩).wellFormed = false := by
  decide +kernel

/-- Each WRITE with one entry more than its count field can say is refused. -/
theorem test_wellFormed_writes {n : Nat} (h : 65535 < n) (a : PortsWrite) (b : OfficeStation) (c : WindowWrite)
    (d : DefaultWrite) (u : UplinkWrite) (m : MeterWrite) (p : PairWrite) (g : GuestWrite) (t : TillWrite)
    (k : TrackerWrite) (o : PoolWrite) (x : NightWrite) (l : LabelWrite) (z : ScheduleWrite) :
    ∀ i ∈ [Instr.writePorts boss 0 (List.replicate n a), .writeOfficeStations boss 0 (List.replicate n b),
      .writeWindow boss .a 0 (List.replicate n c), .writeDefaults boss .a 0 (List.replicate n d),
      .writeBankIdentity boss 0 (List.replicate n 0), .writeUplink boss 0 (List.replicate n u),
      .writeMeters boss 0 (List.replicate n m), .writeThresholds boss 0 (List.replicate n p),
      .writeGuest boss 0 (List.replicate n g), .writeTills boss 1 (List.replicate n t),
      .writeTracker boss 0 (List.replicate n k), .writePool boss 0 (List.replicate n o),
      .writeNight boss 0 (List.replicate n x), .writeLabel boss 0 (List.replicate n l),
      .writeSchedule boss 0 (List.replicate n z), .writeAlerts boss 0 (List.replicate n 0),
      .writeAgent boss 0 (List.replicate n 0)], i.wellFormed = false := by
  simp [Instr.wellFormed, countFits, h]

theorem test_wellFormed_write_of_one : (Instr.writeAgent boss 0 [600]).wellFormed = true := by decide

/-! ## Messages as the manual writes them (R195 to R201) -/

/-- No row of the table gives bits. -/
theorem test_decodeTableWord (nbits w : Nat) : decodeTableWord nbits w = none := rfl

/-- R195: tag 0x0007, SET CLOCK 0x08, an unused byte, day 9, second 30,000 = 0x7530. -/
theorem test_decode_set_clock :
    decodeRequest ⟨boss.reply, [0, 7, 0x08, 0xFF, 0, 9, 0, 0, 0x75, 0x30]⟩ = .setClock boss 9 30000 := by
  decide +kernel

/-- R195: READ of TILLS (table code 13), first index 1, count 2. -/
theorem test_decode_read :
    decodeRequest ⟨boss.reply, [0, 7, 0x02, 0, 13, 0, 0, 0, 1, 0, 2]⟩ = .read boss 13 1 2 := by
  decide +kernel

/-- R195: WRITE of AGENT (table code 29), first index 0, one entry, a lease of 600 = 0x0258. -/
theorem test_decode_write_agent :
    decodeRequest ⟨boss.reply, [0, 7, 0x04, 0, 29, 0, 0, 0, 0, 0, 1, 2, 0x58]⟩ = .writeAgent boss 0 [600] := by
  decide +kernel

/-- R183, R197: the form byte of COUNTERS. -/
theorem test_decode_counters :
    decodeRequest ⟨boss.reply, [0, 7, 0x15, 0, 2]⟩ = .countersStart ⟨boss, 2⟩
      ∧ decodeRequest ⟨boss.reply, [0, 7, 0x15, 0, 3, 2, 1, 8]⟩ = .countersClear boss [1, 8]
      ∧ decodeRequest ⟨boss.reply, [0, 7, 0x15, 0, 4]⟩ = .countersStart ⟨boss, 4⟩
      ∧ decodeRequest ⟨boss.reply, [0, 7, 0x15, 0]⟩ = .unknownCommand boss 0x15 := by
  decide +kernel

/-- R196: a WRITE with fewer entries than it states is UNKNOWN; a code that is not listed is too (R195). -/
theorem test_decode_unknown :
    decodeRequest ⟨boss.reply, [0, 7, 0x04, 0, 29, 0, 0, 0, 0, 0, 2, 2, 0x58]⟩ = .unknownCommand boss 0x04
      ∧ decodeRequest ⟨boss.reply, [0, 7, 0x12, 0]⟩ = .unknownCommand boss 0x12 := by
  decide +kernel

/-- R200: WAKE 6 and ACK 8 of branch 12 and epoch 5, the ACK for sequence 3. -/
theorem test_decode_wake_ack :
    decodeNight collector.station collector.address collector.service [6, 0, 0, 12, 0, 0, 0, 5] = some (.wake collector)
      ∧ decodeNight collector.station collector.address collector.service [8, 0, 0, 12, 0, 0, 0, 5, 0, 0, 0, 3]
        = some (.ack collector 3) := by
  decide +kernel

/-- R200: GRANT 7 with window 4, day 9 and second 86,399 = 0x1517F. -/
theorem test_decode_grant :
    decodeNight collector.station collector.address collector.service
      [7, 0, 0, 12, 0, 0, 0, 5, 4, 0, 0, 9, 0, 1, 0x51, 0x7F] = some (.grant collector 4 9 86399) := by
  decide +kernel

/-- R201: LABELS 9, batch 2, one update for label 0x010203, page 1, flash and item code present, text of one byte. -/
theorem test_decode_labels :
    decodeNight collector.station collector.address collector.service
      [9, 0, 0, 12, 0, 0, 0, 5, 0, 0, 0, 2, 1, 2, 3, 1, 3, 1, 0, 0, 0, 0, 0, 0, 0, 9, 0x31]
      = some (.labelsMessage collector 2 [⟨0x010203, 1, true, some 9, [0x31]⟩]) := by
  decide +kernel

/-- R201: READY 1 with 5 free slots, and OUTCOME 3 of label 0x010203, Rejected 4. -/
theorem test_decode_base_station :
    decodeBaseStation 1 [1, 5] = some (.ready 1 5)
      ∧ decodeBaseStation 1 [3, 1, 2, 3, 4] = some (.outcome 1 0x010203 4) := by
  decide +kernel

/-! ## Worked values of the manual -/

/-- 03, a translated UDP frame: header checksum 0xB1E6 becomes 0x0CEA, UDP checksum 0x8D2A becomes 0xE72D; and the reply
restored: 0x1F3A becomes 0xC61D. -/
theorem test_checksums :
    checksumUpdate 0xB1E6 [(0x0A14, 0xAC10), (0x0005, 0x0405), (0x4011, 0x3F11)] = 0x0CEA
      ∧ checksumUpdate 0x8D2A [(0x0A14, 0xAC10), (0x0005, 0x0405)] = 0xE72D
      ∧ checksumUpdate 0x1F3A [(0xAC10, 0x0A1E), (0x0405, 0x0014), (0x3911, 0x3811)] = 0xC61D := by
  decide

/-- R42 in the same case: 10.20.0.5 under 172.16.4.0 and mask 255.255.255.0 becomes 172.16.4.5. -/
theorem test_translation : translated 0xAC100400 0xFFFFFF00 0x0A140005 = 0xAC100405 := by decide

/-- 08, one night's session: the generator at 12,345 gives 2,822, and attempt 1 the delay 1,822. -/
theorem test_call_timer_backs_off :
    let t := after .callTimerExpiry { shopNight (fun n => { n with
      state := .calling, attempts := 1, generator := 12345, callTimer := some ⟨1000000, 2000⟩ }) with tick := 1002000 }
    t.night.state = .backoff ∧ t.night.generator = 2822 ∧ t.night.backoffTimer = some ⟨1002000, 1822⟩
      ∧ t.night.retryTotal = 1 := by
  decide +kernel

/-- 04, one meter: a frame of 2,000 bytes at tick 6 meets level 0 of tick 4,294,967,290 at 250 bytes per ms: it conforms
and leaves 1,000. -/
theorem test_meter_wraps :
    (presentMeter .office .office ⟨.forwarded, List.replicate 2000 0, 6, ⟨false, none, .office, none⟩⟩
      { shopAt 6 with meters := { shop.meters with office :=
        { shop.meters.office with level := 0, lastTick := 4294967290, day := ⟨250, 32000, .defer⟩ } } }).meters.office.level
      = 1000 := by
  decide +kernel

/-- 07, the guarded limit: with 14,386 blocks free and 2,000 label blocks held, 3 blocks are refused and 2 granted. -/
theorem test_guarded_limit :
    (Pool.journalFits ⟨14386, 114686, 2000, 98304, 16384⟩ 3 = false)
      ∧ Pool.journalFits ⟨14386, 114686, 2000, 98304, 16384⟩ 2 = true := by
  decide

/-- 07: record number 7,122 after 7,124 is a duplicate; 7,124 after 7,121 is new (R103). -/
theorem test_record_distance :
    recordDistance 7124 7122 = 4294967294 ∧ recordDistance 7121 7124 = 3 := by decide

/-- 10, a clock set: SET CLOCK to second 82,000 with Night profile at 79,200 replays Night. -/
theorem test_set_clock_replays :
    let s := { shop with schedule := (shop.schedule.set 0 ⟨true, 23400, .dayProfile⟩).set 4 ⟨true, 79200, .nightProfile⟩ }
    (after (.setClock boss 412 82000) s).levels.profile = ⟨.night, .replay 4⟩
      ∧ (after (.setClock boss 413 24000) s).levels.profile = ⟨.day, .replay 0⟩ := by
  decide +kernel

/-- 12, two parties and one lock: a local CLAIM of a lock the remote party holds is LOCKED (4), holder Remote (2). -/
theorem test_claim_locked :
    ((after (.claim boss) { shop with agent := { shop.agent with holder := some .remoteParty } }).egress.office.map
      fun f => (f.bytes.drop 14).take 9) = [[0, 7, 0x18, 4, 0, 1, 0, 0, 2]] := by
  decide +kernel

/-- 01: a frame with a bad frame check sequence changes no queue; an ARP request from another station on TILL is not
answered, and one of till 1 for the gateway is (R8, R11). -/
theorem test_till_arp :
    let arp := fun (station : Station) (a : NetAddr) => padFrame (be48 here ++ be48 station ++ [8, 6, 0, 1, 8, 0, 6, 4, 0, 1]
      ++ be48 station ++ be32 a ++ be48 0 ++ be32 0x0A000101)
    (after (.frameReceived .till true (arp 0x020000000101 0x0A00010B)) shop).egress.till.length = 1
      ∧ (after (.frameReceived .till true (arp 0x020000000177 0x0A00014D)) shop).egress.till = []
      ∧ (after (.frameReceived .till false (arp 0x020000000101 0x0A00010B)) shop).egress.till = [] := by
  decide +kernel

/-- 09: OUTCOME Absent at attempts 1 with attempt limit 2 enters the undelivered list with attempts 2, and frees a block. -/
theorem test_outcome_absent :
    let t := after (.outcome 0x020000000201 104 2)
      { shopLabels .closed (fun l => { l with settings := ⟨20, 2, 10000⟩, inFlight := [update 104 1] }) with
        pool := { shop.pool with free := 131071, labelHeld := 1 } }
    t.label.undelivered = [⟨104, 1, 2, .absent⟩] ∧ t.label.inFlight = [] ∧ t.pool.labelHeld = 0 := by
  decide +kernel

/-- 11: a Gap of weight 2,147,483,646 upon 5 overflows counter 1 at 2,147,483,651 (R173). -/
theorem test_counter_overflows :
    let s := after (.countersConfigure boss ((Vector.replicate 8 ⟨0, 0, 0, false⟩).set 0 ⟨8, 3, 0, true⟩)
      ⟨true, true, true, true, true⟩) shop
    let t := offer (weighted (.spool .gap) 2147483646 ⟨true, some 1, .till, some 3⟩)
      (offer (weighted (.spool .gap) 5 ⟨true, some 1, .till, some 3⟩) s)
    t.counters.counters[0].value = 2147483651 ∧ t.counters.counters[0].overflow = true
      ∧ t.alerts.pending[12] = some .new := by
  decide +kernel

/-- R51: a frame that meets a full URGENT queue is a Queue-Full that names the queue. R54: a departure records its tick. -/
theorem test_queue_full_and_departure :
    (queueFull .urgent ⟨true, some 3, .till, some 3⟩).queue = some .urgent
      ∧ (presentUplink .office ⟨.forwarded, [], 3, ⟨false, none, .office, none⟩⟩ (shopAt 77)).uplink.transmitting
        = some ⟨⟨.forwarded, [], 3, ⟨false, none, .office, none⟩⟩, 77⟩ := by
  decide +kernel

/-- R7, R123, R193: a frame to 10.0.0.2 from 10.0.0.1, and the same frame from 0.0.0.0, with the header and UDP checksums that
the words give when added by hand: 0x66CD and 0xEAD2, then 0x70CE and 0xF4D3. -/
theorem test_readdressed :
    readdressed 0 (List.replicate 12 9 ++ [8, 0, 0x45, 0, 0, 0x1E, 0, 0, 0, 0, 0x40, 0x11, 0x66, 0xCD, 10, 0, 0, 1, 10, 0,
        0, 2, 0, 1, 0, 2, 0, 10, 0xEA, 0xD2, 1, 2] ++ List.replicate 16 0)
      = List.replicate 12 9 ++ [8, 0, 0x45, 0, 0, 0x1E, 0, 0, 0, 0, 0x40, 0x11, 0x70, 0xCE, 0, 0, 0, 0, 10, 0,
        0, 2, 0, 1, 0, 2, 0, 10, 0xF4, 0xD3, 1, 2] ++ List.replicate 16 0 := by
  decide +kernel

/-- R192, R198: the sample of an alert frame is 17 bytes with and without one. R174: an empty record becomes reported. -/
theorem test_sample_widths :
    alertSampleBytes true .empty = List.replicate 17 0
      ∧ alertSampleBytes true (.held ⟨2, .till, none, none, some ⟨1, 2⟩⟩)
        = [1, 3, 1, 0xFF, 0xFF, 0, 0, 0, 0, 0, 0, 0, 0, 1, 0, 0, 2]
      ∧ SampleRecord.empty.report = .reported none := by
  decide +kernel

/-- R58, R196: a METERS entry of level 1, last tick 2, day 3 and 1,536 Drop, night 4 and 1,537 Defer, nothing held, Day. -/
theorem test_meter_bytes :
    meterBytes shop ⟨1, 2, ⟨3, 1536, .drop⟩, ⟨4, 1537, .defer⟩, []⟩
      = [0, 0, 0, 1, 0, 0, 0, 2, 0, 0, 0, 3, 0, 0, 6, 0, 0, 0, 0, 0, 4, 0, 0, 6, 1, 1, 0, 0] := by
  decide +kernel

/-- 05: UNBAR moves the entry to the head with the tick as last-active (R80). -/
theorem test_unbar :
    (after (.unbar boss 2) { shopAt 1260000 with guest := { shop.guest with table :=
        [⟨1, 0x0A000301, 0, 0, 0, 0, 1, 1, false⟩, ⟨2, 0x0A000302, 0, 0, 0, 0, 1, 1, true⟩] } }).guest.table
      = [⟨2, 0x0A000302, 0, 1260000, 0, 0, 1, 1, false⟩, ⟨1, 0x0A000301, 0, 0, 0, 0, 1, 1, false⟩] := by
  decide +kernel

/-! ## States and operands that meet the hypotheses of the statements

One theorem for each statement that has hypotheses; where a statement has several clauses, each clause's own hypotheses
are met, at a boundary value of its range where it has one. -/

/-- A frame of a part's own. -/
def built : Frame := ⟨.response, List.replicate 60 0, 0, ⟨false, none, .office, none⟩⟩

theorem witness_StepRunsTheFrontCommand :
    ({ shop with pending := [.msTickAdvance, .guestAging] } : State).pending = .msTickAdvance :: [.guestAging] := rfl

theorem witness_StepWithNothingPendingTakesARequest :
    (shop.pending = [] ∧ shop.agent.queue = [])
      ∧ ({ shop with agent := { shop.agent with queue := [⟨boss.reply, [0, 7, 1, 0]⟩] } } : State).agent.queue
        = ⟨boss.reply, [0, 7, 1, 0]⟩ :: [] := by
  decide +kernel

/-- Queues at their limits: 64 frames to TILL, 256 frames to UPLINK. -/
def fullQueues : State :=
  { shop with
    egress := { shop.egress with till := List.replicate 64 built }
    uplink := { shop.uplink with
      queues := ⟨List.replicate 64 built, List.replicate 64 built, List.replicate 64 built, List.replicate 64 built⟩
      limits := ⟨64, 64, 64, 64⟩ }
    pending := [.identify boss] }

theorem witness_EveryStepKeepsTheQueueLaws :
    EgressLaw fullQueues ∧ UplinkLaw fullQueues ∧ ∃ t, step fullQueues = .next t :=
  ⟨fun p => by cases p <;> decide +kernel, by unfold UplinkLaw; decide +kernel, _, rfl⟩

theorem witness_EveryStepKeepsTheMeterLaw :
    MeterLaw { shop with pending := [.profile boss 1] } ∧ ∃ t, step { shop with pending := [.profile boss 1] } = .next t :=
  ⟨⟨fun i => by cases i <;> decide +kernel, by decide +kernel⟩, _, rfl⟩

/-- A guest table of two entries, one of them barred. -/
def twoGuests : State :=
  { shopAt 60000 with guest := { shop.guest with table :=
      [⟨1, 0x0A00030B, 0, 60000, 0, 0, 1, 60, false⟩, ⟨2, 0x0A00030C, 0, 0, 0, 0, 1, 60, true⟩] } }

theorem witness_EveryStepKeepsTheGuestLaw :
    GuestLaw { twoGuests with pending := [.unbar boss 2] }
      ∧ ∃ t, step { twoGuests with pending := [.unbar boss 2] } = .next t :=
  ⟨by unfold GuestLaw; decide +kernel, _, rfl⟩

/-- An open request of till 1. -/
def openRequest : OpenRequest :=
  ⟨0, 40001, 0xA1, 0x0A640005, 5000, 0xAC100005, 5000, 2, some 0, false, 0, 0, .waiting, 8000⟩

/-- The shop with an open request in slots 0 and 63. -/
def tracking : State :=
  { shopAt 8000 with tracker := { shop.tracker with
      slots := (shop.tracker.slots.set 0 (some openRequest)).set 63 (some { openRequest with tag := 0xA2 }) } }

theorem witness_EveryStepKeepsTheTrackerLaw :
    TrackerLaw { tracking with pending := [.waitingExpiry 0] }
      ∧ ∃ t, step { tracking with pending := [.waitingExpiry 0] } = .next t := by
  refine ⟨⟨?_, ?_, ?_⟩, _, rfl⟩
  · intro i r h
    have key : ∀ j : Fin 64, (tracking.tracker.slots[j]).all (fun x => tracking.tills[x.till].enabled) = true := by
      decide +kernel
    have := key i
    change tracking.tracker.slots[i] = some r at h
    rw [h] at this
    exact this
  · decide +kernel
  · have key : ∀ a b : Fin 64, a = b ∨ (tracking.tracker.slots[a]).map OpenRequest.tag
        ≠ (tracking.tracker.slots[b]).map OpenRequest.tag ∨ tracking.tracker.slots[a] = none := by
      decide +kernel
    intro i j r r' h h' _ _ g
    change tracking.tracker.slots[i] = some r at h
    change tracking.tracker.slots[j] = some r' at h'
    rcases key i j with e | e | e
    · exact e
    · rw [h, h'] at e
      exact absurd (congrArg some g) e
    · rw [h] at e
      exact absurd e (by simp)

/-- Two records journaled, the first of them sent. -/
def journaled : State :=
  { shopNight (fun n => { n with state := .draining, window := 4, ackTimer := some ⟨0, 5000⟩ }) with
    journal := ⟨[record 1, record 2], 1, 2, 3⟩, pool := { shop.pool with free := 131070, journalHeld := 2 } }

theorem witness_EveryStepKeepsThePoolAndJournalLaws :
    PoolLaw { journaled with pending := [.ack collector 1] } ∧ JournalLaw { journaled with pending := [.ack collector 1] }
      ∧ ∃ t, step { journaled with pending := [.ack collector 1] } = .next t :=
  ⟨by unfold PoolLaw; decide +kernel, by
    refine ⟨?_, by decide +kernel, by decide +kernel⟩
    intro k h
    match k, h with
    | 0, _ => rfl
    | 1, _ => rfl
    | n + 2, h => exact absurd h (by simp [journaled]), _, rfl⟩

/-- One update queued, and one for the same label number in flight. -/
def delivering : State :=
  { shopLabels .opened (fun l => { l with
      queue := [update 5 0], inFlight := [{ update 5 1 with sentTick := some 0, deadline := some 10000 }] }) with
    pool := { shop.pool with free := 131070, labelHeld := 2 } }

theorem witness_EveryStepKeepsTheLabelLaw :
    LabelLaw { delivering with pending := [.linkLoss .label] }
      ∧ ∃ t, step { delivering with pending := [.linkLoss .label] } = .next t :=
  ⟨by unfold LabelLaw; decide +kernel, _, rfl⟩

theorem witness_EveryStepKeepsTheIsolationLaw :
    IsolationLaw { shop with pending := [.swap boss] } ∧ ∃ t, step { shop with pending := [.swap boss] } = .next t :=
  ⟨by unfold IsolationLaw; decide +kernel, _, rfl⟩

theorem witness_ControlStateChangesOnlyByItsCommands : ∃ t, exec (.closePart boss) shop = .next t := ⟨_, rfl⟩

/-- Each command of the statement changes what it may change. -/
theorem witness_ControlStateChanges :
    (after .msTickAdvance shop).tick ≠ shop.tick
      ∧ (after (.linkLoss .guest) shop).links ≠ shop.links
      ∧ (after (.closePart boss) shop).agent.partState ≠ shop.agent.partState
      ∧ (after (.release boss) shop).agent.holder ≠ shop.agent.holder
      ∧ (after (.swap boss) shop).classifier.active ≠ shop.classifier.active := by
  decide +kernel

/-- An ACK of the collector for sequence 1, as a frame. -/
def ackFrame : Bytes :=
  datagramTo 0x020000000001 0x0A640001 0x0A000002 7417 7417 64 ([8, 0, 0, 12, 0, 0, 0, 5] ++ be32 1)

theorem witness_JournalRecordsLeaveByAckOrDiscard :
    (∃ t, exec (.frameReceived .uplink true ackFrame) journaled = .next t)
      ∧ (after (.frameReceived .uplink true ackFrame) journaled).journal.records = [record 2]
      ∧ (after (.ack collector 1) journaled).journal.records = [record 2]
      ∧ decodeNight (word48 ackFrame 6) (ipv4Fields ackFrame).source 7417 (udpPayload ackFrame (ipv4Fields ackFrame))
        = some (.ack collector 1) := ⟨⟨_, rfl⟩, by decide +kernel⟩

theorem witness_EventsAreCountedAndPairsCompared :
    ({ shop with counters := { shop.counters with frozen := true } } : State).counters.frozen = true
      ∧ (∃ t, exec .guestAging { shop with counters := { shop.counters with frozen := true } } = .next t)
      ∧ (∀ q, Instr.guestAging ≠ .countersStart ⟨q, 2⟩) ∧ (∀ q ns, Instr.guestAging ≠ .countersClear q ns)
      ∧ Instr.guestAging ≠ .deviceReset :=
  ⟨rfl, ⟨_, rfl⟩, by simp, by simp, by simp⟩

/-- Counters 1, 7 and 8 one below their overflow, the last two behind the trigger, and 7 for unmarked events alone. -/
def counting : State :=
  { shop with counters := { shop.counters with
      group := ⟨true, true, true, true, false⟩, triggerState := .waiting
      counters := ((shop.counters.counters.set 0 ⟨0x7FFFFFFF, false, .exactly (.spool .gap), .always, true⟩).set 6
        ⟨0x7FFFFFFF, false, .any .spool, .unmarkedOnly, true⟩).set 7 ⟨0x7FFFFFFF, false, .any .spool, .markedOnly, true⟩ } }

/-- A marked Gap event of weight 1. -/
def gap : Occurrence := ⟨.spool .gap, 1, ⟨true, some 1, .till, some 3⟩, none⟩

/-- Counter 1 takes the event and releases the trigger within it, so that counter 8 takes it too; both overflow. -/
theorem witness_EventsAreCountedAndPairsCompared_count :
    counting.alerts.destination = none
      ∧ (∀ i : Fin 8, (i = 0 ∨ i = 7) ↔ (i = 0 ∨ i = 7) ∧ counting.counters.counters[i].overflow = false
        ∧ 2 ^ 31 ≤ counting.counters.counters[i].value.toNat + gap.weight)
      ∧ (∀ i : Fin 8, (i = 0 ∨ i = 7) ↔ counting.counters.group.globalEnable = true
        ∧ counting.counters.counters[i].run = true ∧ counting.counters.frozen = false
        ∧ (i = 0 ∨ counting.counters.group.trigger = false ∨ counting.counters.triggerState = .released
          ∨ ((0 : Fin 8) = 0 ∨ (0 : Fin 8) = 7))
        ∧ (counting.counters.counters[i].selector = .any gap.name.kind
          ∨ counting.counters.counters[i].selector = .exactly gap.name)
        ∧ (counting.counters.counters[i].condition = .always
          ∨ (gap.origin.windowIndex ≠ none ∧ counting.counters.counters[i].condition = .markedOnly
            ∧ gap.origin.mark = true)
          ∨ (gap.origin.windowIndex ≠ none ∧ counting.counters.counters[i].condition = .unmarkedOnly
            ∧ gap.origin.mark = false)))
      ∧ (∀ i : Fin 8, (i = 0 ∨ i = 7) ↔ (i = 0 ∨ i = 7)
        ∧ (if i = 0 then counting.counters.group.alertEnable1 else counting.counters.group.alertEnable28) = true)
      ∧ (∀ x, counting.counters.sample ≠ .held x) ∧ 7 ≠ (0 : Fin 8)
      ∧ ({ counting.counters with sample := .held ⟨0, .till, none, none, none⟩ } : CounterUnit).sample
        = .held ⟨0, .till, none, none, none⟩ := by
  refine ⟨by decide +kernel, by decide +kernel, by decide +kernel, by decide +kernel, fun x => ?_, by decide, rfl⟩
  exact SampleRecord.noConfusion

/-- A pair of which both thresholds fire at a value of 10 blocks, and one with both disarmed. -/
def watching (armed : Bool) : State :=
  { shop with
    pool := { shop.pool with free := 131062, journalHeld := 10 }
    thresholds := { shop.thresholds with journal := ⟨⟨20, true, armed, true, .above⟩, ⟨9, true, armed, false, .below⟩⟩ } }

/-- What the statement says of a firing at 10, of the high threshold or of the low one. -/
def firesAtTen (high : Bool) (x : Threshold) : Prop :=
  x.enabled = true ∧ x.armed = true ∧ (if high then x.value < 10 else 10 < x.value)
    ∧ (x.resultValid = false ∨ x.last = if high then .below else .above)

theorem witness_EventsAreCountedAndPairsCompared_pair :
    (watching true).alerts.destination = none ∧ (watching true).pool.journalHeld = 10
      ∧ (∀ x, firesAtTen false x ↔ x.enabled = true ∧ x.armed = true ∧ 10 < x.value
        ∧ (x.resultValid = false ∨ x.last = .above))
      ∧ (∀ x, firesAtTen true x ↔ x.enabled = true ∧ x.armed = true ∧ x.value < 10
        ∧ (x.resultValid = false ∨ x.last = .below))
      ∧ firesAtTen false ((watching true).thresholds.get .journal).low
      ∧ firesAtTen true ((watching true).thresholds.get .journal).high
      ∧ ((watching false).thresholds.get .journal).high.armed = false :=
  ⟨rfl, rfl, fun _ => by simp [firesAtTen], fun _ => by simp [firesAtTen], by simp [firesAtTen, watching, Thresholds.get],
    by simp [firesAtTen, watching, Thresholds.get], rfl⟩

/-- Frames queued while UPLINK was DOWN. -/
def linkless (urgent : List Frame) : State :=
  { shop with
    links := { shop.links with uplink := none }
    uplink := { shop.uplink with queues := ⟨urgent, [built], [], [built]⟩ } }

theorem witness_LinkUpTakesTheSpeed :
    (Segment.uplink ≠ .uplink ∨ shop.night.state ≠ .draining) ∧ Segment.guest ≠ .uplink
      ∧ Segment.guest ≠ shop.ports.managementPort ∧ (linkless []).night.state ≠ .draining
      ∧ (linkless []).alerts.destination = none ∧ (linkless []).uplink.transmitting = none
      ∧ (linkless []).uplink.queues.get .transfer ≠ [] ∧ built.kind ≠ .opening ∧ (linkless [built]).uplink.queues.urgent ≠ []
      ∧ shop.uplink.queues = ⟨[], [], [], []⟩ := by
  decide +kernel

/-- A source pending since the management port went DOWN. -/
def silenced : State :=
  { shop with
    links := { shop.links with office := none }
    alerts := { shop.alerts with pending := shop.alerts.pending.set 11 (some .new), destination := some 9 } }

theorem witness_LinkUpTakesTheSpeed_alert :
    Segment.office = egressSegment .office ∧ silenced.ports.managementPort = .office
      ∧ silenced.alerts.destination = some 9 ∧ (∃ i : Fin 14, silenced.alerts.pending[i] ≠ none)
      ∧ silenced.alerts.timer = none ∧ (silenced.egress.get .office).length < 64 := by
  decide +kernel

theorem witness_LinkLossEmptiesThePort :
    fresh.up .till = false ∧ (∀ p : EgressPort, shop.up (egressSegment p) = true) ∧ shop.up .uplink = true
      ∧ shop.night.state = .idle ∧ journaled.up .uplink = true ∧ journaled.night.state = .draining
      ∧ delivering.up .label = true :=
  ⟨by decide +kernel, fun p => by cases p <;> decide +kernel, by decide +kernel⟩

/-- A frame of 60 bytes to a destination station. -/
def frameFor (station : Station) : Bytes := padFrame (be48 station ++ be48 9 ++ [0x88, 0xB5, 0, 7, 1, 0])

theorem witness_ReceiveChecksDiscardBadAndForeignFrames :
    fresh.up .till = false ∧ shop.up .till = true ∧ (List.replicate 59 (0 : Byte)).length < 60
      ∧ 1518 < (List.replicate 1519 (0 : Byte)).length ∧ 60 ≤ (frameFor 0x0B).length ∧ (frameFor 0x0B).length ≤ 1518
      ∧ word48 (frameFor 0x0B) 0 ≠ shop.station ∧ word48 (frameFor 0x0B) 0 ≠ 0xFFFFFFFFFFFF := by
  decide +kernel

/-- An ARP request of a station and network address for a gateway address. -/
def arpFrom (station : Station) (sender target : NetAddr) : Bytes :=
  padFrame (be48 0xFFFFFFFFFFFF ++ be48 station ++ [8, 6, 0, 1, 8, 0, 6, 4, 0, 1] ++ be48 station ++ be32 sender
    ++ be48 0 ++ be32 target)

/-- What makes an ARP frame a request for the gateway address of a segment of the shop. -/
def asksFor (port : Segment) (bs : Bytes) : Bool :=
  60 ≤ bs.length && bs.length ≤ 1518 && word48 bs 0 == 0xFFFFFFFFFFFF && shop.up port && word16 bs 12 == 0x0806
    && word16 bs 14 == 1 && word16 bs 16 == 0x0800 && byteAt bs 18 == 6 && byteAt bs 19 == 4 && word16 bs 20 == 1
    && word32 bs 38 != 0 && shop.ports.gateways.get port == word32 bs 38

/-- The station addresses and network addresses of requests on OFFICE, TILL (a till's and another's) and UPLINK. -/
theorem witness_FramesForThePartAreAnsweredOrQueued_arp :
    asksFor .office (arpFrom 9 0x0A00040C 0x0A000401) = true
      ∧ asksFor .uplink (arpFrom 9 0x0A000001 0x0A000002) = true
      ∧ asksFor .till (arpFrom 0x020000000101 0x0A00010B 0x0A000101) = true
      ∧ asksFor .till (arpFrom 9 0x0A00010B 0x0A000101) = true ∧ shop.alerts.destination = none
      ∧ (shop.egress.get .office).length < 64 ∧ (shop.egress.get .till).length < 64 ∧ shop.running = true
      ∧ shop.tills[0].enabled = true ∧ shop.tills[0].station = word48 (arpFrom 0x020000000101 0x0A00010B 0x0A000101) 6
      ∧ shop.tills[0].address = word32 (arpFrom 0x020000000101 0x0A00010B 0x0A000101) 28
      ∧ (∀ i : Fin 32, shop.tills[i].enabled = true →
        shop.tills[i].station ≠ word48 (arpFrom 9 0x0A00010B 0x0A000101) 6)
      ∧ (busy shop).uplink.transmitting ≠ none
      ∧ (busy shop).uplink.queues.urgent.length < (busy shop).uplink.limits.urgent
      ∧ queuedTotal (busy shop).uplink.queues < 256 := by
  decide +kernel

/-- The guest table's state once a frame has been received on GUEST from a station. -/
def heard (station : Station) (s : State) : State :=
  offer ⟨.received .guest, 1, ⟨false, none, .guest, some station⟩, none⟩ s

/-- An unknown station admitted on an ARP request for the GUEST gateway address. -/
theorem witness_FramesForThePartAreAnsweredOrQueued_guest :
    (asksFor .guest (arpFrom 3 0x0A00030D 0x0A000301) = true ∧ twoGuests.up .guest = true ∧ twoGuests.running = true
        ∧ word48 (arpFrom 3 0x0A00030D 0x0A000301) 6 = 3 ∧ word32 (arpFrom 3 0x0A00030D 0x0A000301) 28 = 0x0A00030D)
      ∧ ∃ u, (heard 3 twoGuests).guestPasses u 3 0x0A00030D 60 := by
  refine ⟨by decide +kernel, _, ?_, ?_, .inr ⟨_, rfl, ?_, .inl ⟨?_, rfl⟩⟩⟩ <;> (try unfold State.inGuestRange) <;>
    decide +kernel

theorem witness_FramesForThePartAreAnsweredOrQueued_request :
    60 ≤ (frameFor here).length ∧ (frameFor here).length ≤ 1518 ∧ word48 (frameFor here) 0 = shop.station
      ∧ shop.up shop.ports.managementPort = true ∧ word16 (frameFor here) 12 = shop.ports.managementType
      ∧ shop.ports.managementType ≠ 0x0800 ∧ shop.ports.managementType ≠ 0x0806 ∧ shop.agent.queue.length < 8
      ∧ 8 ≤ ({ shop with agent := { shop.agent with
        queue := List.replicate 8 ⟨boss.reply, [0, 7, 1, 0]⟩ } } : State).agent.queue.length := by
  decide +kernel

/-- A request of a remote station to the agent, of tag and command code alone. -/
def remoteFrame (source : NetAddr) : Bytes := datagramTo 0x020000000001 source 0x0A000002 7416 7416 64 [0, 8, 1]

theorem witness_FramesForThePartAreAnsweredOrQueued_remote :
    60 ≤ (remoteFrame 0x0A640001).length ∧ (remoteFrame 0x0A640001).length ≤ 1518
      ∧ word48 (remoteFrame 0x0A640001) 0 = shop.station ∧ shop.up .uplink = true
      ∧ word48 (remoteFrame 0x0A640001) 0 ≠ 0xFFFFFFFFFFFF ∧ word16 (remoteFrame 0x0A640001) 12 = 0x0800
      ∧ parseIpv4 (remoteFrame 0x0A640001) = some (ipv4Fields (remoteFrame 0x0A640001))
      ∧ (ipv4Fields (remoteFrame 0x0A640001)).unfragmented = true ∧ (ipv4Fields (remoteFrame 0x0A640001)).protocol = 17
      ∧ (ipv4Fields (remoteFrame 0x0A640001)).destination ≠ 0
      ∧ (ipv4Fields (remoteFrame 0x0A640001)).destination = shop.ports.gateways.uplink
      ∧ (ipv4Fields (remoteFrame 0x0A640001)).destinationService = some shop.ports.agentService
      ∧ (ipv4Fields (remoteFrame 0x0A640001)).sourceService = some 7416
      ∧ (True ↔ udpChecksumAccepted (remoteFrame 0x0A640001) (ipv4Fields (remoteFrame 0x0A640001)) = true
        ∧ shop.night.settings.collector ≠ 0
        ∧ (ipv4Fields (remoteFrame 0x0A640001)).source = shop.night.settings.collector
        ∧ 3 ≤ (udpPayload (remoteFrame 0x0A640001) (ipv4Fields (remoteFrame 0x0A640001))).length)
      ∧ (False ↔ udpChecksumAccepted (remoteFrame 0x0A640001) (ipv4Fields (remoteFrame 0x0A640001)) = true
        ∧ fresh.night.settings.collector ≠ 0
        ∧ (ipv4Fields (remoteFrame 0x0A640001)).source = fresh.night.settings.collector
        ∧ 3 ≤ (udpPayload (remoteFrame 0x0A640001) (ipv4Fields (remoteFrame 0x0A640001))).length) := by
  decide +kernel

/-- A frame of OFFICE to till 1. -/
def officeFrame : Bytes := datagramTo 0x020000000401 0x0A00040B 0x0A00010B 6001 5001 2 [1, 2]

theorem witness_LookupAndResolutionDecideTheFrame :
    shop.arrives .office officeFrame (ipv4Fields officeFrame) ∧ shop.alerts.destination = none
      ∧ (lookupCopy shop.classifier .office (ipv4Fields officeFrame)).action = .forward
      ∧ (lookupCopy shop.classifier .office (ipv4Fields officeFrame)).destination = egressSegment .till
      ∧ 2 ≤ (ipv4Fields officeFrame).ttl.toNat
      ∧ (lookupCopy shop.classifier .office (ipv4Fields officeFrame)).translate = none
      ∧ resolve shop (some .office) .till (ipv4Fields officeFrame).destination = .ok 0x020000000101
      ∧ (shop.egress.get .till).length < 64 := by
  unfold State.arrives; decide +kernel

/-- A shop whose window takes frames of any segment: to UPLINK with the destination's last byte kept, Track, and Spool. -/
def relay : State :=
  busy { shop with classifier := { shop.classifier with bankA := { Bank.reset with
    entries := ((Bank.reset.entries.set 0
      { window ⟨true, true, true, false, true⟩ 5001 .forward .uplink 0 with
        translate := some 0xAC100400, mask := 0xFFFFFF00, base := 0x0A640000, uplinkClass := .urgent }).set 1
      (window ⟨true, true, true, false, true⟩ 5002 .track .uplink 0)).set 2
      (window ⟨true, true, true, false, true⟩ 5003 .spool .uplink 0) } } }

/-- A frame of the till, the base station, the router or the office to a service of a far server. -/
def relayed (station : Station) (source : NetAddr) (service : Service) (ttl : Byte) : Bytes :=
  datagramTo station source 0x0A640005 6001 service ttl [1, 2]

/-- Forward to UPLINK from TILL, LABEL and UPLINK, translated, with an expired TTL too; Track and Spool of OFFICE. -/
theorem witness_LookupAndResolutionDecideTheFrame_uplink :
    (∀ x ∈ [(Segment.till, relayed 0x020000000101 0x0A00010B 5001 2), (.label, relayed 9 0x0A00020B 5001 2),
        (.uplink, relayed 9 0x0A640007 5001 1), (.office, relayed 9 0x0A00040B 5002 2),
        (.office, relayed 9 0x0A00040B 5003 1)],
      relay.arrives x.1 x.2 (ipv4Fields x.2)
        ∧ (lookupCopy relay.classifier x.1 (ipv4Fields x.2)).action
          = (match (ipv4Fields x.2).destinationService with
            | some 5001 => .forward | some 5002 => .track | _ => .spool)
        ∧ ((lookupCopy relay.classifier x.1 (ipv4Fields x.2)).action = .forward →
          (lookupCopy relay.classifier x.1 (ipv4Fields x.2)).destination = .uplink
            ∧ (lookupCopy relay.classifier x.1 (ipv4Fields x.2)).translate = some 0xAC100400
            ∧ resolve relay (some x.1) .uplink 0xAC100405 = .ok 0x020000000001))
      ∧ relay.alerts.destination = none ∧ relay.tills[0].enabled = true ∧ relay.tills[0].station = 0x020000000101
      ∧ relay.tills[0].address = 0x0A00010B ∧ (∀ i : Fin 64, relay.tracker.slots[i] = none)
      ∧ relay.uplink.transmitting ≠ none ∧ relay.uplink.queues.urgent.length < relay.uplink.limits.urgent
      ∧ queuedTotal relay.uplink.queues < 256 := by
  unfold State.arrives; decide +kernel

/-- The same frame to a service number that no entry takes, so that the default drops it. -/
def deniedFrame : Bytes := datagramTo 0x020000000401 0x0A00040B 0x0A00010B 6001 5002 2 [1, 2]

theorem witness_LookupAndResolutionDecideTheFrame_drop :
    shop.arrives .office deniedFrame (ipv4Fields deniedFrame)
      ∧ (lookupCopy shop.classifier .office (ipv4Fields deniedFrame)).action = .drop := by
  unfold State.arrives; decide +kernel

/-- The bank of the shop with a second entry for what entry 2 takes, pinned or not, at index 63. -/
def twice (pinned : Bool) : Bank :=
  { shopBank with
    entries := shopBank.entries.set 63
      { window ⟨false, false, false, false, true⟩ 5001 .drop .uplink 0 with pinned := pinned } }

/-- What the statement says of a match, for a frame of OFFICE. -/
def foundFor (bank : Bank) (ip : Ipv4) (i : Fin 64) : Bool :=
  bank.entries[i].enabled && bank.entries[i].sources.office
    && ((match bank.entries[i].key with | .destination => ip.destination | .source => ip.source)
      &&& bank.entries[i].mask) == (bank.entries[i].base &&& bank.entries[i].mask)
    && (bank.entries[i].protocol == none || bank.entries[i].protocol == some ip.protocol)
    && (match bank.entries[i].range, ip.destinationService with
      | none, _ => true
      | some r, some d => ip.unfragmented && (ip.protocol == 6 || ip.protocol == 17)
        && decide (r.1.toNat ≤ d.toNat ∧ d.toNat ≤ r.2.toNat)
      | some _, none => false)

/-- Of two matching entries the pinned one, else the lower; the default where none matches. -/
theorem witness_LookupAndResolutionDecideTheFrame_lookup :
    (foundFor (twice true) (ipv4Fields officeFrame) 63 = true ∧ (twice true).entries[63].pinned = true
        ∧ ∀ j : Fin 64, j < 63 → foundFor (twice true) (ipv4Fields officeFrame) j = true →
          (twice true).entries[j].pinned = false)
      ∧ (foundFor (twice false) (ipv4Fields officeFrame) 2 = true
        ∧ ∀ j : Fin 64, foundFor (twice false) (ipv4Fields officeFrame) j = true →
          (twice false).entries[j].pinned = false ∧ 2 ≤ j)
      ∧ ∀ i : Fin 64, foundFor (twice true) (ipv4Fields deniedFrame) i = false := by
  decide +kernel

theorem witness_LookupAndResolutionDecideTheFrame_resolution :
    shop.ports.nextHop = some 0x020000000001 ∧ fresh.ports.nextHop = none ∧ fresh.up .till = false
      ∧ shop.up .till = true ∧ shop.tills[0].enabled = true ∧ shop.tills[0].address = 0x0A00010B
      ∧ (∀ i : Fin 32, shop.tills[i].enabled = true → shop.tills[i].address ≠ 0x0A00010C) ∧ shop.up .label = true
      ∧ shop.ports.baseStation = some ⟨0x020000000201, 0x0A00020B, 7418⟩ ∧ fresh.ports.baseStation = none
      ∧ shop.up .office = true ∧ shop.office[0].enabled = true ∧ shop.office[0].address = 0x0A00040B
      ∧ (∀ i : Fin 8, shop.office[i].enabled = true → shop.office[i].address ≠ 0x0A00040C) ∧ twoGuests.up .guest = true
      ∧ twoGuests.guest.table = [⟨1, 0x0A00030B, 0, 60000, 0, 0, 1, 60, false⟩]
        ++ ⟨2, 0x0A00030C, 0, 0, 0, 0, 1, 60, true⟩ :: []
      ∧ (∀ e ∈ twoGuests.guest.table, e.address ≠ 0x0A00030D)
      ∧ resolve fresh (some .office) .till 0x0A00010B = .error .noStation
      ∧ (lookupCopy shop.classifier .office (ipv4Fields officeFrame)).destination = .till := by
  decide +kernel

theorem witness_GuestFramesJoinNoEgressQueue :
    IsolationLaw shop ∧ ∃ t, exec (.frameReceived .guest true (frameFor here)) shop = .next t :=
  ⟨by unfold IsolationLaw; decide +kernel, _, rfl⟩

theorem witness_ClosedPartHandsOnNoFrame : fresh.running = false := by decide +kernel

/-- A payment request of till 1 with tag 0x000000A3 at offset 2. -/
def request : Bytes := datagramTo 0x020000000101 0x0A00010B 0x0A640005 40001 5000 2 [9, 9, 0, 0, 0, 0xA3]

theorem witness_TillRequestIsTracked :
    shop.arrives .till request (ipv4Fields request)
      ∧ (lookupCopy shop.classifier .till (ipv4Fields request)).action = .track
      ∧ 2 ≤ (ipv4Fields request).ttl.toNat
      ∧ shop.tillOf (word48 request 6) (ipv4Fields request).source = some 0 ∧ (ipv4Fields request).protocol = 17
      ∧ (ipv4Fields request).unfragmented = true ∧ (ipv4Fields request).payloadOffset.isSome = true
      ∧ (lookupCopy shop.classifier .till (ipv4Fields request)).offset.toNat + 4
        ≤ (udpPayload request (ipv4Fields request)).length
      ∧ (0xA3 : BitVec 32) = word32 (udpPayload request (ipv4Fields request))
        (lookupCopy shop.classifier .till (ipv4Fields request)).offset.toNat := by
  unfold State.arrives; decide +kernel

theorem witness_TillRequestIsTracked_new_repeat_limit :
    (shop.tracker.findKey 0 40001 0xA3 = none ∧ shop.tracker.openCount 0 < shop.tills[0].openLimit
        ∧ shop.tracker.slots[0] = none)
      ∧ (tracking.tracker.findKey 0 40001 0xA2 = some 63
        ∧ tracking.tracker.slots[63] = some { openRequest with tag := 0xA2 })
      ∧ tracking.tracker.findKey 0 40001 0xA3 = none ∧ tracking.tills[0].openLimit ≤ tracking.tracker.openCount 0 := by
  decide +kernel

/-- Every slot taken, by entries of another till. -/
def slotless : State :=
  { busy shop with tracker := { shop.tracker with slots := Vector.replicate 64 (some { openRequest with till := 1 }) } }

/-- The request is sent from a full table too: the transmitter is busy and URGENT has room. -/
theorem witness_TillRequestIsTracked_sent :
    slotless.tracker.findKey 0 40001 0xA3 = none ∧ slotless.tracker.openCount 0 < slotless.tills[0].openLimit
      ∧ (∀ i : Fin 64, slotless.tracker.slots[i] ≠ none) ∧ slotless.alerts.destination = none
      ∧ slotless.ports.nextHop = some 0x020000000001 ∧ slotless.uplink.transmitting ≠ none
      ∧ slotless.uplink.queues.urgent.length < slotless.uplink.limits.urgent
      ∧ queuedTotal slotless.uplink.queues < 256 := by
  decide +kernel

/-- A reply to the request of tag 0x000000A1, with a TTL. -/
def reply (ttl : Byte) : Bytes :=
  datagramTo 0x020000000001 0xAC100005 0x0A00010B 5000 40001 ttl [9, 9, 0, 0, 0, 0xA1]

/-- What the statement says of a reply. -/
def isReplyTo (s : State) (bs : Bytes) (r : OpenRequest) : Prop :=
  (ipv4Fields bs).unfragmented = true ∧ (ipv4Fields bs).protocol = 17 ∧ (ipv4Fields bs).payloadOffset.isSome = true
    ∧ (ipv4Fields bs).source = r.serverAddress ∧ (ipv4Fields bs).sourceService = some r.serverService
    ∧ (ipv4Fields bs).destination = s.tills[r.till].address ∧ (ipv4Fields bs).destinationService = some r.tillService
    ∧ r.tagOffset.toNat + 4 ≤ (udpPayload bs (ipv4Fields bs)).length
    ∧ word32 (udpPayload bs (ipv4Fields bs)) r.tagOffset.toNat = r.tag

theorem witness_MatchedReplyFreesItsRequest :
    tracking.arrives .uplink (reply 2) (ipv4Fields (reply 2)) ∧ tracking.tracker.slots[0] = some openRequest
      ∧ isReplyTo tracking (reply 2) openRequest
      ∧ 2 ≤ (ipv4Fields (reply 2)).ttl.toNat ∧ tracking.alerts.destination = none ∧ tracking.up .till = true
      ∧ tracking.egress.till.length < 64
      ∧ tracking.tillAt (ipv4Fields (reply 2)).destination = some tracking.tills[0]
      ∧ tracking.arrives .uplink (reply 1) (ipv4Fields (reply 1))
      ∧ isReplyTo tracking (reply 1) openRequest
      ∧ (ipv4Fields (reply 1)).ttl.toNat ≤ 1
      ∧ shop.arrives .uplink (reply 2) (ipv4Fields (reply 2))
      ∧ (∀ i : Fin 64, shop.tracker.slots[i] = none) := by
  unfold State.arrives isReplyTo; decide +kernel

/-- A sale record of till 1 with a payload, and one with record number 7. -/
def saleOf (payload : Bytes) : Bytes := datagramTo 0x020000000101 0x0A00010B 0x0A640006 40002 6000 64 payload
def sale : Bytes := saleOf [0, 0, 0, 7]

theorem witness_SaleRecordIsJournaledOnce :
    shop.arrives .till sale (ipv4Fields sale) ∧ (lookupCopy shop.classifier .till (ipv4Fields sale)).action = .spool
      ∧ shop.tillOf (word48 sale 6) (ipv4Fields sale).source = some 0 ∧ (ipv4Fields sale).protocol = 17
      ∧ (ipv4Fields sale).unfragmented = true ∧ (ipv4Fields sale).payloadOffset.isSome = true
      ∧ udpChecksumAccepted sale (ipv4Fields sale) = true
      ∧ (lookupCopy shop.classifier .till (ipv4Fields sale)).offset.toNat + 4 ≤ (udpPayload sale (ipv4Fields sale)).length
      ∧ (udpPayload sale (ipv4Fields sale)).length ≤ 1024
      ∧ (7 : Seq) = word32 (udpPayload sale (ipv4Fields sale))
        (lookupCopy shop.classifier .till (ipv4Fields sale)).offset.toNat := by
  unfold State.arrives; decide +kernel

/-- A record too short for its number, and the till the notices reach. -/
theorem witness_SaleRecordIsJournaledOnce_told :
    shop.arrives .till (saleOf [0, 0, 0]) (ipv4Fields (saleOf [0, 0, 0]))
      ∧ (lookupCopy shop.classifier .till (ipv4Fields (saleOf [0, 0, 0]))).action = .spool
      ∧ (udpPayload (saleOf [0, 0, 0]) (ipv4Fields (saleOf [0, 0, 0]))).length < 4
      ∧ shop.running = true ∧ shop.alerts.destination = none ∧ shop.up .till = true ∧ shop.egress.till.length < 64
      ∧ shop.tillAt 0x0A00010B = some shop.tills[0] := by
  unfold State.arrives; decide +kernel

/-- Its three outcomes: new with room, new without room, and a duplicate. -/
theorem witness_SaleRecordIsJournaledOnce_outcomes :
    shop.tills[0].lastAccepted = none ∧ 1 + (shop.pool.labelReserve - shop.pool.labelHeld) ≤ shop.pool.free
      ∧ (⟨16384, 114688, 0, 98304, 16384⟩ : Pool).free < 1 + (16384 - 0)
      ∧ (1 ≤ ((7 : Seq) - 6).toNat ∧ ((7 : Seq) - 6).toNat ≤ 2 ^ 31 - 1)
      ∧ 2 ^ 31 ≤ ((7 : Seq) - (7 + 0x80000000)).toNat := by
  decide +kernel

/-- A frame of a guest station to a far server. -/
def guestFrame (station : Station) (source : NetAddr) : Bytes :=
  datagramTo station source 0xC6336407 6002 5003 2 []

/-- A frame of a guest station to the OFFICE gateway address. -/
def guestToGateway (station : Station) : Bytes := datagramTo station 0x0A00030D 0x0A000401 6002 5003 2 []

/-- An unknown station with room, its frame to a far server and to a gateway address, and its ARP request. -/
theorem witness_GuestStationIsAdmittedAtTheHead :
    (twoGuests.arrives .guest (guestFrame 3 0x0A00030D) (ipv4Fields (guestFrame 3 0x0A00030D))
      ∧ (ipv4Fields (guestFrame 3 0x0A00030D)).source = 0x0A00030D ∧ word48 (guestFrame 3 0x0A00030D) 6 = 3
      ∧ parseIpv4 (guestToGateway 3) = some (ipv4Fields (guestToGateway 3)) ∧ word16 (guestToGateway 3) 12 = 0x0800
      ∧ (ipv4Fields (guestToGateway 3)).source = 0x0A00030D
      ∧ (ipv4Fields (guestToGateway 3)).destination = twoGuests.ports.gateways.get .office
      ∧ word16 (arpFrom 3 0x0A00030D 7) 12 = 0x0806 ∧ word48 (arpFrom 3 0x0A00030D 7) 0 = broadcastStation)
      ∧ ∃ u, (heard 3 twoGuests).guestPasses u 3 0x0A00030D 60 :=
  ⟨by unfold State.arrives; decide +kernel, witness_FramesForThePartAreAnsweredOrQueued_guest.2⟩

/-- The known station with its own address and with a new one. -/
theorem witness_GuestStationIsAdmittedAtTheHead_known :
    twoGuests.arrives .guest (guestFrame 1 0x0A00030D) (ipv4Fields (guestFrame 1 0x0A00030D))
      ∧ (∃ u, (heard 1 twoGuests).guestPasses u 1 0x0A00030B 60)
      ∧ ∃ u, (heard 1 twoGuests).guestPasses u 1 0x0A00030D 60 :=
  ⟨by unfold State.arrives; decide +kernel,
    ⟨_, by decide +kernel, by unfold State.inGuestRange; decide +kernel, .inl ⟨[], _, _, rfl, rfl, by decide +kernel, rfl,
      .inl rfl, rfl⟩⟩,
    ⟨_, by decide +kernel, by unfold State.inGuestRange; decide +kernel, .inl ⟨[], _, _, rfl, rfl, by decide +kernel, rfl,
      .inr (by decide +kernel), rfl⟩⟩⟩

/-- A full guest table, every entry barred but the head, and its head idle for 60 s or 59.999 s. -/
def crowded (last : Tick) : State :=
  { shopAt 60000 with guest := {
      settings := shop.guest.settings
      table := ⟨0x1000, 0x0A000380, 0, last, 0, 0, 1, 60, false⟩ :: (List.range 127).map fun n =>
        ⟨BitVec.ofNat 48 (n + 1), BitVec.ofNat 32 n, 0, 0, 0, 0, 1, 60, true⟩ } }

/-- A victim at the minimum idle, one just short of it, and none. -/
theorem witness_GuestStationIsAdmittedAtTheHead_full :
    (crowded 0).arrives .guest (guestFrame 0x2000 0x0A00030D) (ipv4Fields (guestFrame 0x2000 0x0A00030D))
      ∧ (∃ u, (heard 0x2000 (crowded 0)).guestPasses u 0x2000 0x0A00030D 60)
      ∧ ((crowded 1).levels.guestState.value = .opened
      ∧ (∀ e ∈ (crowded 1).guest.table, e.station ≠ 0x2000 ∧ e.address ≠ 0x0A00030D)
      ∧ 128 ≤ (crowded 1).guest.table.length ∧ (∀ x ∈ (crowded 1).guest.table.drop 1, x.barred = true)
      ∧ ((crowded 1).tick - 1).toNat < 1000 * (crowded 1).guest.settings.minIdle) :=
  ⟨by unfold State.arrives; decide +kernel,
    ⟨_, by decide +kernel, by unfold State.inGuestRange; decide +kernel, .inr ⟨_, rfl, by decide +kernel,
      .inr ⟨by decide +kernel, [], _, _, _, rfl, rfl, by decide +kernel, by decide +kernel, by decide +kernel, rfl, rfl⟩⟩⟩,
    by decide +kernel⟩

/-- A closed guest state, an address outside the range, the barred station, and a known and an unknown station with the
barred one's address. -/
theorem witness_GuestStationIsAdmittedAtTheHead_refused :
    fresh.levels.guestState.value = .closed ∧ twoGuests.levels.guestState.value = .opened
      ∧ ¬ twoGuests.inGuestRange 0x0A00040D ∧ ¬ twoGuests.inGuestRange 0x0A000301 ∧ twoGuests.inGuestRange 0x0A00030C
      ∧ twoGuests.guest.table
        = [⟨1, 0x0A00030B, 0, 60000, 0, 0, 1, 60, false⟩] ++ ⟨2, 0x0A00030C, 0, 0, 0, 0, 1, 60, true⟩ :: []
      ∧ (∀ e ∈ twoGuests.guest.table, e.station ≠ 3) ∧ (∃ e ∈ twoGuests.guest.table, e.address = 0x0A00030C)
      ∧ (0x0A00030B : NetAddr) ≠ 0x0A00030C := by
  unfold State.inGuestRange; decide +kernel

/-- The halves of an address, before and after. -/
def halves (old : NetAddr) : Option NetAddr → List (BitVec 16 × BitVec 16)
  | none => []
  | some new => [(old.extractLsb' 16 16, new.extractLsb' 16 16), (old.extractLsb' 0 16, new.extractLsb' 0 16)]

theorem witness_RewriteLowersTheTtlByOne :
    parseIpv4 officeFrame = some (ipv4Fields officeFrame) ∧ 2 ≤ (ipv4Fields officeFrame).ttl.toNat
      ∧ (∀ old, halves old none = []) ∧ (∀ old new, halves old (some new)
        = [(old.extractLsb' 16 16, new.extractLsb' 16 16), (old.extractLsb' 0 16, new.extractLsb' 0 16)]) :=
  ⟨by decide +kernel, by decide +kernel, fun _ => rfl, fun _ _ => rfl⟩

/-- A frame of OFFICE with a correct UDP checksum. -/
def summedFrame : Bytes := patch officeFrame 40 (be16 (udpChecksumBuilt 0x0A00040B 0x0A00010B
  (udpBytes officeFrame (ipv4Fields officeFrame))))

theorem witness_RewriteKeepsTheChecksumsGood :
    parseIpv4 summedFrame = some (ipv4Fields summedFrame) ∧ 2 ≤ (ipv4Fields summedFrame).ttl.toNat
      ∧ (ipv4Fields summedFrame).protocol = 17
      ∧ (ipv4Fields summedFrame).transportChecksum.isSome = true
      ∧ (ipv4Fields summedFrame).transportChecksum ≠ some 0
      ∧ udpChecksumCorrect (ipv4Fields summedFrame).source (ipv4Fields summedFrame).destination
        (udpBytes summedFrame (ipv4Fields summedFrame)) = true
      ∧ (ipv4Fields officeFrame).transportChecksum = some 0 := by
  decide +kernel

/-- A frame in transmission, and one frame in each uplink queue. -/
def sending (urgent guest : List Frame) (gap : Nat) (turn : Turn) : State :=
  { shop with uplink := { shop.uplink with
      queues := ⟨urgent, [built], [built], guest⟩, transmitting := some ⟨built, 0⟩, turn := turn, guestGap := gap } }

theorem witness_TransmissionEndTakesTheNextFrame :
    (∀ p : EgressPort, shop.up (egressSegment p) = true) ∧ shop.up .uplink = true
      ∧ (sending [built] [built] 3 .transfer).uplink.transmitting ≠ none
      ∧ (sending [built] [built] 3 .transfer).night.state ≠ .draining
      ∧ (sending [built] [built] 3 .transfer).alerts.destination = none
      ∧ (sending [] [built] 3 .transfer).uplink.daySpacing ≤ (sending [] [built] 3 .transfer).uplink.guestGap + 1
      ∧ (sending [] [built] 2 .transfer).uplink.guestGap + 1 < (sending [] [built] 2 .transfer).uplink.daySpacing
      ∧ (sending [] [built] 2 .transfer).uplink.queues.transfer = built :: []
      ∧ (sending [] [built] 2 .transfer).uplink.turn = .transfer
      ∧ (sending [] [built] 2 .office).uplink.queues.office = built :: []
      ∧ (sending [] [built] 2 .office).uplink.turn = .office :=
  ⟨fun p => by cases p <;> decide +kernel, by decide +kernel⟩

/-- An OPEN that waits in TRANSFER while the UPLINK gateway address has become unset. -/
def opened : Frame := ⟨.opening, udpFrame 0 1 here 0x0A000002 0x0A640001 7417 7417 [1, 0], 0, ⟨false, none, .uplink, none⟩⟩
def unset : State :=
  { shop with
    ports := { shop.ports with gateways := { shop.ports.gateways with uplink := 0 } }
    uplink := { (busy shop).uplink with queues := ⟨[], [opened], [], []⟩ } }

theorem witness_TransmissionEndTakesTheNextFrame_open :
    opened.kind = .opening ∧ ([1, 0] : Bytes).length ≤ 1400
      ∧ opened.bytes = udpFrame 0 1 here 0x0A000002 0x0A640001 7417 7417 [1, 0]
      ∧ unset.uplink.queues.transfer = opened :: [] ∧ unset.uplink.queues.urgent = []
      ∧ unset.uplink.queues.guest = [] ∧ unset.uplink.turn = .transfer
      ∧ (after .uplinkTransmissionEnd unset).uplink.transmitting.map (fun x => word32 x.frame.bytes 26) = some 0 :=
  ⟨rfl, by decide, rfl, rfl, rfl, rfl, rfl, by decide +kernel⟩

theorem witness_TickAdvanceAndGuestAging :
    (after .msTickAdvance (shopAt 999)).agingDue = true ∧ (shopAt 999).agingDue = false := by
  decide +kernel

/-- A frame of 60 bytes held at the OFFICE meter, which gains 60 bytes in a millisecond. -/
def holding : State :=
  { shopAt 1 with meters := { shop.meters with office :=
      { shop.meters.office with level := 0, day := ⟨60, 1536, .defer⟩, hold := [⟨built, .office⟩, ⟨built, .office⟩] } } }

theorem witness_MetersPassHoldAndRelease :
    (shop.meters.get .office).hold = [] ∧ (holding.meters.get .office).hold ≠ [] ∧ Meter.office ≠ .transfer
      ∧ (60 : Nat) = min (holding.profileInUse .office).depth ((holding.meters.get .office).level
        + (holding.profileInUse .office).rate * min 65535 (holding.tick - (holding.meters.get .office).lastTick).toNat) := by
  decide +kernel

/-- A conforming, a dropped and a deferred presentation: a level of 1,536 and of 0, under Drop, and a meter that holds. -/
theorem witness_MetersPassHoldAndRelease_present :
    (shop.profileInUse .office).action = .drop ∧ built.bytes.length ≤ (shop.meters.get .office).level
      ∧ shop.running = true ∧ shop.alerts.destination = none ∧ (sending [] [] 0 .transfer).uplink.transmitting ≠ none
      ∧ ((sending [] [] 0 .transfer).uplink.queues.get .office).length
        < (sending [] [] 0 .transfer).uplink.limits.get .office
      ∧ queuedTotal (sending [] [] 0 .transfer).uplink.queues < 256 ∧ 0 < built.bytes.length
      ∧ (holding.profileInUse .office).action = .defer
      ∧ ¬ ((holding.profileInUse .office).action = .drop ∨ (holding.meters.get .office).hold = []) := by
  decide +kernel

/-- A frame of OFFICE that the first entry of a bank forwards to UPLINK. -/
def outbound : State :=
  { shop with classifier := { shop.classifier with bankA := {
      shopBank with
      entries := shopBank.entries.set 0 (window ⟨false, false, false, false, true⟩ 5001 .forward .uplink 0) } } }

theorem witness_MetersPassHoldAndRelease_office :
    outbound.arrives .office officeFrame (ipv4Fields officeFrame)
      ∧ (lookupCopy outbound.classifier .office (ipv4Fields officeFrame)).action = .forward
      ∧ (lookupCopy outbound.classifier .office (ipv4Fields officeFrame)).destination = .uplink
      ∧ 2 ≤ (ipv4Fields officeFrame).ttl.toNat ∧ outbound.ports.nextHop = some 0x020000000001 := by
  unfold State.arrives; decide +kernel

/-- A known guest's frame that the GUEST default forwards to UPLINK. -/
theorem witness_MetersPassHoldAndRelease_joint :
    twoGuests.arrives .guest (guestFrame 1 0x0A00030B) (ipv4Fields (guestFrame 1 0x0A00030B))
      ∧ (lookupCopy twoGuests.classifier .guest (ipv4Fields (guestFrame 1 0x0A00030B))).action = .forward
      ∧ (lookupCopy twoGuests.classifier .guest (ipv4Fields (guestFrame 1 0x0A00030B))).destination = .uplink
      ∧ 2 ≤ (ipv4Fields (guestFrame 1 0x0A00030B)).ttl.toNat ∧ twoGuests.ports.nextHop = some 0x020000000001
      ∧ word48 (guestFrame 1 0x0A00030B) 6 = 1 ∧ (ipv4Fields (guestFrame 1 0x0A00030B)).source = 0x0A00030B
      ∧ (guestFrame 1 0x0A00030B).length = 60 := by
  unfold State.arrives; decide +kernel

/-- The GUEST meter with a guest's frame held, and the guest's station meter below a frame's length. -/
def guestHeld : State :=
  { twoGuests with meters := { shop.meters with guest := { shop.meters.guest with
      day := ⟨0, 1536, .defer⟩
      hold := [⟨{ built with origin := ⟨false, none, .guest, some 1⟩ }, .guest⟩] } } }

theorem witness_MetersPassHoldAndRelease_guest :
    guestHeld.guest.table = [] ++ ⟨1, 0x0A00030B, 0, 60000, 0, 0, 1, 60, false⟩
        :: [⟨2, 0x0A00030C, 0, 0, 0, 0, 1, 60, true⟩]
      ∧ (∀ x ∈ ([] : List GuestEntry) ++ [⟨2, 0x0A00030C, 0, 0, 0, 0, 1, 60, true⟩], x.station ≠ 1)
      ∧ (∀ e ∈ guestHeld.guest.table, e.station ≠ 3)
      ∧ built.bytes.length ≤ min 1536 (0 + guestHeld.guest.settings.rate * min 65535 (guestHeld.tick - 0).toNat)
      ∧ min 1536 (0 + guestHeld.guest.settings.rate * min 65535 ((59 : Tick) - 0).toNat) < built.bytes.length
      ∧ (guestHeld.profileInUse .guest).action = .defer ∧ guestHeld.meters.guest.hold ≠ []
      ∧ (twoGuests.profileInUse .guest).action = .drop ∧ built.bytes.length ≤ twoGuests.meters.guest.level
      ∧ (guestHeld.meters.get .guest).hold ≠ [] := by
  decide +kernel

/-- 05: two frames of one guest released at one tick charge its station meter once each, to 0 at the second, and reach
GUEST in order; the third stays (R61, R77). -/
theorem test_release_charges :
    let held := fun tick : Tick => (⟨{ built with entryTick := tick, origin := ⟨false, none, .guest, some 1⟩ }, .guest⟩ : HeldFrame)
    let s : State := { guestHeld with
      uplink := (busy shop).uplink
      guest := { guestHeld.guest with table := [⟨1, 0x0A00030B, 0, 60000, 100, 60000, 1, 60, false⟩] }
      meters := { guestHeld.meters with guest := { guestHeld.meters.guest with level := 120, hold := [held 1, held 2, held 3] } } }
    (after (.meterRelease .guest) s).uplink.queues.guest = [(held 1).frame, (held 2).frame]
      ∧ (after (.meterRelease .guest) s).guest.table.map (·.level) = [0]
      ∧ (after (.meterRelease .guest) s).meters.guest.hold = [held 3]
      ∧ (∀ q : UplinkQueue, (s.uplink.queues.get q).length + ([held 1, held 2].countP fun h => decide (h.queue = q))
        ≤ s.uplink.limits.get q) ∧ queuedTotal s.uplink.queues + 2 ≤ 256 := by
  refine ⟨by decide +kernel, by decide +kernel, by decide +kernel, ?_, by decide +kernel⟩
  intro q; cases q <;> decide +kernel

/-- A second due at the end of the last day, with two entries of one kind at second 0. -/
def midnight : State :=
  { shop with
    clock := ⟨true, ⟨65535, 86399⟩, 0, 1⟩
    schedule := (shop.schedule.set 3 ⟨true, 0, .dayProfile⟩).set 15 ⟨true, 0, .nightProfile⟩ }

/-- A call due at the end of the last day, alone. -/
theorem witness_SecondAdvanceFiresTheSchedule_call :
    (busy midnight).night.settings.collector ≠ 0 ∧ midnight.night.state = .idle
      ∧ (∀ i : Fin 16, (shop.schedule.set 4 ⟨true, 0, .call⟩)[i].enabled = true ∧
        (shop.schedule.set 4 ⟨true, 0, .call⟩)[i].second = 0 ↔ i = 4)
      ∧ (shop.schedule.set 4 ⟨true, 0, .call⟩)[4].action = .call ∧ (busy midnight).uplink.transmitting ≠ none
      ∧ (busy midnight).uplink.queues.transfer.length < (busy midnight).uplink.limits.transfer := by
  decide +kernel

theorem witness_SecondAdvanceFiresTheSchedule :
    midnight.clock.set = true ∧ 0 < midnight.clock.due ∧ midnight.running = true
      ∧ midnight.schedule[15].enabled = true ∧ midnight.schedule[15].second = 0
      ∧ levelKind midnight.schedule[15].action = some .profile
      ∧ (∀ i : Fin 16, midnight.schedule[i].enabled = true → midnight.schedule[i].second = 0 →
        levelKind midnight.schedule[i].action ≠ some .guestState)
      ∧ (∀ i : Fin 16, shop.schedule[i].enabled = true → shop.schedule[i].second ≠ 30001) := by
  decide +kernel

/-- The open requests of slots 0 and 63, with a till that permits hold-over. -/
def patient : State := { tracking with tills := tracking.tills.set 0 { tracking.tills[0] with holdOver := true } }

theorem witness_OpenRequestExpires :
    tracking.tracker.slots[0] = some openRequest ∧ (tracking.tick - openRequest.deadline).toNat < 2 ^ 31
      ∧ openRequest.state = .waiting ∧ tracking.tills[openRequest.till].holdOver = false
      ∧ patient.tracker.slots[0] = some openRequest ∧ patient.tills[openRequest.till].holdOver = true
      ∧ patient.running = true ∧ patient.alerts.destination = none ∧ patient.up .till = true
      ∧ patient.egress.till.length < 64 ∧ patient.tillAt 0x0A00010B = some patient.tills[0]
      ∧ (tracking.setSlot 0 (some { openRequest with state := .heldOver })).tracker.slots[0]
        = some { openRequest with state := .heldOver }
      ∧ 2 ^ 31 ≤ ((7999 : Tick) - openRequest.deadline).toNat := by
  decide +kernel

/-- A backoff timer that has come to its expiry. -/
def backedOff : State :=
  { shopNight (fun n => { n with state := .backoff, attempts := 255, backoffTimer := some ⟨0, 1822⟩ }) with
    tick := 1822, uplink := { shop.uplink with transmitting := some ⟨built, 0⟩ } }

theorem witness_CallBeginsASession :
    (∀ n, (fun n => { backedOff.night with
        state := .calling, attempts := n, callTimer := some ⟨backedOff.tick, backedOff.night.settings.callTimeout⟩
        ackTimer := none, settleTimer := none, backoffTimer := none } : Nat → Night) n = { backedOff.night with
        state := .calling, attempts := n, callTimer := some ⟨backedOff.tick, backedOff.night.settings.callTimeout⟩
        ackTimer := none, settleTimer := none, backoffTimer := none })
      ∧ (∃ opened : Uplink → Prop, ∀ u, opened u ↔ backedOff.nightWaits .opening 1 (be32 backedOff.journal.oldest
        ++ be32 (backedOff.journal.nextSeq - 1) ++ be32 (BitVec.ofNat 32
          (backedOff.pool.free - (backedOff.pool.journalReserve - backedOff.pool.journalHeld)))) u)
      ∧ backedOff.holds boss.party = true ∧ backedOff.running = true ∧ backedOff.night.settings.collector ≠ 0
      ∧ backedOff.night.state = .backoff ∧ backedOff.up .uplink = true ∧ backedOff.fromCollector collector = true
      ∧ timerDue backedOff.tick backedOff.night.backoffTimer = true
      ∧ backedOff.ports.nextHop = some 0x020000000001 ∧ backedOff.uplink.transmitting ≠ none
      ∧ backedOff.uplink.queues.transfer.length < backedOff.uplink.limits.transfer
      ∧ queuedTotal backedOff.uplink.queues < 256
      ∧ journaled.holds boss.party = true ∧ journaled.night.state = .draining
      ∧ shop.night.state = .idle :=
  ⟨fun _ => rfl, ⟨_, fun _ => Iff.rfl⟩, by decide +kernel⟩

/-- The engine CALLING, with the collector's clock followed or not. -/
def calling (follow : Bool) : State :=
  shopNight fun n => { n with
    state := .calling, attempts := 1, callTimer := some ⟨0, 2000⟩, settings := { n.settings with followClock := follow } }

theorem witness_GrantOpensTheDrain :
    (calling true).up .uplink = true ∧ (calling true).running = true ∧ (calling true).fromCollector collector = true
      ∧ (1 : Byte) ≠ 0 ∧ (86399 : BitVec 32).toNat ≤ 86399 ∧ (calling true).night.state = .calling
      ∧ (calling true).night.settings.followClock = true ∧ (calling false).night.settings.followClock = false
      ∧ (calling false).fromCollector collector = true ∧ (calling false).journal.nextSeq = (calling false).journal.oldest
      ∧ ({ calling false with journal := journaled.journal } : State).journal.nextSeq
        ≠ ({ calling false with journal := journaled.journal } : State).journal.oldest
      ∧ shop.night.state ≠ .calling ∧ shop.night.state ≠ .draining ∧ shop.fromCollector collector = true
      ∧ journaled.night.state = .draining ∧ journaled.fromCollector collector = true := by
  decide +kernel

/-- A call answered with two records journaled, which one RECORDS carries, and the transmitter busy. -/
def loaded : State := busy { calling false with journal := ⟨[record 1, record 2], 1, 1, 3⟩, pool := journaled.pool }

theorem witness_GrantOpensTheDrain_records :
    loaded.night.state = .calling ∧ loaded.fromCollector collector = true ∧ loaded.up .uplink = true
      ∧ loaded.night.settings.followClock = false ∧ loaded.journal.records ≠ []
      ∧ loaded.journal.records.length = (loaded.journal.nextSeq - loaded.journal.oldest).toNat
      ∧ loaded.journal.records.length ≤ (2 : Byte).toNat
      ∧ 40 = (loaded.journal.records.map fun r => 16 + r.payload.length).sum ∧ loaded.meters.transfer.hold = []
      ∧ loaded.uplink.hasRoom .transfer = true
      ∧ 55 + 40 ≤ min (loaded.profileInUse .transfer).depth (loaded.meters.transfer.level
        + (loaded.profileInUse .transfer).rate * min 65535 (loaded.tick - loaded.meters.transfer.lastTick).toNat)
      ∧ loaded.running = true ∧ loaded.alerts.destination = none ∧ loaded.ports.nextHop = some 0x020000000001
      ∧ loaded.uplink.transmitting ≠ none
      ∧ loaded.uplink.queues.transfer.length < loaded.uplink.limits.transfer
      ∧ queuedTotal loaded.uplink.queues < 256 := by
  decide +kernel

/-- Two records journaled and both sent. -/
def bothSent : State := { journaled with journal := { journaled.journal with nextToSend := 3 } }

theorem witness_AckRemovesTheRecordsItCovers :
    bothSent.up .uplink = true ∧ bothSent.running = true ∧ bothSent.fromCollector collector = true
      ∧ (1 : Nat) = ((1 : Seq) - bothSent.journal.oldest + 1).toNat
      ∧ (2 : Nat) = ((2 : Seq) - bothSent.journal.oldest + 1).toNat
      ∧ (0 : Nat) = ((0 : Seq) - bothSent.journal.oldest + 1).toNat
      ∧ (2 : Nat) = (bothSent.journal.nextToSend - bothSent.journal.oldest).toNat
      ∧ (1 : Nat) = ((bothSent.journal.records.take 1).map fun r => (16 + r.payload.length + 255) / 256).sum
      ∧ bothSent.night.state = .draining ∧ bothSent.night.window ≤ 255
      ∧ (3 : Nat) = ((3 : Seq) - bothSent.journal.oldest + 1).toNat := by
  decide +kernel

/-- The engine SETTLING at the expiry of its settle timer. -/
def settling : State :=
  { shopNight (fun n => { n with state := .settling, settleTimer := some ⟨0, 60000⟩ }) with tick := 60000 }

theorem witness_SessionEndsInIdle :
    settling.up .uplink = true ∧ settling.running = true ∧ settling.fromCollector collector = true
      ∧ settling.night.state = .settling ∧ timerDue settling.tick settling.night.settleTimer = true
      ∧ settling.holds boss.party = true ∧ settling.night.state ≠ .idle ∧ shop.holds boss.party = true
      ∧ shop.night.state = .idle ∧ shop.fromCollector collector = true
      ∧ (busy settling).night.state = .settling ∧ (busy settling).ports.nextHop = some 0x020000000001
      ∧ (busy settling).uplink.transmitting ≠ none
      ∧ (busy settling).uplink.queues.transfer.length < (busy settling).uplink.limits.transfer
      ∧ queuedTotal (busy settling).uplink.queues < 256 := by
  decide +kernel

/-- CALLING at the expiry of the call timer, and DRAINING at that of the ack timer, at a number of attempts and short
retries. -/
def timedOut (state : NightState) (attempts retries : Nat) : State :=
  { shopNight (fun n => { n with
      state := state, attempts := attempts, shortRetries := retries, retryTotal := 65535
      callTimer := some ⟨0, 2000⟩, ackTimer := some ⟨0, 5000⟩ }) with
    tick := 5000 }

theorem witness_TimeoutsBackOffOrFail :
    (timedOut .calling 7 0).night.state = .calling
      ∧ timerDue (timedOut .calling 7 0).tick (timedOut .calling 7 0).night.callTimer = true
      ∧ (timedOut .calling 7 0).night.attempts < (timedOut .calling 7 0).night.settings.longLimit + 1
      ∧ (timedOut .calling 8 0).night.settings.longLimit + 1 ≤ (timedOut .calling 8 0).night.attempts
      ∧ (timedOut .draining 7 3).night.state = .draining
      ∧ timerDue (timedOut .draining 7 3).tick (timedOut .draining 7 3).night.ackTimer = true
      ∧ (timedOut .draining 7 3).night.settings.shortLimit ≤ (timedOut .draining 7 3).night.shortRetries
      ∧ (timedOut .draining 7 2).night.shortRetries < (timedOut .draining 7 2).night.settings.shortLimit
      ∧ (timedOut .draining 7 2).journal.nextSeq = (timedOut .draining 7 2).journal.oldest
      ∧ (timedOut .draining 7 2).night.window ≤ 255 ∧ bothSent.journal.nextSeq ≠ bothSent.journal.oldest
      ∧ fullQueues.uplink.limits.transfer ≤ fullQueues.uplink.queues.transfer.length := by
  decide +kernel

theorem witness_BackoffDelayIsDrawnAtEachEntry :
    (∃ t, exec .callTimerExpiry (timedOut .calling 7 0) = .next t) ∧ Instr.callTimerExpiry ≠ .deviceReset
      ∧ (after .callTimerExpiry (timedOut .calling 7 0)).night.generator ≠ (timedOut .calling 7 0).night.generator
      ∧ (timedOut .calling 7 0).night.state ≠ .backoff
      ∧ (after .callTimerExpiry (timedOut .calling 7 0)).night.state = .backoff
      ∧ 7 ≤ (timedOut .calling 7 0).night.attempts ∧ (timedOut .calling 6 0).night.attempts = 6
      ∧ (timedOut .calling 1 0).night.attempts = 1 :=
  ⟨⟨_, rfl⟩, by simp, by decide +kernel⟩

theorem witness_ForeignNightMessagesAreIgnored :
    settling.up .uplink = true ∧ settling.running = true
      ∧ ({ collector with epoch := 6 } : NightSource).epoch ≠ settling.night.settings.epoch
      ∧ ({ collector with address := 1 } : NightSource).address ≠ settling.night.settings.collector
      ∧ ({ collector with service := 1 } : NightSource).service ≠ settling.night.settings.service
      ∧ ({ collector with branch := 13 } : NightSource).branch ≠ settling.night.settings.branch
      ∧ 86399 < (86400 : BitVec 32).toNat ∧ 7 < (8 : Byte).toNat ∧ 24 < (List.replicate 25 (0 : Byte)).length
      ∧ shop.night.state ≠ .draining ∧ shop.night.state ≠ .settling ∧ shop.up .uplink = true
      ∧ shop.running = true := by
  decide +kernel

/-- An update as a LABELS message carries it. -/
def wire (number : BitVec 24) : LabelWire := ⟨number, 7, true, some 9, List.replicate 24 0x31⟩

/-- The engine SETTLING with an update for label number 5 queued. -/
def priced : State :=
  { busy settling with
    label := { settling.label with queue := [update 5 3] }
    pool := ⟨131071, 0, 1, 131068, 16384⟩ }

theorem witness_LabelUpdatesJoinTheQueue :
    priced.up .uplink = true ∧ priced.running = true ∧ priced.fromCollector collector = true
      ∧ priced.night.state = .settling ∧ priced.levels.labelWindow.value = .closed
      ∧ (∀ w ∈ [wire 6, wire 0xFFFFFF, wire 1], w.number ≠ 0 ∧ w.page.toNat ≤ 7 ∧ w.text.length ≤ 24)
      ∧ ([wire 6, wire 0xFFFFFF, wire 1].map fun w => w.number).Nodup
      ∧ (∀ w ∈ [wire 6, wire 0xFFFFFF, wire 1], holdsLabel priced.label.queue w.number = false)
      ∧ [wire 6, wire 0xFFFFFF, wire 1].length + (priced.pool.journalReserve - priced.pool.journalHeld) ≤ priced.pool.free
      ∧ holdsLabel priced.label.queue (wire 5).number = true ∧ priced.alerts.destination = none
      ∧ priced.ports.nextHop = some 0x020000000001 ∧ priced.uplink.transmitting ≠ none
      ∧ priced.uplink.queues.transfer.length < priced.uplink.limits.transfer
      ∧ queuedTotal priced.uplink.queues < 256
      ∧ ({ priced.pool with free := 131068 } : Pool).free < 1 + (priced.pool.journalReserve - priced.pool.journalHeld) := by
  decide +kernel

/-- The label window open, an update in flight, and two updates queued, the first for the label number in flight. -/
def pacing (timer : Option Timer) (credit : Nat) : State :=
  { shopLabels .opened (fun l => { l with
      queue := [update 5 0, update 6 0], inFlight := List.replicate 1 (update 5 1), credit := credit, pacingTimer := timer }) with
    tick := 20 }

theorem witness_DeliveryEventSendsTheFirstFreeUpdate :
    (pacing none 0).up .label = true ∧ (pacing none 0).running = true
      ∧ (pacing none 0).ports.baseStation = some ⟨0x020000000201, 0x0A00020B, 7418⟩
      ∧ (16 : Nat) = min 16 (255 : Byte).toNat ∧ (pacing none 0).label.pacingTimer = none
      ∧ (pacing none 0).levels.labelWindow.value = .opened
      ∧ timerDue (pacing (some ⟨0, 20⟩) 1).tick (pacing (some ⟨0, 20⟩) 1).label.pacingTimer = true
      ∧ (pacing none 0).label.inFlight.length < 16 ∧ 0 < (pacing none 0).label.settings.pacing
      ∧ (pacing none 0).label.queue = [update 5 0] ++ update 6 0 :: []
      ∧ (∀ x ∈ [update 5 0], holdsLabel (pacing none 0).label.inFlight x.number = true)
      ∧ holdsLabel (pacing none 0).label.inFlight (update 6 0).number = false
      ∧ (pacing none 0).egress.label.length < 64 ∧ shop.levels.labelWindow.value = .closed := by
  decide +kernel

/-- Updates in flight with attempts 3 and 4 (the attempt limit is 5), the window closed, at the first's deadline. -/
def flying : State :=
  { shopLabels .closed (fun l => { l with
      queue := [update 6 0]
      inFlight := [{ update 5 3 with sentTick := some 0, deadline := some 10000 },
        { update 6 4 with sentTick := some 0, deadline := some 10000 }] }) with
    tick := 10000, pool := { shop.pool with free := 131069, labelHeld := 3 } }

theorem witness_OutcomeEndsTheFlight :
    (5 : BitVec 24) ≠ 0 ∧ flying.up .label = true ∧ flying.running = true ∧ flying.ports.baseStation.isSome = true
      ∧ flying.levels.labelWindow.value = .closed ∧ (∀ x ∈ flying.label.inFlight, x.number ≠ 7)
      ∧ 1 ≤ (1 : Byte).toNat ∧ (4 : Byte).toNat ≤ 4
      ∧ flying.label.inFlight = [] ++ { update 5 3 with sentTick := some 0, deadline := some 10000 }
        :: [{ update 6 4 with sentTick := some 0, deadline := some 10000 }]
      ∧ (flying.tick - 10000).toNat < 2 ^ 31 ∧ min 15 (3 + 1) < flying.label.settings.attemptLimit
      ∧ holdsLabel flying.label.queue 5 = false ∧ flying.label.settings.attemptLimit ≤ min 15 (4 + 1)
      ∧ holdsLabel flying.label.queue 6 = true := by
  decide +kernel

/-- A pending source marked new, an alert destination, and the alert timer at its expiry. -/
def alerting : State :=
  { shopAt 1000 with alerts := { shop.alerts with
      pending := shop.alerts.pending.set 13 (some .new), destination := some 9, timer := some ⟨0, 1000⟩ } }

theorem witness_AlertTimerSendsTheAlertFrame :
    timerDue alerting.tick alerting.alerts.timer = true ∧ alerting.alerts.destination = some 9
      ∧ (∃ i : Fin 14, alerting.alerts.pending[i] ≠ none) ∧ alerting.ports.managementPort = egressSegment .office
      ∧ alerting.up (egressSegment .office) = true ∧ (alerting.egress.get .office).length < 64
      ∧ timerDue 1000 (some ⟨0, 1000⟩) = true ∧ shop.alerts.destination = none := by
  decide +kernel

theorem witness_IdentifyReportsThePart :
    (601 : Nat) = (match (some ⟨0, 600001⟩ : Option Timer) with
      | none => 0
      | some t => (t.duration - ((0 : Tick) - t.start).toNat + 999) / 1000) := by
  decide

theorem witness_RefusalsAnswerAndChangeNothing :
    lockCode (.swap head) = some (head, 0x05) ∧ shop.holds head.party = false
      ∧ boss.reply = .station 0x020000000401 (egressSegment .office) ∧ shop.up (egressSegment .office) = true
      ∧ (shop.egress.get .office).length < 64 ∧ head.reply = .datagram 0x0A640001 7416
      ∧ (sending [] [] 0 .transfer).ports.nextHop = some 0x020000000001
      ∧ (sending [] [] 0 .transfer).uplink.transmitting ≠ none
      ∧ (sending [] [] 0 .transfer).uplink.queues.urgent.length < (sending [] [] 0 .transfer).uplink.limits.urgent
      ∧ queuedTotal (sending [] [] 0 .transfer).uplink.queues < 256 := by
  decide +kernel

theorem witness_ReadsMoveTheCursor :
    tableOf 0 = none ∧ tableOf 30 = none ∧ tableOf 13 = some .tills ∧ (0 : BitVec 32).toNat < (tableRange .tills).1
      ∧ (tableRange .tills).2 < (33 : BitVec 32).toNat ∧ (tableRange .tills).1 ≤ (32 : BitVec 32).toNat
      ∧ (32 : BitVec 32).toNat ≤ (tableRange .tills).2 ∧ shop.agent.cursor boss.party = none
      ∧ (shop.withCursor boss.party ⟨.tills, 33⟩).agent.cursor boss.party = some ⟨.tills, 33⟩
      ∧ (32 : BitVec 32).toNat = (31 : Fin 32).val + 1
      ∧ (((tableEntries shop .schedule).drop 0).take 16 |>.map List.length).sum ≤ 1385
      ∧ tableOf 25 = some .schedule := by
  decide +kernel

theorem witness_ClaimReleaseAndLease :
    fresh.agent.holder = none ∧ shop.agent.holder = some boss.party ∧ Party.localParty ≠ head.party
      ∧ shop.agent.holder ≠ some head.party ∧ timerDue 600000 shop.agent.leaseTimer = true
      ∧ timerDue 599999 shop.agent.leaseTimer = false := by
  decide +kernel

/-- Port settings that may be written, with a label service of 0. -/
def portsWrite : PortsWrite :=
  ⟨shop.ports.gateways, none, some ⟨1, 2, 0⟩, 3, 0x0600, 7416, 0, 0⟩

theorem witness_PortAndOfficeWrites :
    shop.holds boss.party = true ∧ segmentOf portsWrite.managementPort = some .guest
      ∧ 0x0600 ≤ portsWrite.managementType.toNat
      ∧ portsWrite.managementType ∉ [0x0800, 0x0806, 0x8100, 0x88A8, 0x9100]
      ∧ (fun v : Service => if v = 0 then 1 else v) portsWrite.agentService
        ≠ (fun v : Service => if v = 0 then 1 else v) portsWrite.nightService
      ∧ shop.levels.labelWindow.value = .closed ∧ (pacing none 1).levels.labelWindow.value = .opened
      ∧ (pacing none 1).holds boss.party = true ∧ segmentOf 5 = none ∧ (0x05FF : BitVec 16).toNat < 0x0600
      ∧ max 1 (0 : Service).toNat = max 1 (1 : Service).toNat
      ∧ (0x88A8 : BitVec 16) ∈ [0x0800, 0x0806, 0x8100, 0x88A8, 0x9100] ∧ (1 : BitVec 32) ≠ 0 := by
  decide +kernel

theorem witness_PortAndOfficeWrites_office :
    (7 : BitVec 32).toNat + [(⟨true, 5, 0x0A00040C⟩ : OfficeStation)].length ≤ 8
      ∧ (∀ i : Fin 8, (shop.office.set 7 ⟨true, 5, 0x0A00040C⟩)[i] =
        if (7 : BitVec 32).toNat ≤ i.val ∧ i.val < (7 : BitVec 32).toNat + [(⟨true, 5, 0x0A00040C⟩ : OfficeStation)].length
        then [(⟨true, 5, 0x0A00040C⟩ : OfficeStation)].getD (i.val - (7 : BitVec 32).toNat) shop.office[i]
        else shop.office[i])
      ∧ (∀ i j : Fin 8, i ≠ j → 7 ≤ i.val → (shop.office.set 7 ⟨true, 5, 0x0A00040C⟩)[i].enabled = true →
        (shop.office.set 7 ⟨true, 5, 0x0A00040C⟩)[j].enabled = true →
        (shop.office.set 7 ⟨true, 5, 0x0A00040C⟩)[i].address ≠ (shop.office.set 7 ⟨true, 5, 0x0A00040C⟩)[j].address)
      ∧ (shop.office.set 7 ⟨true, 5, 0x0A00040B⟩)[7].enabled = true ∧ shop.office[0].enabled = true
      ∧ (shop.office.set 7 ⟨true, 5, 0x0A00040B⟩)[7].address = shop.office[0].address := by
  decide +kernel

/-- A window entry that may be written. -/
def windowWrite : WindowWrite := ⟨true, false, 31, 1, 0, 0, none, some (5, 5), 0, 4, none, 1, true, 255⟩

theorem witness_BankWritesReachTheShadowOnly :
    shop.holds boss.party = true ∧ shop.classifier.active = .a ∧ shop.classifier.active ≠ .b
      ∧ (63 : BitVec 32).toNat = (63 : Fin 64).val
      ∧ (windowWrite.key, Key.source) ∈ [(0, Key.destination), (1, .source)]
      ∧ (windowWrite.action, Action.forward) ∈ [(0, Action.forward), (1, .track), (2, .spool), (3, .drop)]
      ∧ (windowWrite.destination, Segment.office)
        ∈ [(0, Segment.uplink), (1, .till), (2, .label), (3, .guest), (4, .office)]
      ∧ (windowWrite.uplinkClass, UplinkClass.office) ∈ [(0, UplinkClass.urgent), (1, .office)]
      ∧ windowWrite.sources.toNat < 32 ∧ windowWrite.range = some (5, 5) ∧ (5 : Service).toNat ≤ (5 : Service).toNat
      ∧ (1 : BitVec 32) = if BankId.b = .a then 0 else 1 := by
  decide +kernel

/-- Each value just past the last that has a meaning, and the default of OFFICE as it may be written. -/
theorem witness_BankWritesReachTheShadowOnly_values :
    (32 : Byte).toNat = 32 ∧ (6 : Service).toNat > (5 : Service).toNat ∧ (1 : Byte) ≠ 0
      ∧ (63 : BitVec 32).toNat < 64 ∧ 64 ≤ (64 : BitVec 32).toNat ∧ (4 : BitVec 32).toNat < 5
      ∧ 5 ≤ (5 : BitVec 32).toNat
      ∧ ((4 : BitVec 32), Segment.office) ∈ [(0, Segment.uplink), (1, .till), (2, .label), (3, .guest), (4, .office)]
      ∧ ((1 : Byte), true) ∈ [(0, false), (1, true)]
      ∧ (after (.writeDefaults boss .b 4 [⟨1, 3, 1⟩]) shop).classifier.bankB.defaults.office = ⟨true, .guest, .office, 0⟩
      ∧ (after (.writeDefaults boss .b 4 [⟨2, 3, 1⟩]) shop).classifier = shop.classifier
      ∧ ((after (.writeWindow boss .b 63 [windowWrite]) shop).classifier.bankB.entries[63]).sources
        = ⟨true, true, true, true, true⟩ := by
  decide +kernel

theorem witness_SettingsWritesAreClamped :
    shop.holds boss.party = true
      ∧ (∀ low high v, (fun low high v => max low (min high v) : Nat → Nat → Nat → Nat) low high v = max low (min high v))
      ∧ (∀ changed, (fun changed => if changed then .adjusted else .ok : Bool → Status) changed
        = if changed then .adjusted else .ok)
      ∧ (131072 : Nat) = (fun low high v => max low (min high v) : Nat → Nat → Nat → Nat) 0 131072 (200000 : BitVec 32).toNat
      ∧ (0 : Nat) = min 16384 (131072 - 131072) :=
  ⟨by decide +kernel, fun _ _ _ => rfl, fun _ => rfl, by decide, by decide⟩

/-- A METERS entry with values past both ends, Drop by day and Defer by night. -/
def meterWrite : MeterWrite := ⟨⟨131072, 0, 0⟩, ⟨0, 1048577, 1⟩⟩

theorem witness_IndexedWritesReplaceTheirEntries_meters :
    shop.holds boss.party = true ∧ (1 : BitVec 32) = (match Meter.office with
        | .guest => 0 | .office => 1 | .transfer => 2)
      ∧ (meterWrite.day.action, MeterAction.drop) ∈ [(0, MeterAction.drop), (1, .defer)]
      ∧ (meterWrite.night.action, MeterAction.defer) ∈ [(0, MeterAction.drop), (1, .defer)]
      ∧ (after (.writeMeters boss 1 [meterWrite]) shop).meters.office.day = ⟨131071, 1536, .drop⟩
      ∧ (after (.writeMeters boss 1 [meterWrite]) shop).meters.office.night = ⟨0, 1048576, .defer⟩
      ∧ (2 : BitVec 32) = (match Meter.transfer with | .guest => 0 | .office => 1 | .transfer => 2)
      ∧ (2 : BitVec 32).toNat < 3 ∧ 2 ≤ (2 : Byte).toNat
      ∧ (4 : BitVec 32).toNat = (match PairId.label with
        | .guestMeter => 0 | .officeMeter => 1 | .transferMeter => 2 | .journal => 3 | .label => 4)
      ∧ (15 : BitVec 32).toNat = (15 : Fin 16).val ∧ scheduleActions[(6 : Byte).toNat]? = some .call
      ∧ 7 ≤ (7 : Byte).toNat := by
  decide +kernel

/-- A till entry that may be written at till number 32, and the table it leaves. -/
def tillWrite : TillWrite := ⟨true, 7, 0x0A00010C, 9, false, none⟩
def tillsWritten : Vector TillEntry 32 := shop.tills.set 31 ⟨true, 7, 0x0A00010C, 4, false, none⟩

theorem witness_IndexedWritesReplaceTheirEntries_tills :
    1 ≤ (32 : BitVec 32).toNat ∧ (32 : BitVec 32).toNat + [tillWrite].length ≤ 33
      ∧ (∀ i : Fin 32, (i ≠ 31 → tillsWritten[i] = shop.tills[i])
        ∧ (i = 31 ↔ (32 : BitVec 32).toNat ≤ i.val + 1 ∧ i.val + 1 < (32 : BitVec 32).toNat + [tillWrite].length))
      ∧ [tillWrite][31 + 1 - (32 : BitVec 32).toNat]? = some tillWrite
      ∧ tillsWritten[31] = ⟨tillWrite.enabled, tillWrite.station, tillWrite.address,
        max 1 (min 4 tillWrite.openLimit.toNat), tillWrite.holdOver, tillWrite.lastAccepted⟩
      ∧ tillsWritten[31].address ≠ 0 ∧ tillsWritten[31].address ≠ 0xFFFFFFFF
      ∧ tillsWritten[31].address ≠ shop.ports.gateways.till
      ∧ (∀ j : Fin 32, j ≠ 31 → tillsWritten[j].enabled = true →
        tillsWritten[j].station ≠ tillsWritten[31].station ∧ tillsWritten[j].address ≠ tillsWritten[31].address)
      ∧ shop.tills[0].enabled = true := by
  decide +kernel

theorem witness_WriteBytesSpellTheirTablesWrite :
    shop.agent.queue = [] ∧ shop.holds boss.party = true ∧ (0 : Byte).toNat ∈ [0, 12, 15, 17, 18, 20, 22, 23, 24, 26, 27]
      ∧ 30 ≤ (30 : Byte).toNat ∧ ([0, 59, 1] : Bytes) = be16 59 ++ [1] := by
  decide +kernel

/-- Bank B with an entry that offends by its sources and action, or only with its GUEST default. -/
def shadowed (action : Action) (default : Bool) : State :=
  { shop with classifier := { shop.classifier with bankB := { Bank.reset with
      entries := Bank.reset.entries.set 63 (window ⟨false, false, false, true, true⟩ 9 action .office 0)
      defaults := { Bank.reset.defaults with guest := ⟨default, .till, .office, 0⟩ } } } }

theorem witness_SwapChecksIsolation :
    shop.holds boss.party = true ∧ BankId.b ≠ (shadowed .spool true).classifier.active
      ∧ (∀ i : Fin 64, ((shadowed .spool true).classifier.bank .b).entries[i].enabled = true ↔ i = 63)
      ∧ ((shadowed .spool true).classifier.bank .b).entries[63].sources.guest = true
      ∧ ((shadowed .spool true).classifier.bank .b).entries[63].action = .spool
      ∧ ((shadowed .drop true).classifier.bank .b).entries[63].action = .drop
      ∧ ((shadowed .drop true).classifier.bank .b).defaults.guest.forwards = true
      ∧ ((shadowed .drop true).classifier.bank .b).defaults.guest.destination = .till
      ∧ ((shadowed .drop false).classifier.bank .b).defaults.guest.forwards = false := by
  decide +kernel

/-- The part CLOSED, the lock held, the clock unset or set. -/
def closed (set : Bool) : State :=
  { shop with agent := { shop.agent with partState := .closed }, clock := { shop.clock with set := set } }

theorem witness_PartStateCommandsAndRestart :
    (closed false).holds boss.party = true ∧ (closed false).running = false ∧ (closed false).clock.set = false
      ∧ shop.running = true ∧ delivering.running = true ∧ delivering.holds boss.party = true
      ∧ delivering.alerts.destination = none ∧ delivering.counters.group.globalEnable = false
      ∧ (delivering.thresholds.get .guestMeter).low.enabled = false
      ∧ (delivering.thresholds.get .label).high.enabled = false
      ∧ (1 : Nat) = delivering.label.inFlight.countP (fun u => holdsLabel delivering.label.queue u.number) := by
  decide +kernel

theorem witness_ClockSetReplaysTheSchedule :
    midnight.holds boss.party = true ∧ midnight.running = true
      ∧ (⟨9, 86399⟩ : StoreTime) = ⟨(9 : BitVec 16).toNat, min 86399 (86400 : BitVec 32).toNat⟩
      ∧ (closed true).running = false ∧ (closed true).clock.set = true
      ∧ midnight.schedule[15].enabled = true ∧ levelKind midnight.schedule[15].action = some .profile
      ∧ midnight.schedule[15].second ≤ 86399 ∧ (closed false).running = false := by
  decide +kernel

/-- Of two entries at one second the one with the higher index is the latest, by day or back into the day before. -/
theorem witness_ClockSetReplaysTheSchedule_latest :
    IsLatest midnight.schedule (fun j => midnight.schedule[j].enabled = true
        ∧ levelKind midnight.schedule[j].action = some .profile ∧ midnight.schedule[j].second ≤ 86399) 15
      ∧ (∀ j : Fin 16, midnight.schedule[j].enabled = true → levelKind midnight.schedule[j].action ≠ some .labelWindow) := by
  refine ⟨⟨by decide +kernel, fun j => ?_⟩, by decide +kernel⟩
  have key : ∀ j : Fin 16, (midnight.schedule[j].enabled = true ∧ levelKind midnight.schedule[j].action = some .profile
      ∧ midnight.schedule[j].second ≤ 86399) → midnight.schedule[j].second < midnight.schedule[(15 : Fin 16)].second
        ∨ (midnight.schedule[j].second = midnight.schedule[(15 : Fin 16)].second ∧ j ≤ 15) := by decide +kernel
  exact key j

theorem witness_LevelCommandsSetTheirSetting :
    shop.holds boss.party = true ∧ 1 < (2 : Byte).toNat
      ∧ (1 : Byte) = (match DayNight.night with | .day => 0 | .night => 1) ∧ shop.levels.profile.value ≠ .night
      ∧ shop.levels.profile.value = .day ∧ (0 : Byte) = (match Gate.opened with | .opened => 0 | .closed => 1)
      ∧ shop.label.credit = 0 ∧ shop.levels.guestState.value = .opened := by
  decide +kernel

/-- Conditions of R147 that fail, and a state in which they all hold; the label window that LABELS opens. -/
theorem witness_LevelCommandsSetTheirSetting_delivery :
    shop.label.credit = 0 ∧ (pacing none 1).running = true ∧ (pacing none 1).levels.labelWindow.value = .opened
      ∧ (pacing none 1).up .label = true ∧ (pacing none 1).ports.baseStation = some ⟨0x020000000201, 0x0A00020B, 7418⟩
      ∧ 0 < (pacing none 1).label.credit ∧ (pacing none 1).label.pacingTimer = none
      ∧ (pacing none 1).label.inFlight.length < 16 ∧ (pacing none 1).label.queue = [update 5 0] ++ update 6 0 :: []
      ∧ (∀ x ∈ [update 5 0], holdsLabel (pacing none 1).label.inFlight x.number = true)
      ∧ holdsLabel (pacing none 1).label.inFlight (update 6 0).number = false
      ∧ (pacing none 1).egress.label.length < 64
      ∧ ({ pacing none 1 with levels := shop.levels } : State).levels.labelWindow.value = .closed := by
  decide +kernel

theorem witness_DiscardsAndClears :
    shop.holds boss.party = true ∧ shop.night.state = .idle ∧ journaled.night.state ≠ .idle
      ∧ journaled.night.state ≠ .failed ∧ journaled.holds boss.party = true
      ∧ (∀ i : Fin 14, (alerting.alerts.pending.set 13 none)[i]
        = if BitVec.ofNat 8 (i.val + 1) ∈ [(1 : Byte), 14] then none else alerting.alerts.pending[i])
      ∧ (∀ c ∈ [(1 : Byte), 14], 1 ≤ c.toNat ∧ c.toNat ≤ 14) ∧ 14 < (15 : Byte).toNat := by
  decide +kernel

theorem witness_BarAndUnbar :
    twoGuests.holds boss.party = true
      ∧ twoGuests.guest.table = [⟨1, 0x0A00030B, 0, 60000, 0, 0, 1, 60, false⟩]
        ++ ⟨2, 0x0A00030C, 0, 0, 0, 0, 1, 60, true⟩ :: []
      ∧ twoGuests.guest.table = [] ++ ⟨1, 0x0A00030B, 0, 60000, 0, 0, 1, 60, false⟩
        :: [⟨2, 0x0A00030C, 0, 0, 0, 0, 1, 60, true⟩]
      ∧ (∀ e ∈ twoGuests.guest.table, e.station ≠ 3) := by
  decide +kernel

/-- Counters to configure, counter 8 with a given condition. -/
def configured (condition : Byte) : Vector CounterWrite 8 :=
  (Vector.replicate 8 ⟨14, 1, 2, true⟩).set 7 ⟨0, 255, condition, false⟩

theorem witness_CountersCommands :
    shop.holds boss.party = true
      ∧ (∀ i : Fin 8, ¬ (selectorOf (configured 2)[i].kind (configured 2)[i].qualifier = none
        ∨ 3 ≤ (configured 2)[i].condition.toNat))
      ∧ (∀ i : Fin 8, (selectorOf (configured 3)[i].kind (configured 3)[i].qualifier = none
        ∨ 3 ≤ (configured 3)[i].condition.toNat) ↔ i = 7)
      ∧ (∀ i : Fin 8, (shop.counters.counters)[i] = if BitVec.ofNat 8 (i.val + 1) ∈ [(1 : Byte), 8] then
          { shop.counters.counters[i] with value := 0, overflow := false } else shop.counters.counters[i])
      ∧ (∀ n ∈ [(1 : Byte), 8], 1 ≤ n.toNat ∧ n.toNat ≤ 8) ∧ 8 < (9 : Byte).toNat ∧ (4 : Byte) ≠ 2 := by
  decide +kernel

theorem witness_AdjustQueuesReplacesTheLimits :
    shop.holds boss.party = true
      ∧ (∀ v, (fun v => max 1 (min 256 v.toNat) : BitVec 16 → Nat) v = max 1 (min 256 v.toNat))
      ∧ 64 + 64 + 64 + 64 ≤ 256 ∧ 256 < 65 + 64 + 64 + 64 ∧ shop.night.state ≠ .draining :=
  ⟨by decide +kernel, fun _ => rfl, by decide, by decide, by decide +kernel⟩

end Sys2Proof.Tests
end

/-! SUPPORT. Device reset (R1) and the writes of the tables with one entry (R187), whose values are clamped (R1). -/

namespace Sys2Proof.Machine

/-! ## Device reset -/

@[simp] theorem PerSegment.get_all {α : Type} (x : α) (g : Segment) : (PerSegment.all x).get g = x := by
  cases g <;> rfl

/-- R38: both banks stand at the reset bank. -/
theorem resetWith_bank (a : Station) (p : List Instr) (k : BankId) :
    (State.resetWith a p).classifier.bank k = Bank.reset := by
  cases k <;> rfl

theorem Bank.reset_entries (i : Fin 64) : Bank.reset.entries[i] = WindowEntry.reset :=
  Vector.getElem_replicate _

theorem Bank.reset_defaults (g : Segment) : Bank.reset.defaults.get g = ⟨false, .uplink, .office, 0⟩ :=
  PerSegment.get_all _ g

/-- R15: every egress queue is empty. -/
theorem resetWith_egress (a : Station) (pending : List Instr) (p : EgressPort) :
    (State.resetWith a pending).egress.get p = [] := by
  cases p <;> rfl

/-- R53: every uplink queue is empty. -/
theorem resetWith_uplinkQueue (a : Station) (p : List Instr) (q : UplinkQueue) :
    (State.resetWith a p).uplink.queues.get q = [] := by
  cases q <;> rfl

/-- R64: each share meter stands at its reset values, TRANSFER with action Defer. -/
theorem resetWith_meter (a : Station) (p : List Instr) (m : Meter) :
    (State.resetWith a p).meters.get m = ShareMeter.reset (if m = .transfer then .defer else .drop) := by
  cases m <;> rfl

/-- R68: each threshold pair stands at its reset values. -/
theorem resetWith_threshold (a : Station) (p : List Instr) (i : PairId) :
    (State.resetWith a p).thresholds.get i = ThresholdPair.reset := by
  cases i <;> rfl

/-- R126: the generator's seed as a number. -/
theorem generatorSeed_toNat (a : Station) :
    (generatorSeed a).toNat
      = ((a >>> 32).toNat % 65536 + (a >>> 16).toNat % 65536 + a.toNat % 65536) % 65536 := by
  simp only [generatorSeed, BitVec.toNat_add, BitVec.extractLsb'_toNat, BitVec.toNat_ushiftRight]
  omega

/-- Settles O3: device reset answers the reset state, whose blocks are read one after another. -/
theorem deviceResetGivesTheResetValues : Obligations.DeviceResetGivesTheResetValues := by
  intro s
  have hbank (k : BankId) := resetWith_bank s.station s.pending k
  refine ⟨_, rfl, rfl, rfl, rfl, PerSegment.get_all none, resetWith_egress s.station s.pending,
    ⟨PerSegment.get_all 0, rfl, rfl, rfl, rfl, rfl, rfl, rfl⟩,
    fun _ => Vector.getElem_replicate _,
    ⟨rfl, fun k => ⟨congrArg Bank.identity (hbank k), fun i => ?entry, fun g => ?default⟩⟩,
    ⟨resetWith_uplinkQueue s.station s.pending, rfl, rfl, rfl, rfl, rfl, rfl, rfl⟩,
    fun m => ?meter,
    resetWith_threshold s.station s.pending,
    ⟨rfl, rfl⟩,
    fun _ => Vector.getElem_replicate _,
    ⟨rfl, rfl, fun _ => Vector.getElem_replicate _⟩, rfl, rfl,
    ⟨rfl, rfl, rfl, rfl, rfl, rfl, rfl, rfl, rfl, rfl, rfl, generatorSeed_toNat _⟩, rfl,
    ⟨rfl, rfl, rfl, fun _ => Vector.getElem_replicate _⟩, rfl,
    ⟨rfl, rfl, rfl, rfl, fun _ => Vector.getElem_replicate _⟩,
    ⟨fun _ => Vector.getElem_replicate _, rfl, rfl, rfl, rfl⟩, rfl⟩
  case entry =>
    show ((State.resetWith s.station s.pending).classifier.bank k).entries[i] = _
    rw [hbank, Bank.reset_entries]
    rfl
  case default =>
    show ((State.resetWith s.station s.pending).classifier.bank k).defaults.get g = _
    rw [hbank, Bank.reset_defaults]
  case meter =>
    have hm := resetWith_meter s.station s.pending m
    exact ⟨congrArg ShareMeter.level hm, congrArg ShareMeter.lastTick hm, congrArg ShareMeter.hold hm,
      (congrArg ShareMeter.day hm).trans (congrArg ShareMeter.night hm).symm, congrArg ShareMeter.day hm⟩

/-! ## Clamping (R1) -/

/-- R1: a clamped value is the value held between the ends of its range. -/
theorem clamp_eq_max_min {low high : Nat} (h : low ≤ high) (v : Nat) : clamp low high v = max low (min high v) := by
  unfold clamp
  split
  · omega
  · split <;> omega

/-- A test for difference as the model writes it, as the statements write it. -/
theorem bne_eq_decide_ne (a b : Nat) : (a != b) = decide (a ≠ b) := by
  rw [bne, beq_eq_decide, decide_not]

/-! ## The command event of the lock's holder -/

/-- Taking a request keeps whatever does not stand in the agent. -/
theorem takeRequest_keeps {α : Type} (field : State → α) (h : ∀ s a, field { s with agent := a } = field s)
    (i : Instr) (s : State) : field (takeRequest i s) = field s := by
  obtain ⟨queue, hq⟩ := takeRequest_eq i s
  rw [hq, h]

@[simp] theorem takeRequest_tick (i : Instr) (s : State) : (takeRequest i s).tick = s.tick :=
  takeRequest_keeps State.tick (fun _ _ => rfl) i s
@[simp] theorem takeRequest_uplink (i : Instr) (s : State) : (takeRequest i s).uplink = s.uplink :=
  takeRequest_keeps State.uplink (fun _ _ => rfl) i s
@[simp] theorem takeRequest_guest (i : Instr) (s : State) : (takeRequest i s).guest = s.guest :=
  takeRequest_keeps State.guest (fun _ _ => rfl) i s
@[simp] theorem takeRequest_tracker (i : Instr) (s : State) : (takeRequest i s).tracker = s.tracker :=
  takeRequest_keeps State.tracker (fun _ _ => rfl) i s
@[simp] theorem takeRequest_pool (i : Instr) (s : State) : (takeRequest i s).pool = s.pool :=
  takeRequest_keeps State.pool (fun _ _ => rfl) i s
@[simp] theorem takeRequest_night (i : Instr) (s : State) : (takeRequest i s).night = s.night :=
  takeRequest_keeps State.night (fun _ _ => rfl) i s
@[simp] theorem takeRequest_label (i : Instr) (s : State) : (takeRequest i s).label = s.label :=
  takeRequest_keeps State.label (fun _ _ => rfl) i s
@[simp] theorem takeRequest_alerts (i : Instr) (s : State) : (takeRequest i s).alerts = s.alerts :=
  takeRequest_keeps State.alerts (fun _ _ => rfl) i s

/-- R183, R188, R189: a lock-requiring command of the lock's holder is run on the state with its request taken, the
lease is renewed, and the result is answered. -/
theorem lockedCommand_of_holds (q : Requester) (i : Instr) (code : Nat) (run : State → CmdResult) (s : State)
    (h : s.holds q.party = true) :
    lockedCommand q i code run s = respond q code (run (takeRequest i s)).renewed := by
  simp only [lockedCommand, openCommand, takeRequest_holds, h, if_true]

/-! ## Writes of a table with one entry -/

/-- R187, R196: a write of index 0 with one entry passes the tests of index and count. -/
theorem writeSingle_one {α : Type} (w : α) (take : α → State → CmdResult) (s : State) :
    writeSingle 0 [w] take s = take w s := rfl

/-- R183, R187: the holder's write of a single entry leaves what the entry gives, the lease renewed, and is answered
ADJUSTED where a value was clamped, else OK. -/
theorem lockedCommand_writeSingle {α : Type} (q : Requester) (i : Instr) (w : α) (clamped : α → Bool)
    (effect : α → State → State) (s : State) (h : s.holds q.party = true) :
    lockedCommand q i 0x04 (writeSingle 0 [w] fun w s => doneClamped (clamped w) (effect w s)) s
      = answerTo q 0x04 (okUnless (clamped w)) [] (renewLease (effect w (takeRequest i s))) := by
  rw [lockedCommand_of_holds _ _ _ _ _ h, writeSingle_one]
  rfl

/-! Each writable table with one entry, written with one entry at index 0 by the lock's holder. -/

section
variable (q : Requester) (s : State) (h : s.holds q.party = true)
include h

/-- R53: the two spacings and the residence. -/
theorem exec_writeUplink_one (w : UplinkWrite) :
    exec (.writeUplink q 0 [w]) s = .next (answerTo q 0x04 (okUnless (uplinkClamped w)) []
      (renewLease { takeRequest (.writeUplink q 0 [w]) s with uplink := { s.uplink with
        daySpacing := clamp 2 16 w.daySpacing.toNat, drainSpacing := clamp 2 16 w.drainSpacing.toNat
        residence := clamp 1 1000 w.residence.toNat } })) := by
  rw [← takeRequest_uplink (.writeUplink q 0 [w]) s]
  exact congrArg _ (lockedCommand_writeSingle _ _ w _ _ _ h)

/-- R69: the guest settings, and the guests' levels lowered to a new depth. -/
theorem exec_writeGuest_one (w : GuestWrite) :
    exec (.writeGuest q 0 [w]) s = .next (answerTo q 0x04 (okUnless (guestClamped w)) []
      (renewLease { takeRequest (.writeGuest q 0 [w]) s with guest := s.guest.withSettings (guestSettingsOf w) })) := by
  rw [← takeRequest_guest (.writeGuest q 0 [w]) s]
  exact congrArg _ (lockedCommand_writeSingle _ _ w _ _ _ h)

/-- R85: the reply timeout and the late window. -/
theorem exec_writeTracker_one (w : TrackerWrite) :
    exec (.writeTracker q 0 [w]) s = .next (answerTo q 0x04
      (okUnless (clamp 100 60000 w.replyTimeout.toNat != w.replyTimeout.toNat
        || clamp 0 120000 w.lateWindow.toNat != w.lateWindow.toNat)) []
      (renewLease { takeRequest (.writeTracker q 0 [w]) s with tracker := { s.tracker with
        replyTimeout := clamp 100 60000 w.replyTimeout.toNat
        lateWindow := clamp 0 120000 w.lateWindow.toNat } })) := by
  rw [← takeRequest_tracker (.writeTracker q 0 [w]) s]
  exact congrArg _ (lockedCommand_writeSingle _ _ w
    (fun w => clamp 100 60000 w.replyTimeout.toNat != w.replyTimeout.toNat
      || clamp 0 120000 w.lateWindow.toNat != w.lateWindow.toNat) _ _ h)

/-- R110: the two reserves. -/
theorem exec_writePool_one (w : PoolWrite) :
    exec (.writePool q 0 [w]) s = .next (answerTo q 0x04
      (okUnless ((reservesOf w).1 != w.journalReserve.toNat || (reservesOf w).2 != w.labelReserve.toNat)) []
      (renewLease { takeRequest (.writePool q 0 [w]) s with pool := { s.pool with
        journalReserve := (reservesOf w).1, labelReserve := (reservesOf w).2 } })) := by
  rw [← takeRequest_pool (.writePool q 0 [w]) s]
  exact congrArg _ (lockedCommand_writeSingle _ _ w _ _ _ h)

/-- R119: the night settings. -/
theorem exec_writeNight_one (w : NightWrite) :
    exec (.writeNight q 0 [w]) s = .next (answerTo q 0x04 (okUnless (nightClamped w)) []
      (renewLease { takeRequest (.writeNight q 0 [w]) s with
        night := { s.night with settings := nightSettingsOf w } })) := by
  rw [← takeRequest_night (.writeNight q 0 [w]) s]
  exact congrArg _ (lockedCommand_writeSingle _ _ w _ _ _ h)

/-- R143: the label settings. -/
theorem exec_writeLabel_one (w : LabelWrite) :
    exec (.writeLabel q 0 [w]) s = .next (answerTo q 0x04
      (okUnless ((labelSettingsOf w).attemptLimit != w.attemptLimit.toNat
        || (labelSettingsOf w).outcomeTimeout != w.outcomeTimeout.toNat)) []
      (renewLease { takeRequest (.writeLabel q 0 [w]) s with
        label := { s.label with settings := labelSettingsOf w } })) := by
  rw [← takeRequest_label (.writeLabel q 0 [w]) s]
  exact congrArg _ (lockedCommand_writeSingle _ _ w _ _ _ h)

/-- R178: the alert interval. -/
theorem exec_writeAlerts_one (v : BitVec 16) :
    exec (.writeAlerts q 0 [v]) s = .next (answerTo q 0x04 (okUnless (clamp 100 60000 v.toNat != v.toNat)) []
      (renewLease { takeRequest (.writeAlerts q 0 [v]) s with
        alerts := { s.alerts with interval := clamp 100 60000 v.toNat } })) := by
  rw [← takeRequest_alerts (.writeAlerts q 0 [v]) s]
  exact congrArg _ (lockedCommand_writeSingle _ _ v _ _ _ h)

/-- R191: the lease the write's own restart takes is the new one. -/
theorem exec_writeAgent_one (v : BitVec 16) :
    exec (.writeAgent q 0 [v]) s = .next (answerTo q 0x04 (okUnless (clamp 60 3600 v.toNat != v.toNat)) []
      { takeRequest (.writeAgent q 0 [v]) s with agent := { (takeRequest (.writeAgent q 0 [v]) s).agent with
        lease := clamp 60 3600 v.toNat, leaseTimer := some ⟨s.tick, 1000 * clamp 60 3600 v.toNat⟩ } }) := by
  rw [← takeRequest_tick (.writeAgent q 0 [v]) s]
  exact congrArg _ (lockedCommand_writeSingle _ _ v _ _ _ h)

end

/-- Settles O50: each clause is the table's write above, its values held to their ranges by `clamp_eq_max_min`. -/
theorem settingsWritesAreClamped : Obligations.SettingsWritesAreClamped := by
  intro q held status s h hheld hstatus
  obtain rfl : status = okUnless := funext hstatus
  have hc {low high : Nat} (hle : low ≤ high) (v : Nat) : clamp low high v = held low high v := by
    rw [clamp_eq_max_min hle, hheld]
  refine ⟨fun w => ?uplink, fun w g hg => ?guest, fun w => ?tracker, fun w journal label hj hl => ?pool,
    fun w n hn => ?night, fun w l hl => ?label, fun v => ?alerts, fun v => ?agent⟩
  case uplink =>
    rw [exec_writeUplink_one q s h w]
    simp only [uplinkClamped, hc, Nat.reduceLeDiff, bne_eq_decide_ne, Bool.decide_or, Bool.or_assoc]
  case guest =>
    have hset : guestSettingsOf w = g := by simp only [guestSettingsOf, hc, Nat.reduceLeDiff, hg]
    rw [exec_writeGuest_one q s h w]
    simp only [guestClamped, hset, GuestUnit.withSettings, bne_eq_decide_ne, Bool.decide_or, Bool.or_assoc]
  case tracker =>
    rw [exec_writeTracker_one q s h w]
    simp only [hc, Nat.reduceLeDiff, bne_eq_decide_ne, Bool.decide_or]
  case pool =>
    have hset : reservesOf w = (journal, label) := by simp only [reservesOf, hc, Nat.reduceLeDiff, hj, hl]
    rw [exec_writePool_one q s h w]
    simp only [hset, bne_eq_decide_ne, Bool.decide_or]
  case night =>
    have hset : nightSettingsOf w = n := by simp only [nightSettingsOf, serviceOf, hc, Nat.reduceLeDiff, hn]
    rw [exec_writeNight_one q s h w]
    simp only [nightClamped, hset, beq_eq_decide, bne_eq_decide_ne, Bool.decide_or, Bool.or_assoc]
  case label =>
    have hset : labelSettingsOf w = l := by simp only [labelSettingsOf, hc, Nat.reduceLeDiff, hl]
    rw [exec_writeLabel_one q s h w]
    simp only [hset, bne_eq_decide_ne, Bool.decide_or]
  case alerts =>
    rw [exec_writeAlerts_one q s h v]
    simp only [hc, Nat.reduceLeDiff, bne_eq_decide_ne]
  case agent =>
    rw [exec_writeAgent_one q s h v]
    simp only [hc, Nat.reduceLeDiff, bne_eq_decide_ne]

end Sys2Proof.Machine

/-! SUPPORT. What a run of the part can do to its queues, its control state and its journal: every operation of the
model is a chain of moves, each of which joins one frame to a queue with room, takes one frame into transmission, appends
one journal record, or touches none of them. The laws of R15 and R51, the control state and the journal's records are
then read off the moves. -/

namespace Sys2Proof.Machine

/- The proofs below run one after another: run together, their waiting threads outgrow the memory a check may use. -/
set_option Elab.async false

/-! ## Moves -/

/-- What moves but a few kinds keep: the control state (R2, R3, R16, R19, R25, R188), the queues (R15, R50) and the
journal's records (R112). -/
structure Core where
  station : Station
  tick : Tick
  links : PerSegment (Option LinkSpeed)
  egress : Egress
  uplink : Uplink
  partState : PartState
  holder : Option Party
  active : BankId
  records : List JournalRecord

/-- The core of a state. -/
def State.core (s : State) : Core where
  station := s.station
  tick := s.tick
  links := s.links
  egress := s.egress
  uplink := s.uplink
  partState := s.agent.partState
  holder := s.agent.holder
  active := s.classifier.active
  records := s.journal.records

/-- What some moves may do: which frames may join a queue at a tick, and whether records may be appended. An alert frame
built at the tick may always join (R178). -/
structure Licence where
  joins : Tick → Frame → Prop
  appends : Prop
  alerts : ∀ now f, f.kind = .alert → f.entryTick = now → joins now f

/-- Every frame may join. -/
def Licence.any (appends : Prop) : Licence := ⟨fun _ _ => True, appends, fun _ _ _ _ => trivial⟩

/-- Every frame but a forwarded one may join (R16), and no record is appended. -/
def Licence.own : Licence := ⟨fun _ f => f.kind ≠ .forwarded, False, fun _ f h _ => by simp [h]⟩

/-- Alert frames built at the tick may join, and no other (R178), and no record is appended. -/
def Licence.alertsOnly : Licence :=
  ⟨fun now f => f.kind = .alert ∧ f.entryTick = now, False, fun _ _ h h' => ⟨h, h'⟩⟩

/-- The state with a frame at the tail of an egress queue (R15). -/
def State.joinEgress (s : State) (p : EgressPort) (f : Frame) : State :=
  s.withEgress p (s.egress.get p ++ [f])

/-- The state with a frame at the tail of an uplink queue (R51). -/
def State.joinUplink (s : State) (q : UplinkQueue) (f : Frame) : State :=
  { s with uplink := { s.uplink with queues := s.uplink.queues.set q (s.uplink.queues.get q ++ [f]) } }

/-- The state with the head frame of an uplink queue taken into transmission (R54). -/
def State.takeOff (s : State) (q : UplinkQueue) (f : Frame) (rest : List Frame) : State :=
  { s with uplink := s.uplink.departed s.ports.gateways.uplink s.tick q f rest }

/-- The state with other journal records (R112). -/
def State.withRecords (s : State) (records : List JournalRecord) : State :=
  { s with journal := { s.journal with records := records } }

/-- The chains of moves under a licence. -/
inductive Moves (L : Licence) : State → State → Prop
  | same {s t : State} : t.core = s.core → Moves L s t
  | egress (s : State) (p : EgressPort) (f : Frame) : s.up (egressSegment p) = true → (s.egress.get p).length < 64 →
      L.joins s.tick f → Moves L s (s.joinEgress p f)
  | uplink (s : State) (q : UplinkQueue) (f : Frame) : s.uplink.hasRoom q = true → L.joins s.tick f →
      Moves L s (s.joinUplink q f)
  | departs (s : State) (q : UplinkQueue) (f : Frame) (rest : List Frame) : s.uplink.queues.get q = f :: rest →
      Moves L s (s.takeOff q f rest)
  | appends (s : State) (r : JournalRecord) : L.appends → Moves L s (s.withRecords (s.journal.records ++ [r]))
  | trans {s t u : State} : Moves L s t → Moves L t u → Moves L s u

variable {L : Licence} {s t u : State}

theorem Moves.refl (s : State) : Moves L s s := .same rfl

/-- Moves go on through what leaves the core as it was. -/
theorem Moves.keep (h : Moves L s t) (e : u.core = t.core := by unfold State.core; rfl) : Moves L s u := h.trans (.same e)

/-! ## Reading a chain of moves -/

/-- What lies behind every law read off a chain of moves: a relation that holds across each kind of move holds across
the chain. -/
theorem Moves.lift {R : State → State → Prop} (hm : Moves L s t)
    (trans : ∀ {s t u}, R s t → R t u → R s u)
    (same : ∀ {s t : State}, t.core = s.core → R s t)
    (egress : ∀ s p f, s.up (egressSegment p) = true → (s.egress.get p).length < 64 → L.joins s.tick f →
      R s (s.joinEgress p f))
    (uplink : ∀ s q f, s.uplink.hasRoom q = true → L.joins s.tick f → R s (s.joinUplink q f))
    (departs : ∀ s q f rest, s.uplink.queues.get q = f :: rest → R s (s.takeOff q f rest))
    (appends : ∀ s r, L.appends → R s (s.withRecords (s.journal.records ++ [r]))) : R s t := by
  induction hm with
  | same e => exact same e
  | egress s p f hup hroom hf => exact egress s p f hup hroom hf
  | uplink s q f hroom hf => exact uplink s q f hroom hf
  | departs s q f rest hq => exact departs s q f rest hq
  | appends s r ha => exact appends s r ha
  | trans _ _ ih ih' => exact trans ih ih'

/-- The control state: what only some commands change. -/
structure Control where
  station : Station
  tick : Tick
  links : PerSegment (Option LinkSpeed)
  partState : PartState
  holder : Option Party
  active : BankId

/-- The control state of a state. -/
def State.control (s : State) : Control where
  station := s.station
  tick := s.tick
  links := s.links
  partState := s.agent.partState
  holder := s.agent.holder
  active := s.classifier.active

theorem control_of_core (h : t.core = s.core) : t.control = s.control :=
  congrArg (fun c : Core => (⟨c.station, c.tick, c.links, c.partState, c.holder, c.active⟩ : Control)) h

theorem egress_of_core (h : t.core = s.core) : t.egress = s.egress := congrArg Core.egress h
theorem uplink_of_core (h : t.core = s.core) : t.uplink = s.uplink := congrArg Core.uplink h
theorem records_of_core (h : t.core = s.core) : t.journal.records = s.journal.records := congrArg Core.records h

/-- Moves keep the control state. -/
theorem Moves.control (h : Moves L s t) : t.control = s.control :=
  h.lift (R := fun s t => t.control = s.control) (fun h h' => h'.trans h) control_of_core
    (fun _ _ _ _ _ _ => rfl) (fun _ _ _ _ _ => rfl) (fun _ _ _ _ _ => rfl) (fun _ _ _ => rfl)

theorem Moves.tick (h : Moves L s t) : t.tick = s.tick := congrArg Control.tick h.control

/-- Moves append journal records alone, where the licence has them append. -/
theorem Moves.records_prefix (h : Moves L s t) : s.journal.records <+: t.journal.records :=
  h.lift (R := fun s t => s.journal.records <+: t.journal.records) (fun h h' => h.trans h')
    (fun e => by rw [records_of_core e]) (fun _ _ _ _ _ _ => List.prefix_rfl) (fun _ _ _ _ _ => List.prefix_rfl)
    (fun _ _ _ _ _ => List.prefix_rfl) (fun _ _ _ => List.prefix_append _ _)

/-- Moves whose licence appends nothing keep the journal's records. -/
theorem Moves.records (h : Moves L s t) (ha : ¬ L.appends) : t.journal.records = s.journal.records :=
  h.lift (R := fun s t => t.journal.records = s.journal.records) (fun h h' => h'.trans h) records_of_core
    (fun _ _ _ _ _ _ => rfl) (fun _ _ _ _ _ => rfl) (fun _ _ _ _ _ => rfl) (fun _ _ h => absurd h ha)

/-- Moves that append nothing can be made with other journal records beside them. -/
theorem Moves.withRecords (h : Moves L s t) (ha : ¬ L.appends) (r : List JournalRecord) :
    Moves L (s.withRecords r) (t.withRecords r) :=
  h.lift (R := fun s t => Moves L (s.withRecords r) (t.withRecords r)) (fun h h' => h.trans h')
    (fun e => .same (congrArg (fun c : Core => { c with records := r }) e))
    (fun s p f hup hroom hf => .egress (s.withRecords r) p f hup hroom hf)
    (fun s q f hroom hf => .uplink (s.withRecords r) q f hroom hf)
    (fun s q f rest hq => .departs (s.withRecords r) q f rest hq)
    (fun _ _ h => absurd h ha)

/-- What a licence allows, a wider one does. -/
theorem Moves.mono {L' : Licence} (h : Moves L s t) (hj : ∀ now f, L.joins now f → L'.joins now f)
    (ha : L.appends → L'.appends) : Moves L' s t :=
  h.lift (fun h h' => h.trans h') .same (fun s p f hup hroom hf => .egress s p f hup hroom (hj _ _ hf))
    (fun s q f hroom hf => .uplink s q f hroom (hj _ _ hf)) (fun s q f rest hq => .departs s q f rest hq)
    (fun s r h => .appends s r (ha h))

/-! ## One of several -/

@[simp] theorem Egress.get_set_same (e : Egress) (p : EgressPort) (q : List Frame) : (e.set p q).get p = q := by
  cases p <;> rfl

theorem Egress.get_set_of_ne (e : Egress) {p p' : EgressPort} (q : List Frame) (h : p' ≠ p) :
    (e.set p q).get p' = e.get p' := by
  revert h
  cases p <;> cases p' <;> simp [Egress.get, Egress.set]

theorem Egress.get_set (e : Egress) (p p' : EgressPort) (q : List Frame) :
    (e.set p q).get p' = if p' = p then q else e.get p' := by
  split
  · next h => rw [h, Egress.get_set_same]
  · next h => exact e.get_set_of_ne q h

@[simp] theorem PerQueue.get_set_same {α : Type} (v : PerQueue α) (q : UplinkQueue) (x : α) : (v.set q x).get q = x := by
  cases q <;> rfl

theorem PerQueue.get_set_of_ne {α : Type} (v : PerQueue α) {q q' : UplinkQueue} (x : α) (h : q' ≠ q) :
    (v.set q x).get q' = v.get q' := by
  revert h
  cases q <;> cases q' <;> simp [PerQueue.get, PerQueue.set]

theorem PerQueue.get_set {α : Type} (v : PerQueue α) (q q' : UplinkQueue) (x : α) :
    (v.set q x).get q' = if q' = q then x else v.get q' := by
  split
  · next h => rw [h, PerQueue.get_set_same]
  · next h => exact v.get_set_of_ne x h

/-- R51: the frames queued after one queue is replaced, beside those before. -/
theorem queuedTotal_set (v : PerQueue (List Frame)) (q : UplinkQueue) (x : List Frame) :
    queuedTotal (v.set q x) + (v.get q).length = queuedTotal v + x.length := by
  cases q <;> simp only [queuedTotal, PerQueue.set, PerQueue.get] <;> omega

theorem hasRoom_iff (v : Uplink) (q : UplinkQueue) :
    v.hasRoom q = true ↔ (v.queues.get q).length < v.limits.get q ∧ queuedTotal v.queues < 256 := decide_eq_true_iff

/-! ## The queue laws (R15, R51) -/

/-- R15, R51: the laws of the egress queues and of the uplink queues. -/
def QueueLaws (s : State) : Prop := EgressLaw s ∧ UplinkLaw s

/-- Moves keep the queue laws. -/
theorem Moves.queueLaws (h : Moves L s t) : QueueLaws s → QueueLaws t :=
  h.lift (R := fun s t => QueueLaws s → QueueLaws t) (fun h h' l => h' (h l))
    (fun e l => by simpa only [QueueLaws, EgressLaw, UplinkLaw, egress_of_core e, uplink_of_core e] using l)
    (fun s p f _ hroom _ l => ⟨fun p' => by
      show ((s.egress.set p _).get p').length ≤ 64
      rw [Egress.get_set]
      split
      · rw [List.length_append]; exact hroom
      · exact l.1 p', l.2⟩)
    (fun s q f hroom _ l => ⟨l.1, by
      have hset := queuedTotal_set s.uplink.queues q (s.uplink.queues.get q ++ [f])
      rw [List.length_append, List.length_singleton] at hset
      have hlt := ((hasRoom_iff _ _).1 hroom).2
      show queuedTotal (s.uplink.queues.set q (s.uplink.queues.get q ++ [f])) ≤ 256
      omega, l.2.2⟩)
    (fun s q f rest hq l => ⟨l.1, by
      have hset := queuedTotal_set s.uplink.queues q rest
      rw [hq, List.length_cons] at hset
      have hle := l.2.1
      show queuedTotal (s.uplink.queues.set q rest) ≤ 256
      omega, l.2.2⟩)
    (fun _ _ _ l => l)

/-! ## Frames that join -/

/-- Where the frames of a state come from: from the queues of an earlier one, or by joining at its tick. -/
structure Traced (L : Licence) (s t : State) : Prop where
  tick : t.tick = s.tick
  egress : ∀ p, ∀ f ∈ t.egress.get p, f ∈ s.egress.get p ∨ L.joins s.tick f
  queues : ∀ q, ∀ f ∈ t.uplink.queues.get q, f ∈ s.uplink.queues.get q ∨ L.joins s.tick f
  transmitting : ∀ x, t.uplink.transmitting = some x → s.uplink.transmitting = some x
    ∨ ∃ f g, x.frame = f.departing g ∧ ((∃ q, f ∈ s.uplink.queues.get q) ∨ L.joins s.tick f)

theorem Traced.trans (h : Traced L s t) (h' : Traced L t u) : Traced L s u where
  tick := h'.tick.trans h.tick
  egress p f hf := (h'.egress p f hf).elim (h.egress p f) fun hj => .inr (h.tick ▸ hj)
  queues q f hf := (h'.queues q f hf).elim (h.queues q f) fun hj => .inr (h.tick ▸ hj)
  transmitting x hx := by
    rcases h'.transmitting x hx with hx | ⟨f, g, hfg, ⟨q, hq⟩ | hj⟩
    · exact h.transmitting x hx
    · exact .inr ⟨f, g, hfg, (h.queues q f hq).imp_left fun hf => ⟨q, hf⟩⟩
    · exact .inr ⟨f, g, hfg, .inr (h.tick ▸ hj)⟩

/-- A frame of a queue after one frame has joined it was there, or joined. -/
theorem mem_joined {J : Frame → Prop} {l : List Frame} {f f' : Frame} (hf : f' ∈ l ++ [f]) (hj : J f) :
    f' ∈ l ∨ J f' :=
  (List.mem_append.1 hf).imp_right fun h => by rwa [List.mem_singleton.1 h]

/-- After some moves the frames queued and in transmission were queued before, or joined. -/
theorem Moves.traced (h : Moves L s t) : Traced L s t :=
  h.lift Traced.trans
    (fun e => ⟨congrArg Core.tick e, fun p f hf => .inl (egress_of_core e ▸ hf),
      fun q f hf => .inl (uplink_of_core e ▸ hf), fun x hx => .inl (uplink_of_core e ▸ hx)⟩)
    (fun s p f _ _ hj => ⟨rfl, fun p' f' hf => by
      change f' ∈ (s.egress.set p _).get p' at hf
      rw [Egress.get_set] at hf
      split at hf
      · next hp => exact hp ▸ mem_joined hf hj
      · exact .inl hf, fun _ _ hf => .inl hf, fun _ hx => .inl hx⟩)
    (fun s q f _ hj => ⟨rfl, fun _ _ hf => .inl hf, fun q' f' hf => by
      change f' ∈ (s.uplink.queues.set q _).get q' at hf
      rw [PerQueue.get_set] at hf
      split at hf
      · next hq => exact hq ▸ mem_joined hf hj
      · exact .inl hf, fun _ hx => .inl hx⟩)
    (fun s q f rest hq => ⟨rfl, fun _ _ hf => .inl hf, fun q' f' hf => by
      change f' ∈ (s.uplink.queues.set q rest).get q' at hf
      rw [PerQueue.get_set] at hf
      split at hf
      · next hq' => exact .inl (hq' ▸ hq ▸ List.mem_cons_of_mem f hf)
      · exact .inl hf, fun x hx => .inr ⟨f, s.ports.gateways.uplink, by rw [← Option.some.inj hx],
        .inl ⟨q, hq ▸ List.mem_cons_self⟩⟩⟩)
    (fun _ _ _ => ⟨rfl, fun _ _ hf => .inl hf, fun _ _ hf => .inl hf, fun _ hx => .inl hx⟩)

/-- R2: moves leave the egress queue of a DOWN port as it was. -/
theorem Moves.egress_of_down (h : Moves L s t) {p : EgressPort} (hdown : s.up (egressSegment p) = false) :
    t.egress.get p = s.egress.get p := by
  have key : t.links = s.links ∧ (s.up (egressSegment p) = false → t.egress.get p = s.egress.get p) :=
    h.lift (R := fun s t => t.links = s.links ∧ (s.up (egressSegment p) = false → t.egress.get p = s.egress.get p))
      (fun ⟨e, h⟩ ⟨e', h'⟩ => ⟨e'.trans e, fun hd => (h' (by rwa [State.up, e])).trans (h hd)⟩)
      (fun e => ⟨congrArg Core.links e, fun _ => by rw [egress_of_core e]⟩)
      (fun s p' f hup _ _ => ⟨rfl, fun hd => Egress.get_set_of_ne _ _ fun hp => by
        rw [← hp, hd] at hup
        exact Bool.false_ne_true hup⟩)
      (fun _ _ _ _ _ => ⟨rfl, fun _ => rfl⟩) (fun _ _ _ _ _ => ⟨rfl, fun _ => rfl⟩) (fun _ _ _ => ⟨rfl, fun _ => rfl⟩)
  exact key.2 hdown

/-- R16: where no forwarded frame may join, the forwarded frames of an egress queue stay as they are. -/
theorem Moves.forwarded_egress (h : Moves .own s t) (p : EgressPort) :
    (t.egress.get p).filter (fun f => f.kind == .forwarded) = (s.egress.get p).filter (fun f => f.kind == .forwarded) :=
  h.lift (R := fun s t => (t.egress.get p).filter (fun f => f.kind == .forwarded)
      = (s.egress.get p).filter (fun f => f.kind == .forwarded))
    (fun h h' => h'.trans h) (fun e => by rw [egress_of_core e])
    (fun s p' f _ _ hf => by
      have hkind : (f.kind == .forwarded) = false := beq_false_of_ne hf
      show ((s.egress.set p' _).get p).filter _ = _
      rw [Egress.get_set]
      split
      · next hp => rw [hp, List.filter_append, List.filter_singleton, hkind]; simp
      · rfl)
    (fun _ _ _ _ _ => rfl) (fun _ _ _ _ _ => rfl) (fun _ _ _ => rfl)

end Sys2Proof.Machine

/-! SUPPORT. The shared operations as moves: what offering an event, presenting a frame, comparing a pair and sending a
datagram do to the queues, under any licence that lets the frame presented join. -/

namespace Sys2Proof.Machine

/- The proofs below run one after another: run together, their waiting threads outgrow the memory a check may use. -/
set_option Elab.async false

variable {L : Licence} {s t : State}

/-! ## Events, queues and alerts -/

theorem countOne_core (o : Occurrence) (s : State) (i : Fin 8) : (countOne o s i).core = s.core := by
  unfold countOne
  dsimp only
  split
  · split
    · split <;> rfl
    · rfl
  · rfl

theorem countEvent_core (o : Occurrence) (s : State) : (countEvent o s).core = s.core := by
  unfold countEvent
  generalize List.finRange 8 = l
  induction l generalizing s with
  | nil => rfl
  | cons i l ih => rw [List.foldl_cons, ih, countOne_core]

theorem countEvent_moves (o : Occurrence) (s : State) : Moves L s (countEvent o s) := .same (countEvent_core o s)

section
variable {offer : Occurrence → State → State} (ho : ∀ o s, Moves L s (offer o s))
include ho

theorem presentEgressWith_moves (p : EgressPort) {f : Frame} (hf : L.joins s.tick f) :
    Moves L s (presentEgressWith offer p f s) := by
  unfold presentEgressWith
  split
  · exact ho _ _
  · split
    · exact ho _ _
    · next hup =>
      split
      · next hroom => exact .egress s p f (by simpa using hup) hroom hf
      · exact ho _ _

theorem departWith_moves (s : State) : Moves L s (departWith offer s) := by
  unfold departWith
  split
  · split
    · exact .refl s
    · split
      · exact .refl s
      · next q _ _ f rest hq =>
        have htaken : Moves L s (offer (occur (.departure q) f.origin) (s.takeOff q f rest)) :=
          (Moves.departs s q f rest hq).trans (ho _ _)
        dsimp only
        split
        · exact htaken.trans (ho _ _)
        · exact htaken
  · exact .refl s

theorem presentUplinkWith_moves (q : UplinkQueue) {f : Frame} (hf : L.joins s.tick f) :
    Moves L s (presentUplinkWith offer q f s) := by
  unfold presentUplinkWith
  split
  · exact ho _ _
  · split
    · next hroom => exact (Moves.uplink s q f hroom hf).trans (departWith_moves ho _)
    · exact ho _ _

theorem presentOnWith_moves (port : Segment) {f : Frame} (hf : L.joins s.tick f) :
    Moves L s (presentOnWith offer port f s) := by
  cases port
  case uplink => exact presentUplinkWith_moves ho .urgent hf
  all_goals exact presentEgressWith_moves ho _ hf

end

/-- R178: the send test is a move of an alert frame at most. -/
theorem alertTest_moves (s : State) : Moves L s (alertTest s) := by
  unfold alertTest
  split
  · exact .refl s
  · next d _ =>
    split
    · exact (Moves.refl s).keep.trans (presentOnWith_moves countEvent_moves _ (L.alerts _ (s.alertFrame d) rfl rfl))
    · exact .refl s

theorem offer_moves (h : Moves L s t) (o : Occurrence) : Moves L s (offer o t) :=
  (h.trans (countEvent_moves o t)).trans (alertTest_moves _)

theorem drop_moves (h : Moves L s t) (r : DropReason) (o : Origin) : Moves L s (drop r o t) := offer_moves h _

theorem raise_moves (h : Moves L s t) (x : AlertSource) : Moves L s (raise x t) :=
  h.keep.trans (alertTest_moves _)

theorem offer_moves_self (o : Occurrence) (s : State) : Moves L s (offer o s) := offer_moves (.refl s) o

theorem presentEgress_moves (h : Moves L s t) (p : EgressPort) {f : Frame} (hf : L.joins t.tick f) :
    Moves L s (presentEgress p f t) := h.trans (presentEgressWith_moves offer_moves_self p hf)

theorem presentUplink_moves (h : Moves L s t) (q : UplinkQueue) {f : Frame} (hf : L.joins t.tick f) :
    Moves L s (presentUplink q f t) := h.trans (presentUplinkWith_moves offer_moves_self q hf)

theorem presentOn_moves (h : Moves L s t) (port : Segment) {f : Frame} (hf : L.joins t.tick f) :
    Moves L s (presentOn port f t) := h.trans (presentOnWith_moves offer_moves_self port hf)

theorem depart_moves (h : Moves L s t) : Moves L s (depart t) := h.trans (departWith_moves offer_moves_self t)

/-! ## Comparisons and meters -/

theorem comparePair_moves (h : Moves L s t) (i : PairId) : Moves L s (comparePair i t) := by
  have hcompared : Moves L s { t with thresholds := t.thresholds.set i ((t.thresholds.get i).compared (t.watched i)) } :=
    h.keep
  unfold comparePair
  dsimp only
  split
  · refine raise_moves ?_ _
    split
    · exact raise_moves hcompared _
    · exact hcompared
  · split
    · exact raise_moves hcompared _
    · exact hcompared

theorem compareChanged_moves (h : Moves L s t) (i : PairId) (before : Nat) : Moves L s (compareChanged i before t) := by
  unfold compareChanged
  split
  · exact h
  · exact comparePair_moves h i

theorem setMeter_moves (h : Moves L s t) (i : Meter) (m : ShareMeter) : Moves L s (t.setMeter i m) :=
  compareChanged_moves h.keep _ _

/-! ## Datagrams -/

theorem originate_moves (h : Moves L s t) (d : Datagram) {present : Frame → State → State}
    (hp : ∀ a, Moves L { t with freeSerial := t.freeSerial + 1 }
      (present (t.datagramFrame d a) { t with freeSerial := t.freeSerial + 1 })) :
    Moves L s (originate d present t) := by
  unfold originate
  split
  · exact offer_moves h _
  · exact h.keep.trans (hp _)

end Sys2Proof.Machine

/-! SUPPORT. The engines as moves: meters, forwarding, tracker, night engine, label engine, schedule and their messages,
each a chain of moves that appends no record but for the spool unit's append (R104) and drops none but for an ACK (R114). -/

namespace Sys2Proof.Machine

/- The proofs below run one after another: run together, their waiting threads outgrow the memory a check may use. -/
set_option Elab.async false

variable {A : Prop} {s t : State}

/-! ## Folds and datagrams -/

/-- A fold of operations that are chains of moves is one. -/
theorem foldl_moves {α : Type} {L : Licence} {f : State → α → State} (hf : ∀ s a, Moves L s (f s a)) (l : List α)
    (h : Moves L s t) : Moves L s (l.foldl f t) := by
  induction l generalizing t with
  | nil => exact h
  | cons a l ih => exact ih (h.trans (hf t a))

theorem originateEgress_moves (h : Moves (.any A) s t) (d : Datagram) (p : EgressPort) :
    Moves (.any A) s (originate d (presentEgress p) t) :=
  originate_moves h d fun _ => presentEgress_moves (.refl _) p trivial

theorem originateUplink_moves (h : Moves (.any A) s t) (d : Datagram) (q : UplinkQueue) :
    Moves (.any A) s (originate d (presentUplink q) t) :=
  originate_moves h d fun _ => presentUplink_moves (.refl _) q trivial

/-! ## Meters (R58 to R64, R75) -/

theorem presentMeter_moves (h : Moves (.any A) s t) (i : Meter) (q : UplinkQueue) (f : Frame) :
    Moves (.any A) s (presentMeter i q f t) := by
  unfold presentMeter
  dsimp only
  split
  · exact presentUplink_moves (setMeter_moves h _ _) _ trivial
  · exact offer_moves (setMeter_moves h _ _) _

theorem chargeStation_moves (h : Moves (.any A) s t) (f : Frame) : Moves (.any A) s (chargeStation f t) := by
  unfold chargeStation
  split
  · exact h
  · exact h.keep

theorem releaseOne_moves (i : Meter) (s : State) (x : HeldFrame) : Moves (.any A) s (releaseOne i s x) := by
  unfold releaseOne
  refine presentUplink_moves ?_ _ trivial
  split
  · exact chargeStation_moves (.refl s) _
  · exact .refl s

theorem releaseMeter_moves (h : Moves (.any A) s t) (i : Meter) : Moves (.any A) s (releaseMeter i t) := by
  unfold releaseMeter
  split
  · exact h
  · exact foldl_moves (releaseOne_moves i) _ (setMeter_moves h _ _)

theorem jointTest_moves (h : Moves (.any A) s t) (a : Station) (f : Frame) :
    Moves (.any A) s (jointTest a f t) := by
  unfold jointTest
  dsimp only
  split
  · exact offer_moves (setMeter_moves h _ _) _
  · split
    · exact offer_moves (setMeter_moves h.keep _ _) _
    · split
      · exact presentUplink_moves (setMeter_moves h.keep _ _) _ trivial
      · exact offer_moves (setMeter_moves h.keep _ _) _

theorem switchMeter_moves (old new : DayNight) (s : State) (i : Meter) : Moves (.any A) s (switchMeter old new s i) :=
  setMeter_moves (.refl s) _ _

theorem restartMeter_moves {L : Licence} (s : State) (i : Meter) : Moves L s (restartMeter s i) :=
  setMeter_moves (.refl s) _ _

/-! ## Forwarding and the request tracker (R28 to R30, R87 to R95) -/

theorem deliverForwarded_moves (h : Moves (.any A) s t) (p : Passage) (copy : LookupCopy) (f : Frame) :
    Moves (.any A) s (deliverForwarded p copy f t) := by
  unfold deliverForwarded
  split
  · exact presentEgress_moves h _ trivial
  · exact presentEgress_moves h _ trivial
  · exact presentEgress_moves h _ trivial
  · exact presentEgress_moves h _ trivial
  · split
    · exact jointTest_moves h _ _
    · exact presentMeter_moves h _ _ _
    · exact presentUplink_moves h _ trivial

theorem forwardFrame_moves (h : Moves (.any A) s t) (p : Passage) (copy : LookupCopy) :
    Moves (.any A) s (forwardFrame p copy t) := by
  unfold forwardFrame
  dsimp only
  split
  · exact drop_moves h _ _
  · split
    · exact drop_moves h _ _
    · exact deliverForwarded_moves h _ _ _

theorem sendTracked_moves (h : Moves (.any A) s t) (p : Passage) (copy : LookupCopy) :
    Moves (.any A) s (sendTracked p copy t) := by
  unfold sendTracked
  dsimp only
  split
  · exact drop_moves h _ _
  · exact presentUplink_moves h _ trivial

theorem trackNew_moves (h : Moves (.any A) s t) (p : Passage) (copy : LookupCopy) (n : Fin 32) (tag : BitVec 32) :
    Moves (.any A) s (trackNew p copy n tag t) := by
  unfold trackNew
  dsimp only
  split
  · exact offer_moves h _
  · split
    · exact sendTracked_moves (offer_moves h _) _ _
    · exact sendTracked_moves (offer_moves h.keep _) _ _

theorem trackKeyed_moves (h : Moves (.any A) s t) (p : Passage) (copy : LookupCopy) (n : Fin 32) :
    Moves (.any A) s (trackKeyed p copy n t) := by
  unfold trackKeyed
  dsimp only
  split
  · split
    · exact sendTracked_moves h.keep _ _
    · exact trackNew_moves h _ _ _ _
  · exact trackNew_moves h _ _ _ _

theorem trackFrame_moves (h : Moves (.any A) s t) (p : Passage) (copy : LookupCopy) :
    Moves (.any A) s (trackFrame p copy t) := by
  unfold trackFrame
  dsimp only
  split
  · exact drop_moves h _ _
  · split
    · exact drop_moves h _ _
    · split
      · exact drop_moves h _ _
      · split
        · exact drop_moves h _ _
        · split
          · exact drop_moves h _ _
          · split
            · exact drop_moves h _ _
            · exact trackKeyed_moves h _ _ _

theorem replyFrame_moves (h : Moves (.any A) s t) (p : Passage) (i : Fin 64) (r : OpenRequest) :
    Moves (.any A) s (replyFrame p i r t) := by
  unfold replyFrame
  dsimp only
  split
  · exact drop_moves h _ _
  · have hfreed (o : Occurrence) :
        Moves (.any A) s ((if r.state = .heldOver then offer o t else t).setSlot i none) := by
      split
      · exact (offer_moves h o).keep
      · exact h.keep
    split
    · exact drop_moves (hfreed _) _ _
    · exact presentEgress_moves (hfreed _) _ trivial

theorem heldOverAfter_moves (h : Moves (.any A) s t) (i : Fin 64) (r : OpenRequest) :
    Moves (.any A) s (heldOverAfter i r t) := by
  unfold heldOverAfter
  split
  · exact offer_moves h.keep _
  · exact h.keep

theorem expireWaiting_moves (i : Fin 64) (r : OpenRequest) (s : State) : Moves (.any A) s (expireWaiting i r s) := by
  unfold expireWaiting
  split
  · exact heldOverAfter_moves (offer_moves (originateEgress_moves (.refl s) _ _) _) _ _
  · exact offer_moves (Moves.refl s).keep _

theorem expireHeldOver_moves (i : Fin 64) (r : OpenRequest) (s : State) : Moves (.any A) s (expireHeldOver i r s) :=
  offer_moves (Moves.refl s).keep _

/-! ## The night engine (R121 to R140) -/

theorem sendNight_moves (h : Moves (.any A) s t) (kind : Nat) (fields : Bytes) :
    Moves (.any A) s (sendNight kind fields t) := originateUplink_moves h _ _

theorem sendOpen_moves (h : Moves (.any A) s t) : Moves (.any A) s (sendOpen t) := originateUplink_moves h _ _

theorem failSession_moves (h : Moves (.any A) s t) : Moves (.any A) s (failSession t) := by
  unfold failSession
  split
  · exact h.keep
  · exact raise_moves h.keep _

theorem placeCall_moves (h : Moves (.any A) s t) (attempts : Nat) : Moves (.any A) s (placeCall attempts t) :=
  (sendOpen_moves (t := { t with night := { t.night with attempts := attempts, backoffTimer := none } }) h.keep).keep

theorem nightCall_moves (h : Moves (.any A) s t) : Moves (.any A) s (nightCall t) := by
  unfold nightCall
  split
  · exact placeCall_moves h _
  · exact h

theorem callExpires_moves (s : State) : Moves (.any A) s (callExpires s) := failSession_moves (Moves.refl s).keep

theorem sendRecords_moves (h : Moves (.any A) s t) : Moves (.any A) s (sendRecords t) :=
  originate_moves (offer_moves h.keep _) _ fun _ => presentMeter_moves (.refl _) _ _ _

theorem sendWhile_moves (n : Nat) (h : Moves (.any A) s t) : Moves (.any A) s (sendWhile n t) := by
  induction n generalizing t with
  | zero => exact h
  | succ n ih =>
    unfold sendWhile
    split
    · exact ih (sendRecords_moves h)
    · exact h

theorem completionTest_moves (h : Moves (.any A) s t) : Moves (.any A) s (completionTest t) := by
  unfold completionTest
  split
  · exact (sendNight_moves h 3 _).keep
  · exact h

theorem nightFollow_moves (h : Moves (.any A) s t) : Moves (.any A) s (nightFollow t) :=
  completionTest_moves (sendWhile_moves _ h)

theorem grantTaken_moves (h : Moves (.any A) s t) (window : Byte) : Moves (.any A) s (grantTaken window t) := by
  unfold grantTaken
  split
  · exact h.keep
  · exact h.keep
  · exact h

theorem closeSession_moves (h : Moves (.any A) s t) : Moves (.any A) s (closeSession t) :=
  (sendNight_moves h 5 []).keep

theorem finishSession_moves (h : Moves (.any A) s t) : Moves (.any A) s (finishSession t) := by
  unfold finishSession
  split
  · exact closeSession_moves h
  · exact h

theorem ackExpires_moves (s : State) : Moves (.any A) s (ackExpires s) := by
  unfold ackExpires
  dsimp only
  split
  · exact nightFollow_moves (Moves.refl s).keep
  · exact failSession_moves (Moves.refl s).keep

/-! ## The label engine (R137 to R154) -/

theorem takeUpdates_moves (a : Station) (ws : List LabelWire) (h : Moves (.any A) s t) :
    Moves (.any A) s (takeUpdates a ws t).1 := by
  induction ws generalizing t with
  | nil => exact h
  | cons w ws ih =>
    unfold takeUpdates
    split
    · exact ih (offer_moves h.keep _)
    · split
      · exact ih h.keep
      · exact h

theorem deliverOne_moves (h : Moves (.any A) s t) (b : BaseStation) (u : LabelUpdate) :
    Moves (.any A) s (deliverOne b u t) := originateEgress_moves h.keep _ _

theorem deliverWhile_moves (n : Nat) (h : Moves (.any A) s t) : Moves (.any A) s (deliverWhile n t) := by
  induction n generalizing t with
  | zero => exact h
  | succ n ih =>
    unfold deliverWhile
    split
    · split
      · exact ih (deliverOne_moves h _ _)
      · exact h
    · exact h

theorem deliveries_moves (h : Moves (.any A) s t) : Moves (.any A) s (deliveries t) := deliverWhile_moves 16 h

theorem freeLabelBlock_moves (h : Moves (.any A) s t) : Moves (.any A) s (freeLabelBlock t) :=
  compareChanged_moves h.keep _ _

theorem loseOldest_moves (h : Moves (.any A) s t) : Moves (.any A) s (loseOldest t) := by
  unfold loseOldest
  split
  · exact h
  · exact raise_moves (offer_moves h.keep _) _

theorem giveUp_moves (h : Moves (.any A) s t) (u : LabelUpdate) (why : GivenUp) (o : Origin) :
    Moves (.any A) s (giveUp u why o t) :=
  offer_moves (loseOldest_moves (freeLabelBlock_moves h)).keep _

theorem returnUpdate_moves (h : Moves (.any A) s t) (u : LabelUpdate) (o : Origin) :
    Moves (.any A) s (returnUpdate u o t) := by
  unfold returnUpdate
  split
  · exact offer_moves (freeLabelBlock_moves h) _
  · exact h.keep

theorem applyOutcome_moves (h : Moves (.any A) s t) (u : LabelUpdate) (x : LabelOutcome) (o : Origin) :
    Moves (.any A) s (applyOutcome u x o t) := by
  unfold applyOutcome
  split
  · exact offer_moves (freeLabelBlock_moves h) _
  · exact giveUp_moves h _ _ _
  · split
    · exact giveUp_moves h _ _ _
    · exact returnUpdate_moves h _ _

theorem takeOutcome_moves (h : Moves (.any A) s t) (number : BitVec 24) (x : LabelOutcome) (o : Origin) :
    Moves (.any A) s (takeOutcome number x o t) := by
  unfold takeOutcome
  split
  · exact offer_moves h _
  · exact deliveries_moves (applyOutcome_moves h.keep _ _ _)

/-- R154, under any licence: the recovery offers events and compares a pair, and presents no frame of its own. -/
theorem labelRecovery_moves {L : Licence} (h : Moves L s t) : Moves L s (labelRecovery t) :=
  foldl_moves (fun s o => offer_moves (.refl s) o) _ (compareChanged_moves h.keep _ _)

/-! ## Clock and schedule (R159 to R166) -/

theorem setProfile_moves (h : Moves (.any A) s t) (v : DayNight) (o : LevelOrigin) :
    Moves (.any A) s (setProfile v o t) := by
  unfold setProfile
  dsimp only
  split
  · exact h.keep
  · exact foldl_moves (switchMeter_moves _ _) _ h.keep

theorem setLabelWindow_moves (h : Moves (.any A) s t) (v : Gate) (o : LevelOrigin) :
    Moves (.any A) s (setLabelWindow v o t) := by
  unfold setLabelWindow
  dsimp only
  split
  · exact deliveries_moves h.keep
  · exact h.keep

theorem setGuestState_moves (h : Moves (.any A) s t) (v : Gate) (o : LevelOrigin) :
    Moves (.any A) s (setGuestState v o t) := by
  unfold setGuestState
  dsimp only
  split
  · exact h.keep
  · exact h.keep

theorem act_moves (h : Moves (.any A) s t) (action : ScheduleAction) (o : LevelOrigin) :
    Moves (.any A) s (act action o t) := by
  unfold act
  split
  · exact setProfile_moves h _ _
  · exact setProfile_moves h _ _
  · exact setLabelWindow_moves h _ _
  · exact setLabelWindow_moves h _ _
  · exact setGuestState_moves h _ _
  · exact setGuestState_moves h _ _
  · exact nightCall_moves h

theorem fireEntry_moves (v : Vector ScheduleEntry 16) (second : Nat) (s : State) (i : Fin 16) :
    Moves (.any A) s (fireEntry v second s i) := by
  unfold fireEntry
  split
  · exact act_moves (.refl s) _ _
  · exact .refl s

theorem fireEntries_moves (h : Moves (.any A) s t) : Moves (.any A) s (fireEntries t) := by
  unfold fireEntries
  split
  · exact foldl_moves (fireEntry_moves _ _) _ h
  · exact h

theorem replayKind_moves (s : State) (k : LevelKind) : Moves (.any A) s (replayKind s k) := by
  unfold replayKind
  split
  · exact .refl s
  · exact act_moves (.refl s) _ _

theorem replay_moves (h : Moves (.any A) s t) : Moves (.any A) s (replay t) := foldl_moves replayKind_moves _ h

theorem clockSet_moves (h : Moves (.any A) s t) (day second : Nat) : Moves (.any A) s (clockSet day second t) := by
  unfold clockSet
  dsimp only
  split
  · exact replay_moves h.keep
  · exact h.keep

/-! ## Messages but for ACK (R120, R146) -/

theorem nightForeign_moves (h : Moves (.any A) s t) (a : Station) : Moves (.any A) s (nightForeign a t) :=
  offer_moves h _

theorem ifTaken_moves (h : Moves (.any A) s t) (m : NightSource) (inRange : Bool) {take : State → State}
    (ht : Moves (.any A) s (take t)) : Moves (.any A) s (ifTaken m inRange take t) := by
  unfold ifTaken
  split
  · exact ht
  · exact nightForeign_moves h _

theorem wakeMessage_moves (h : Moves (.any A) s t) (m : NightSource) : Moves (.any A) s (wakeMessage m t) :=
  ifTaken_moves h _ _ (nightCall_moves h)

theorem takeGrant_moves (h : Moves (.any A) s t) (window : Byte) (day : BitVec 16) (second : BitVec 32) :
    Moves (.any A) s (takeGrant window day second t) := by
  unfold takeGrant
  dsimp only
  split
  · refine nightFollow_moves ?_
    split
    · exact clockSet_moves (grantTaken_moves h _) _ _
    · exact grantTaken_moves h _
  · exact h

theorem grantMessage_moves (h : Moves (.any A) s t) (m : NightSource) (window : Byte) (day : BitVec 16)
    (second : BitVec 32) : Moves (.any A) s (grantMessage m window day second t) :=
  ifTaken_moves h _ _ (takeGrant_moves h _ _ _)

theorem takeLabels_moves (h : Moves (.any A) s t) (a : Station) (batch : BitVec 32) (ws : List LabelWire) :
    Moves (.any A) s (takeLabels a batch ws t) := by
  unfold takeLabels
  dsimp only
  split
  · exact deliveries_moves (sendNight_moves (compareChanged_moves (takeUpdates_moves a ws h) _ _) 4 _)
  · exact nightForeign_moves h _

theorem labelsMessage_moves (h : Moves (.any A) s t) (m : NightSource) (batch : BitVec 32) (ws : List LabelWire) :
    Moves (.any A) s (labelsMessage m batch ws t) := ifTaken_moves h _ _ (takeLabels_moves h _ _ _)

theorem finishMessage_moves (h : Moves (.any A) s t) (m : NightSource) : Moves (.any A) s (finishMessage m t) :=
  ifTaken_moves h _ _ (finishSession_moves h)

theorem overUplink_moves (a : Station) {take : State → State} (ht : Moves (.any A) s (take s)) :
    Moves (.any A) s (overUplink a take s) := by
  unfold overUplink
  split
  · exact .refl s
  · split
    · exact drop_moves (.refl s) _ _
    · exact ht

theorem overLabel_moves (a : Station) {take : State → State} (ht : Moves (.any A) s (take s)) :
    Moves (.any A) s (overLabel a take s) := by
  unfold overLabel
  split
  · exact .refl s
  · split
    · exact drop_moves (.refl s) _ _
    · split
      · exact drop_moves (.refl s) _ _
      · exact ht

theorem takeReady_moves (h : Moves (.any A) s t) (slots : Byte) : Moves (.any A) s (takeReady slots t) :=
  deliveries_moves h.keep

theorem outcomeMessage_moves (h : Moves (.any A) s t) (a : Station) (number : BitVec 24) (value : Byte) :
    Moves (.any A) s (outcomeMessage a number value t) := by
  unfold outcomeMessage
  split
  · exact drop_moves h _ _
  · split
    · exact drop_moves h _ _
    · exact takeOutcome_moves h _ _ _

theorem baseStationDatagram_moves (h : Moves (.any A) s t) (a : Station) (payload : Bytes) :
    Moves (.any A) s (baseStationDatagram a payload t) := by
  unfold baseStationDatagram
  split
  · exact takeReady_moves h _
  · exact outcomeMessage_moves h _ _ _
  · exact drop_moves h _ _

/-! ## An ACK (R129) -/

/-- R114, R129: the state without the records that an ACK for a sequence covers. -/
def State.acked (s : State) (sequence : Seq) : State :=
  s.withRecords (s.journal.records.drop (s.journal.covered sequence))

theorem removeAcked_moves (s : State) (sequence : Seq) :
    Moves (.any A) (s.acked sequence) (removeAcked (s.journal.covered sequence) s) :=
  compareChanged_moves (Moves.refl _).keep _ _

/-- R129: an ACK that is taken removes the records it covers, at most outstanding, and one that is stale none. -/
theorem takeAck_moves (a : Station) (sequence : Seq) (s : State) :
    (s.journal.covered sequence ≤ s.journal.outstanding ∧ Moves (.any A) (s.acked sequence) (takeAck a sequence s))
      ∨ Moves (.any A) s (takeAck a sequence s) := by
  unfold takeAck
  dsimp only
  split
  · exact .inr (offer_moves (.refl s) _)
  · next hle =>
    refine .inl ⟨Nat.le_of_not_lt hle, ?_⟩
    split
    · exact nightFollow_moves (removeAcked_moves s sequence).keep
    · exact removeAcked_moves s sequence

/-- R120, R129: an ACK message is an ACK of the collector, or moves no record. -/
theorem ackMessage_moves (m : NightSource) (sequence : Seq) (s : State) :
    (s.fromCollector m = true ∧ s.journal.covered sequence ≤ s.journal.outstanding
        ∧ Moves (.any A) (s.acked sequence) (ackMessage m sequence s))
      ∨ Moves (.any A) s (ackMessage m sequence s) := by
  unfold ackMessage ifTaken
  split
  · next hfrom =>
    rw [Bool.and_true] at hfrom
    exact (takeAck_moves m.station sequence s).imp_left fun ⟨hle, hm⟩ => ⟨hfrom, hle, hm⟩
  · exact .inr (nightForeign_moves (.refl s) _)

/-- R120: a night datagram is an ACK of the collector, or moves no record. -/
theorem nightDatagram_moves (a : Station) (address : NetAddr) (service : Service) (payload : Bytes) (s : State) :
    (∃ m sequence, decodeNight a address service payload = some (.ack m sequence) ∧ s.fromCollector m = true
        ∧ s.journal.covered sequence ≤ s.journal.outstanding
        ∧ Moves (.any A) (s.acked sequence) (nightDatagram a address service payload s))
      ∨ Moves (.any A) s (nightDatagram a address service payload s) := by
  unfold nightDatagram
  split
  · exact .inr (wakeMessage_moves (.refl s) _)
  · exact .inr (grantMessage_moves (.refl s) _ _ _ _)
  · next m sequence hdec =>
    exact (ackMessage_moves m sequence s).imp_left fun h => ⟨m, sequence, hdec, h⟩
  · exact .inr (labelsMessage_moves (.refl s) _ _ _)
  · exact .inr (finishMessage_moves (.refl s) _)
  · exact .inr (nightForeign_moves (.refl s) _)

/-! ## The spool unit (R101 to R107) -/

theorem answerTill_moves (h : Moves (.any A) s t) (p : Passage) (copy : LookupCopy) (n : Fin 32) (kind code : Nat)
    (number sequence : Seq) (event : SpoolEvent) :
    Moves (.any A) s (answerTill p copy n kind code number sequence event t) :=
  offer_moves (originateEgress_moves h _ _) _

theorem append_moves (h : Moves (.any True) s t) (n : Fin 32) (number : Seq) (payload : Bytes) :
    Moves (.any True) s (append n number payload t) :=
  compareChanged_moves (h.trans (.appends t (newRecord t n number payload) trivial)).keep _ _

theorem appendNew_moves (h : Moves (.any True) s t) (p : Passage) (copy : LookupCopy) (n : Fin 32) (number : Seq) :
    Moves (.any True) s (appendNew p copy n number t) := by
  unfold appendNew
  dsimp only
  split
  · exact nightFollow_moves (answerTill_moves (append_moves h _ _ _) _ _ _ _ _ _ _ _)
  · exact answerTill_moves h _ _ _ _ _ _ _ _

theorem deduplicate_moves (h : Moves (.any True) s t) (p : Passage) (copy : LookupCopy) (n : Fin 32) (number : Seq) :
    Moves (.any True) s (deduplicate p copy n number t) := by
  unfold deduplicate
  dsimp only
  split
  · exact appendNew_moves h _ _ _ _
  · split
    · exact answerTill_moves h _ _ _ _ _ _ _ _
    · split
      · exact appendNew_moves h _ _ _ _
      · exact appendNew_moves (offer_moves h _) _ _ _ _

theorem checkRecord_moves (h : Moves (.any True) s t) (p : Passage) (copy : LookupCopy) (n : Fin 32) :
    Moves (.any True) s (checkRecord p copy n t) := by
  unfold checkRecord
  dsimp only
  split
  · exact answerTill_moves h _ _ _ _ _ _ _ _
  · split
    · exact answerTill_moves h _ _ _ _ _ _ _ _
    · exact deduplicate_moves h _ _ _ _

theorem spoolFrame_moves (h : Moves (.any True) s t) (p : Passage) (copy : LookupCopy) :
    Moves (.any True) s (spoolFrame p copy t) := by
  unfold spoolFrame
  dsimp only
  split
  · exact drop_moves h _ _
  · split
    · exact drop_moves h _ _
    · split
      · exact drop_moves h _ _
      · split
        · exact drop_moves h _ _
        · split
          · exact drop_moves h _ _
          · split
            · exact drop_moves h _ _
            · exact checkRecord_moves h _ _ _

end Sys2Proof.Machine

/-! SUPPORT. The receive path as moves: a received frame is a chain of moves from the state it meets, or from that state
without the records that an ACK of the collector in it covers (R5 to R12, R120, R129). -/

namespace Sys2Proof.Machine

/- The proofs below run one after another: run together, their waiting threads outgrow the memory a check may use. -/
set_option Elab.async false

variable {L : Licence} {s t : State}

/-! ## Source checks (R8, R9, R71 to R73) -/

section
variable {next : State → State}

theorem unknownGuest_moves (hn : ∀ t, Moves L s t → Moves L s (next t)) (a : Station) (b : NetAddr) (n : Nat) :
    Moves L s (unknownGuest a b n next s) := by
  unfold unknownGuest
  dsimp only
  split
  · exact drop_moves (.refl s) _ _
  · split
    · exact hn _ (Moves.refl s).keep
    · split
      · exact drop_moves (.refl s) _ _
      · next v _ =>
        have hevicted : Moves L s (offer (occur .evicted (receivedOrigin .guest a))
            (s.withTable (without s.guest.table v.station))) := offer_moves (Moves.refl s).keep _
        exact hn _ hevicted.keep

theorem knownGuest_moves (hn : ∀ t, Moves L s t → Moves L s (next t)) (e : GuestEntry) (b : NetAddr) (n : Nat) :
    Moves L s (knownGuest e b n next s) := by
  unfold knownGuest
  dsimp only
  split
  · exact drop_moves (.refl s) _ _
  · split
    · exact drop_moves (.refl s) _ _
    · exact hn _ (Moves.refl s).keep

theorem guestSource_moves (hn : ∀ t, Moves L s t → Moves L s (next t)) (a : Station) (b : NetAddr) (n : Nat) :
    Moves L s (guestSource a b n next s) := by
  unfold guestSource
  dsimp only
  split
  · exact drop_moves (.refl s) _ _
  · split
    · exact drop_moves (.refl s) _ _
    · split
      · exact knownGuest_moves hn _ _ _
      · exact unknownGuest_moves hn _ _ _

end

/-- The source check is moves where the frame's further passage is. -/
theorem sourceCheck_moves {next : Option (Fin 32) → State → State}
    (hn : ∀ n t, Moves L s t → Moves L s (next n t)) (port : Segment) (a : Station) (b : NetAddr) (n : Nat) :
    Moves L s (sourceCheck port a b n next s) := by
  unfold sourceCheck
  split
  · exact hn _ _ (.refl s)
  · split
    · split
      · exact hn _ _ (.refl s)
      · exact drop_moves (.refl s) _ _
    · exact guestSource_moves (hn none) _ _ _
    · exact hn _ _ (.refl s)

/-- R9: no source check is applied on UPLINK. -/
theorem sourceCheck_uplink (a : Station) (b : NetAddr) (n : Nat) (next : Option (Fin 32) → State → State) (s : State) :
    sourceCheck .uplink a b n next s = next none s := by
  unfold sourceCheck
  split <;> rfl

/-- R16: in CLOSED no source check is applied. -/
theorem sourceCheck_closed (port : Segment) (a : Station) (b : NetAddr) (n : Nat)
    (next : Option (Fin 32) → State → State) (h : s.running = false) : sourceCheck port a b n next s = next none s := by
  unfold sourceCheck
  rw [if_pos (by rw [h]; rfl)]

/-! ## ARP and requests (R11, R181, R182) -/

theorem arpFrame_moves (h : Moves L s t) (port : Segment) (bs : Bytes)
    (hL : L.joins t.tick (arpReply t port bs)) : Moves L s (arpFrame port bs t) := by
  unfold arpFrame
  split
  · exact presentOn_moves h _ hL
  · exact drop_moves h _ _

theorem joinRequests_moves (h : Moves L s t) (port : Segment) (a : Station) (r : Request) :
    Moves L s (joinRequests port a r t) := by
  unfold joinRequests setAlertDestination
  split
  · split
    · exact h.keep.trans (alertTest_moves _)
    · exact h.keep
  · exact offer_moves h _

theorem remoteRequest_moves (h : Moves L s t) (bs : Bytes) (ip : Ipv4) : Moves L s (remoteRequest bs ip t) := by
  unfold remoteRequest
  dsimp only
  split
  · exact joinRequests_moves h _ _ _
  · exact drop_moves h _ _

/-! ## Window lookup and local delivery (R10, R25, R91) -/

@[simp] theorem Classifier.setBank_active (c : Classifier) (i : BankId) (b : Bank) :
    (c.setBank i b).active = c.active := by
  cases i <;> rfl

/-- R26: raising a hit count keeps the active bank. -/
@[simp] theorem Classifier.hit_active (c : Classifier) (g : Segment) (copy : LookupCopy) :
    (c.hit g copy).active = c.active := by
  unfold Classifier.hit
  split <;> exact c.setBank_active _ _

theorem lookupFrame_moves (h : Moves (.any True) s t) (p : Passage) : Moves (.any True) s (lookupFrame p t) := by
  unfold lookupFrame
  dsimp only
  have hlooked := offer_moves (s := s) (L := .any True)
    (h.keep (by simp [State.core]) :
      Moves (.any True) s { t with classifier := t.classifier.hit p.port (lookupCopy t.classifier p.port p.ip) })
    (occur (hitName p.port (lookupCopy t.classifier p.port p.ip))
      (copyOrigin p.port (sourceStation p.bytes) (lookupCopy t.classifier p.port p.ip)))
  split
  · exact forwardFrame_moves hlooked _ _
  · exact trackFrame_moves hlooked _ _
  · exact spoolFrame_moves hlooked _ _
  · exact drop_moves hlooked _ _

theorem passOn_moves (h : Moves (.any True) s t) (p : Passage) : Moves (.any True) s (passOn p t) := by
  unfold passOn
  split
  · split
    · exact replyFrame_moves h _ _ _
    · exact lookupFrame_moves h _
  · exact lookupFrame_moves h _

/-- R10, R120: a frame received on UPLINK that is a datagram for the night service holding an ACK. -/
def AckFrame (s : State) (bs : Bytes) (m : NightSource) (sequence : Seq) : Prop :=
  ∃ ip source, parseIpv4 bs = some ip ∧ ip.protocol = 17 ∧ ip.unfragmented = true ∧ ip.sourceService = some source
    ∧ ip.destination = s.ports.gateways.uplink ∧ ip.destinationService = some s.ports.nightService
    ∧ decodeNight (word48 bs 6) ip.source source (udpPayload bs ip) = some (.ack m sequence)

/-- R129: an ACK that removes records in a state: one of the collector that covers at most outstanding. -/
def State.takesAck (s : State) (m : NightSource) (sequence : Seq) : Prop :=
  s.running = true ∧ s.up .uplink = true ∧ s.fromCollector m = true
    ∧ s.journal.covered sequence ≤ s.journal.outstanding

/-- R7: both service numbers of a frame are extracted, or neither is. -/
theorem sourceService_of_destinationService {bs : Bytes} {ip : Ipv4} {d : Service} (h : parseIpv4 bs = some ip)
    (hd : ip.destinationService = some d) : ∃ a, ip.sourceService = some a := by
  unfold parseIpv4 at h
  split at h
  · obtain rfl := Option.some.inj h
    simp only [ipv4Fields, Option.ite_none_right_eq_some] at hd ⊢
    exact ⟨_, hd.1, rfl⟩
  · cases h

/-- R10: what a datagram for a service on a segment is. -/
theorem forService_iff (s : State) (p : Passage) (service : Service) :
    forService s p service = true ↔ p.ip.protocol = 17 ∧ p.ip.unfragmented = true ∧ p.ip.destination ≠ 0
      ∧ p.ip.destination = s.ports.gateways.get p.port ∧ p.ip.destinationService = some service := by
  simp only [forService, State.isGateway, Bool.and_eq_true, beq_iff_eq, bne_iff_ne, and_assoc,
    @eq_comm _ (s.ports.gateways.get p.port)]

/-- R10: an IPv4 frame for no service on UPLINK moves no record. -/
theorem deliverRunning_moves (h : Moves (.any True) s t) {p : Passage} (hp : p.port ≠ .uplink) :
    Moves (.any True) s (deliverRunning p t) := by
  unfold deliverRunning
  dsimp only
  rw [if_neg fun h => hp h.1]
  split
  · split
    · exact baseStationDatagram_moves h _ _
    · exact drop_moves h _ _
  · split
    · exact drop_moves h _ _
    · exact passOn_moves h _

theorem deliverLocal_moves (h : Moves (.any True) s t) {p : Passage} (hp : p.port ≠ .uplink) :
    Moves (.any True) s (deliverLocal p t) := by
  unfold deliverLocal
  split
  · exact remoteRequest_moves h _ _
  · split
    · exact deliverRunning_moves h hp
    · exact drop_moves h _ _

/-- R10, R120: an IPv4 frame on UPLINK with an ACK of the collector, or one that moves no record. -/
theorem deliverRunning_uplink_moves (bs : Bytes) (ip : Ipv4) (n : Option (Fin 32)) (hip : parseIpv4 bs = some ip)
    (s : State) :
    (∃ m sequence, AckFrame s bs m sequence ∧ s.fromCollector m = true
        ∧ s.journal.covered sequence ≤ s.journal.outstanding
        ∧ Moves (.any False) (s.acked sequence) (deliverRunning ⟨.uplink, bs, ip, n⟩ s))
      ∨ Moves (.any True) s (deliverRunning ⟨.uplink, bs, ip, n⟩ s) := by
  unfold deliverRunning
  dsimp only
  split
  · next hnight =>
    split
    · obtain ⟨hproto, hfrag, _, hdest, hservice⟩ := (forService_iff _ _ _).1 hnight.2
      obtain ⟨source, hsource⟩ := sourceService_of_destinationService hip hservice
      rcases nightDatagram_moves (A := False) (sourceStation bs) ip.source (ip.sourceService.getD 0)
        (udpPayload bs ip) s with ⟨m, sequence, hdec, hfrom, hle, hm⟩ | hm
      · rw [hsource, Option.getD_some] at hdec
        exact .inl ⟨m, sequence, ⟨ip, source, hip, hproto, hfrag, hsource, hdest, hservice, hdec⟩, hfrom, hle, hm⟩
      · exact .inr (hm.mono (fun _ _ h => h) False.elim)
    · exact .inr (drop_moves (.refl s) _ _)
  · rw [if_neg fun h => nomatch h.1]
    split
    · exact .inr (drop_moves (.refl s) _ _)
    · exact .inr (passOn_moves (.refl s) _)

theorem ipv4Frame_uplink_moves (bs : Bytes) (hup : s.up .uplink = true) :
    (∃ m sequence, AckFrame s bs m sequence ∧ s.takesAck m sequence
        ∧ Moves (.any False) (s.acked sequence) (ipv4Frame .uplink bs s))
      ∨ Moves (.any True) s (ipv4Frame .uplink bs s) := by
  unfold ipv4Frame
  split
  · exact .inr (drop_moves (.refl s) _ _)
  · next ip hip =>
    rw [sourceCheck_uplink]
    unfold deliverLocal
    split
    · exact .inr (remoteRequest_moves (.refl s) _ _)
    · split
      · next hrun =>
        exact (deliverRunning_uplink_moves bs ip none hip s).imp_left
          fun ⟨m, sequence, hack, hfrom, hle, hm⟩ => ⟨m, sequence, hack, ⟨hrun, hup, hfrom, hle⟩, hm⟩
      · exact .inr (drop_moves (.refl s) _ _)

theorem ipv4Frame_moves {port : Segment} (hp : port ≠ .uplink) (bs : Bytes) (s : State) :
    Moves (.any True) s (ipv4Frame port bs s) := by
  unfold ipv4Frame
  split
  · exact drop_moves (.refl s) _ _
  · exact sourceCheck_moves (fun _ _ h => deliverLocal_moves h hp) _ _ _ _

theorem sortFrame_moves (port : Segment) (bs : Bytes) (hup : s.up port = true) :
    (port = .uplink ∧ ∃ m sequence, AckFrame s bs m sequence ∧ s.takesAck m sequence
        ∧ Moves (.any False) (s.acked sequence) (sortFrame port bs s))
      ∨ Moves (.any True) s (sortFrame port bs s) := by
  unfold sortFrame
  dsimp only
  split
  · split
    · exact .inr (drop_moves (.refl s) _ _)
    · by_cases hp : port = .uplink
      · subst hp
        exact (ipv4Frame_uplink_moves bs hup).imp_left fun h => ⟨rfl, h⟩
      · exact .inr (ipv4Frame_moves hp bs s)
  · split
    · exact .inr (sourceCheck_moves (fun _ _ h => arpFrame_moves h _ _ trivial) _ _ _ _)
    · split
      · exact .inr (joinRequests_moves (.refl s) _ _ _)
      · exact .inr (drop_moves (.refl s) _ _)

/-- R5 to R12, R129: what a received frame does, as moves. -/
theorem receiveFrame_moves (port : Segment) (fcs : Bool) (bs : Bytes) (s : State) :
    (port = .uplink ∧ fcs = true ∧ ∃ m sequence, AckFrame s bs m sequence ∧ s.takesAck m sequence
        ∧ Moves (.any False) (s.acked sequence) (receiveFrame port fcs bs s))
      ∨ Moves (.any True) s (receiveFrame port fcs bs s) := by
  unfold receiveFrame
  split
  · exact .inr (.refl s)
  · next hup =>
    split
    · exact .inr (offer_moves (.refl s) _)
    · next hgood =>
      split
      · exact .inr (.refl s)
      · generalize occur (.received port) (receivedOrigin port (sourceStation bs)) = o
        have hstill := offer_still o s
        have hup' : (offer o s).up port = true := by
          simpa only [State.up, still_links hstill, Bool.not_eq_true', Bool.not_eq_false] using hup
        rcases sortFrame_moves port bs hup' with ⟨hp, m, sequence, hack, htakes, hm⟩ | hm
        · have hj : (offer o s).journal = s.journal := still_journal hstill
          refine .inl ⟨hp, by simp_all, m, sequence, ?_, ?_, ?_⟩
          · simpa only [AckFrame, still_ports hstill] using hack
          · simpa only [State.takesAck, State.running, State.up, State.fromCollector, still_agent hstill,
              still_links hstill, still_night hstill, hj] using htakes
          · refine Moves.trans ?_ hm
            simp only [State.acked, hj]
            exact (offer_moves_self o s).withRecords id _
        · exact .inr ((offer_moves_self o s).trans hm)

/-! ## Responses (R12, R184) -/

theorem sendPart_moves {A : Prop} (h : Moves (.any A) s t) (q : Requester) (message : Bytes) :
    Moves (.any A) s (sendPart q message t) := by
  unfold sendPart
  split
  · exact presentOn_moves h _ trivial
  · exact originateUplink_moves h _ _

theorem respond_moves {A : Prop} (h : Moves (.any A) s t) (q : Requester) (code : Nat) (status : Status)
    (parts : List Bytes) : Moves (.any A) s (respond q code ⟨t, status, parts⟩) := by
  unfold respond
  dsimp only
  generalize 0 = n
  induction parts generalizing n t with
  | nil => exact h
  | cons part parts ih => exact ih (sendPart_moves h q _) (n + 1)

end Sys2Proof.Machine

/-! SUPPORT. What one command does, said once: an ACK of the collector that removes journal records, or an opening change
of its own followed by a chain of moves. The laws of R15 and R51, what changes the control state and what removes journal
records are then read off the openings. -/

namespace Sys2Proof.Machine

/- The proofs below run one after another: run together, their waiting threads outgrow the memory a check may use. -/
set_option Elab.async false

/-! ## Openings -/

/-- What a command may change besides making moves, and whether its moves may append journal records. -/
inductive Opens (c : Instr) (s : State) : Prop → State → Prop
  | same (appends : Prop) : Opens c s appends s
  /-- R1. -/
  | reset : c = .deviceReset → Opens c s False { State.resetWith s.station s.pending with freeSerial := s.freeSerial }
  /-- R2. -/
  | linkUp (g : Segment) (v : LinkSpeed) : c = .linkUp g v → Opens c s False { s with links := s.links.set (some v) g }
  /-- R2, R57. -/
  | uplinkLost : c = .linkLoss .uplink →
      Opens c s False ({ s with links := s.links.set none .uplink } : State).uplinkEmptied
  /-- R2. -/
  | egressLost (p : EgressPort) : c = .linkLoss (egressSegment p) →
      Opens c s False (({ s with links := s.links.set none (egressSegment p) } : State).withEgress p [])
  /-- R15. -/
  | egressEnd (p : EgressPort) : Opens c s False (s.withEgress p ((s.egress.get p).drop 1))
  /-- R54. -/
  | uplinkEnd : Opens c s False { s with uplink := { s.uplink with transmitting := none } }
  /-- R19. -/
  | tick : c = .msTickAdvance → Opens c s False { s with tick := s.tick + 1 }
  /-- R52. -/
  | limits (l : PerQueue Nat) : limitsSum l ≤ 256 → Opens c s False { s with uplink := { s.uplink with limits := l } }
  /-- R53. -/
  | spacings (day drain residence : Nat) : Opens c s False { s with uplink := { s.uplink with
      daySpacing := day, drainSpacing := drain, residence := residence } }
  /-- R17. -/
  | opened (q : Requester) : c = .openPart q → s.holds q.party = true → Opens c s False (s.withPart .running)
  /-- R17. -/
  | closed (q : Requester) : c = .closePart q → s.holds q.party = true → Opens c s False (s.withPart .closed).flushed
  /-- R18. -/
  | restarted : Opens c s False s.flushed
  /-- R188. -/
  | claimed (q : Requester) : c = .claim q → s.agent.holder = none →
      Opens c s False { s with agent := { s.agent with holder := some q.party } }
  /-- R188. -/
  | released (q : Requester) : c = .release q → s.agent.holder = some q.party →
      Opens c s False { s with agent := { s.agent with holder := none } }
  /-- R189. -/
  | expired : c = .leaseExpiry → Opens c s False { s with agent := { s.agent with holder := none } }
  /-- R33. -/
  | swapped (q : Requester) : c = .swap q → s.holds q.party = true →
      Opens c s False { s with classifier := { s.classifier with active := s.classifier.shadow } }
  /-- R116. -/
  | discarded (q : Requester) : c = .journalDiscard q → s.holds q.party = true → Opens c s False (s.withRecords [])

/-- R129: a command that brings an ACK that removes records in a state: one of its own, or one in a frame. -/
def BringsAck (c : Instr) (s : State) (m : NightSource) (sequence : Seq) : Prop :=
  (c = .ack m sequence ∨ ∃ bs, c = .frameReceived .uplink true bs ∧ AckFrame s bs m sequence)
    ∧ s.takesAck m sequence

/-- A command's opening change, on the state or on one with the same core, and the moves after it. -/
def Runs (c : Instr) (s t : State) : Prop :=
  ∃ appends v u, v.core = s.core ∧ Opens c v appends u ∧ Moves (.any appends) u t

variable {c : Instr} {s t u : State}

theorem Runs.of_moves {appends : Prop} (h : Moves (.any appends) s t) : Runs c s t :=
  ⟨appends, s, s, rfl, .same appends, h⟩

theorem Runs.of_opens {appends : Prop} (ho : Opens c s appends u) (h : Moves (.any appends) u t) : Runs c s t :=
  ⟨appends, s, u, rfl, ho, h⟩

theorem Runs.of_core (h : Runs c u t) (e : u.core = s.core) : Runs c s t :=
  let ⟨appends, v, w, ev, ho, hm⟩ := h
  ⟨appends, v, w, ev.trans e, ho, hm⟩

theorem Runs.then (h : Runs c s t) (hm : ∀ appends, Moves (.any appends) t u) : Runs c s u :=
  let ⟨appends, v, w, ev, ho, h⟩ := h
  ⟨appends, v, w, ev, ho, h.trans (hm appends)⟩

/-! ## The command event (R183, R188) -/

theorem takeRequest_core (i : Instr) (s : State) : (takeRequest i s).core = s.core := by
  obtain ⟨queue, h⟩ := takeRequest_eq i s
  rw [h]
  rfl

/-- A command that needs no lock does what its run does. -/
theorem openCommand_runs {q : Requester} {i : Instr} {code : Nat} {run : State → CmdResult}
    (h : ∀ s, Runs c s (run s).state) (s : State) : Runs c s (openCommand q i code run s) :=
  ((h _).of_core (takeRequest_core i s)).then fun _ => respond_moves (.refl _) _ _ _ _

/-- A lock-requiring command does what its run does for the lock's holder, and nothing for another party. -/
theorem lockedCommand_runs {q : Requester} {i : Instr} {code : Nat} {run : State → CmdResult}
    (h : ∀ s : State, s.holds q.party = true → Runs c s (run s).state) (s : State) :
    Runs c s (lockedCommand q i code run s) := by
  refine openCommand_runs (fun s => ?_) s
  split
  · next hholds => exact (h s hholds).then fun _ => (Moves.refl _).keep
  · exact .of_moves (Moves.refl (L := .any False) s)

/-! ## Runs of the lock-requiring commands -/

section
variable {α : Type} {first : BitVec 32} {entries : List α}

theorem writeSingle_runs {take : α → State → CmdResult} (h : ∀ w, Runs c s (take w s).state) :
    Runs c s (writeSingle first entries take s).state := by
  unfold writeSingle
  split
  · exact .of_moves (Moves.refl (L := .any False) s)
  · split
    · exact .of_moves (Moves.refl (L := .any False) s)
    · exact h _

theorem writeMany_runs {low high : Nat} {take : State → CmdResult} (h : Runs c s (take s).state) :
    Runs c s (writeMany low high first entries take s).state := by
  unfold writeMany
  split
  · exact .of_moves (Moves.refl (L := .any False) s)
  · split
    · exact .of_moves (Moves.refl (L := .any False) s)
    · exact h

theorem writeNamed_runs {low high : Nat} {fault : Option Nat} {take : State → CmdResult}
    (h : Runs c s (take s).state) : Runs c s (writeNamed low high first entries fault take s).state := by
  unfold writeNamed
  split
  · exact .of_moves (Moves.refl (L := .any False) s)
  · split
    · exact .of_moves (Moves.refl (L := .any False) s)
    · split
      · exact .of_moves (Moves.refl (L := .any False) s)
      · exact h

end

/-- A state with the same core is reached without an opening. -/
theorem Runs.of_same (e : t.core = s.core := by unfold State.core; rfl) : Runs c s t := .of_moves (Moves.same (L := .any False) e)

theorem withBank_core (s : State) (i : BankId) (b : Bank) : (s.withBank i b).core = s.core := by
  simp [State.core, State.withBank]

theorem writePortsRun_runs (first : BitVec 32) (es : List PortsWrite) (s : State) :
    Runs c s (writePortsRun first es s).state := by
  refine writeSingle_runs fun w => ?_
  unfold writePortsEntry
  split
  · exact .of_same
  · split
    · exact .of_same
    · split
      · exact .of_same
      · exact .of_moves (appends := False) (deliveries_moves (Moves.refl s).keep)

theorem writeOfficeRun_runs (first : BitVec 32) (es : List OfficeStation) (s : State) :
    Runs c s (writeOfficeRun first es s).state := by
  refine writeMany_runs ?_
  dsimp only
  split <;> exact .of_same

theorem writeWindowRun_runs (bank : BankId) (first : BitVec 32) (es : List WindowWrite) (s : State) :
    Runs c s (writeWindowRun bank first es s).state := by
  unfold writeWindowRun
  split
  · exact .of_same
  · exact writeNamed_runs (.of_same (withBank_core _ _ _))

theorem writeDefaultsRun_runs (bank : BankId) (first : BitVec 32) (es : List DefaultWrite) (s : State) :
    Runs c s (writeDefaultsRun bank first es s).state := by
  unfold writeDefaultsRun
  split
  · exact .of_same
  · exact writeNamed_runs (.of_same (withBank_core _ _ _))

theorem writeIdentityRun_runs (first : BitVec 32) (es : List (BitVec 32)) (s : State) :
    Runs c s (writeIdentityRun first es s).state := by
  refine writeMany_runs ?_
  dsimp only
  split
  · exact .of_same (withBank_core _ _ _)
  · exact .of_same

theorem writeMetersRun_runs (first : BitVec 32) (es : List MeterWrite) (s : State) :
    Runs c s (writeMetersRun first es s).state := by
  refine writeMany_runs ?_
  dsimp only
  split
  · exact .of_same
  · exact .of_moves (appends := False) (foldl_moves (fun s _ => setMeter_moves (.refl s) _ _) _ (.refl s))

theorem writeScheduleRun_runs (first : BitVec 32) (es : List ScheduleWrite) (s : State) :
    Runs c s (writeScheduleRun first es s).state := by
  refine writeMany_runs ?_
  split <;> exact .of_same

theorem writeUplinkRun_runs (first : BitVec 32) (es : List UplinkWrite) (s : State) :
    Runs c s (writeUplinkRun first es s).state :=
  writeSingle_runs fun _ => .of_opens (.spacings _ _ _) (.refl _)

theorem writeThresholdsRun_runs (first : BitVec 32) (es : List PairWrite) (s : State) :
    Runs c s (writeThresholdsRun first es s).state :=
  writeMany_runs (.of_same (by simp only [State.core, doneClamped]))

theorem writeTillsRun_runs (first : BitVec 32) (es : List TillWrite) (s : State) :
    Runs c s (writeTillsRun first es s).state := 
  writeNamed_runs (.of_same (by simp only [State.core, doneClamped]))

theorem writeGuestRun_runs (first : BitVec 32) (es : List GuestWrite) (s : State) :
    Runs c s (writeGuestRun first es s).state := writeSingle_runs fun _ => .of_same

theorem writeTrackerRun_runs (first : BitVec 32) (es : List TrackerWrite) (s : State) :
    Runs c s (writeTrackerRun first es s).state := writeSingle_runs fun _ => .of_same

theorem writePoolRun_runs (first : BitVec 32) (es : List PoolWrite) (s : State) :
    Runs c s (writePoolRun first es s).state := writeSingle_runs fun _ => .of_same

theorem writeNightRun_runs (first : BitVec 32) (es : List NightWrite) (s : State) :
    Runs c s (writeNightRun first es s).state := writeSingle_runs fun _ => .of_same

theorem writeLabelRun_runs (first : BitVec 32) (es : List LabelWrite) (s : State) :
    Runs c s (writeLabelRun first es s).state := writeSingle_runs fun _ => .of_same

theorem writeAlertsRun_runs (first : BitVec 32) (es : List (BitVec 16)) (s : State) :
    Runs c s (writeAlertsRun first es s).state := writeSingle_runs fun _ => .of_same

theorem writeAgentRun_runs (first : BitVec 32) (es : List (BitVec 16)) (s : State) :
    Runs c s (writeAgentRun first es s).state := writeSingle_runs fun _ => .of_same

/-- R187: what the bytes of a WRITE spell runs as the write of its table. -/
theorem writeRunOf_runs {q : Requester} {table : Byte} {first : BitVec 32} {count : BitVec 16} {data : Bytes}
    {run : State → CmdResult} (h : writeRunOf q table first count data = some run) (s : State) :
    Runs c s (run s).state := by
  unfold writeRunOf at h
  split at h <;> cases h
  · exact writePortsRun_runs _ _ s
  · exact writeOfficeRun_runs _ _ s
  · exact writeWindowRun_runs _ _ _ s
  · exact writeDefaultsRun_runs _ _ _ s
  · exact writeIdentityRun_runs _ _ s
  · exact writeUplinkRun_runs _ _ s
  · exact writeMetersRun_runs _ _ s
  · exact writeThresholdsRun_runs _ _ s
  · exact writeGuestRun_runs _ _ s
  · exact writeTillsRun_runs _ _ s
  · exact writeTrackerRun_runs _ _ s
  · exact writePoolRun_runs _ _ s
  · exact writeNightRun_runs _ _ s
  · exact writeLabelRun_runs _ _ s
  · exact writeScheduleRun_runs _ _ s
  · exact writeAlertsRun_runs _ _ s
  · exact writeAgentRun_runs _ _ s
  · exact .of_same

end Sys2Proof.Machine

/-! SUPPORT. Every command as an ACK or an opening and moves, and what follows: the queue laws (R15, R51), what changes the
control state (R2, R3, R17, R19, R33, R188, R189) and how a journal record leaves (R114, R116, R129). -/

namespace Sys2Proof.Machine

/- The proofs below run one after another: run together, their waiting threads outgrow the memory a check may use. -/
set_option Elab.async false

variable {c : Instr} {s t : State}

/-! ## Runs of the other commands -/

theorem withCursor_core (s : State) (p : Party) (x : Cursor) : (s.withCursor p x).core = s.core := by
  cases p <;> rfl

theorem readTable_runs (q : Requester) (table : Byte) (first : BitVec 32) (count : BitVec 16) (s : State) :
    Runs c s (readTable q table first count s).state := by
  unfold readTable
  split
  · exact .of_same
  · split
    · exact .of_same
    · exact .of_same (withCursor_core _ _ _)

theorem readOn_runs (q : Requester) (count : BitVec 16) (s : State) : Runs c s (readOn q count s).state := by
  unfold readOn
  split
  · exact .of_same
  · exact .of_same (withCursor_core _ _ _)

theorem swapRun_runs (q : Requester) (s : State) (h : s.holds q.party = true) :
    Runs (.swap q) s (swapRun s).state := by
  unfold swapRun
  split
  · exact .of_same
  · exact .of_opens (.swapped q rfl h) (.refl _)

theorem openRun_runs (q : Requester) (s : State) (h : s.holds q.party = true) :
    Runs (.openPart q) s (openRun s).state := by
  unfold openRun
  split
  · exact .of_same
  · refine .of_opens (.opened q rfl h) ?_
    show Moves _ _ (if s.clock.set then replay (s.withPart .running) else s.withPart .running)
    split
    · exact replay_moves (.refl _)
    · exact .refl _

theorem forcedStop_moves {A : Prop} {u : State} (h : Moves (.any A) s u) : Moves (.any A) s (forcedStop u) := by
  unfold forcedStop
  split
  · exact h
  · exact closeSession_moves h

/-- R17: the moves of CLOSE after the part state is set and its queues are emptied. -/
theorem closePart_moves {A : Prop} (s : State) : Moves (.any A) (s.withPart .closed).flushed (closePart s) := by
  unfold closePart
  dsimp only
  refine labelRecovery_moves (Moves.keep (forcedStop_moves (u := { (s.withPart .closed).flushed with
    meters := (s.withPart .closed).flushed.meters.emptied }) (Moves.refl _).keep) ?_)
  simp only [State.core]

theorem closeRun_runs (q : Requester) (s : State) (h : s.holds q.party = true) :
    Runs (.closePart q) s (closeRun s).state := by
  unfold closeRun
  split
  · exact .of_opens (.closed q rfl h) (closePart_moves s)
  · exact .of_same

/-- R18, R64: the moves of a forwarding restart after its queues are emptied. -/
theorem restartPart_moves {L : Licence} (s : State) : Moves L s.flushed (restartPart s) :=
  labelRecovery_moves
    (foldl_moves restartMeter_moves meterList (Moves.same (s := s.flushed) rfl : Moves L _
      { s.flushed with alerts := s.alerts.restarted })).keep

theorem profileRun_runs (v : Byte) (s : State) : Runs c s (profileRun v s).state := by
  unfold profileRun
  split
  · exact .of_moves (appends := False) (setProfile_moves (.refl s) _ _)
  · exact .of_moves (appends := False) (setProfile_moves (.refl s) _ _)
  · exact .of_same

theorem labelsRun_runs (v : Byte) (s : State) : Runs c s (labelsRun v s).state := by
  unfold labelsRun
  split
  · exact .of_moves (appends := False) (setLabelWindow_moves (.refl s) _ _)
  · exact .of_same

theorem guestRun_runs (v : Byte) (s : State) : Runs c s (guestRun v s).state := by
  unfold guestRun
  split
  · exact .of_moves (appends := False) (setGuestState_moves (.refl s) _ _)
  · exact .of_same

theorem callRun_runs (s : State) : Runs c s (callRun s).state := by
  unfold callRun
  split
  · exact .of_moves (appends := False) (nightCall_moves (.refl s))
  · exact .of_same

theorem stopRun_runs (s : State) : Runs c s (stopRun s).state := by
  unfold stopRun
  split
  · exact .of_same
  · exact .of_moves (appends := False) (closeSession_moves (.refl s))

theorem discardRun_runs (q : Requester) (s : State) (h : s.holds q.party = true) :
    Runs (.journalDiscard q) s (discardRun s).state := by
  unfold discardRun
  split
  · exact .of_opens (.discarded q rfl h) (compareChanged_moves (Moves.refl _).keep _ _)
  · exact .of_same

theorem adjustQueuesRun_runs (w : QueueLimitsWrite) (s : State) : Runs c s (adjustQueuesRun w s).state := by
  unfold adjustQueuesRun
  split
  · exact .of_same
  · next hsum => exact .of_opens (.limits _ (Nat.le_of_not_lt hsum)) (nightFollow_moves (.refl _))

theorem barRun_runs (a : Station) (s : State) : Runs c s (barRun a s).state := by
  unfold barRun
  split <;> exact .of_same

theorem unbarRun_runs (a : Station) (s : State) : Runs c s (unbarRun a s).state := by
  unfold unbarRun
  split
  · exact .of_same
  · split <;> exact .of_same

theorem configureRun_runs (ws : Vector CounterWrite 8) (g : GroupControls) (s : State) :
    Runs c s (configureRun ws g s).state := by
  unfold configureRun
  split <;> exact .of_same

theorem startRun_runs (form : Byte) (s : State) : Runs c s (startRun form s).state := by
  unfold startRun
  split <;> exact .of_same

theorem clearRun_runs (ns : List Byte) (s : State) : Runs c s (clearRun ns s).state := by
  unfold clearRun
  split <;> exact .of_same

theorem alertClearRun_runs (xs : List Byte) (s : State) : Runs c s (alertClearRun xs s).state := by
  unfold alertClearRun
  split <;> exact .of_same

theorem claimRun_runs (q : Requester) (s : State) : Runs (.claim q) s (claimRun q.party s).state := by
  unfold claimRun
  split
  · next hfree =>
    rcases hfree with hfree | hown
    · exact .of_opens (.claimed q rfl hfree) (Moves.refl _).keep
    · refine .of_same ?_
      simp only [State.core, done, renewLease, hown]
  · exact .of_same

theorem releaseRun_runs (q : Requester) (s : State) : Runs (.release q) s (releaseRun q.party s).state := by
  unfold releaseRun
  split
  · next hholds => exact .of_opens (.released q rfl (beq_iff_eq.1 hholds)) (Moves.refl _).keep
  · exact .of_same

/-! ## Runs of the events -/

theorem linkUp_runs (g : Segment) (v : LinkSpeed) (s : State) :
    Runs (.linkUp g v) s (afterLinkUp g { s with links := s.links.set (some v) g }) := by
  refine .of_opens (.linkUp g v rfl) ?_
  generalize ({ s with links := s.links.set (some v) g } : State) = u
  unfold afterLinkUp
  have hdeparted : Moves (.any False) u (if g = .uplink then nightFollow (depart u) else u) := by
    split
    · exact nightFollow_moves (depart_moves (.refl u))
    · exact .refl u
  dsimp only
  split
  · exact hdeparted.trans (alertTest_moves _)
  · exact hdeparted

theorem nightLinkLoss_moves {L : Licence} {u : State} (h : Moves L s u) : Moves L s (nightLinkLoss u) := by
  unfold nightLinkLoss
  split
  · exact h.keep
  · exact h

theorem linkLoss_runs (g : Segment) (s : State) :
    Runs (.linkLoss g) s (afterLinkLoss g { s with links := s.links.set none g }) := by
  cases g
  case uplink => exact .of_opens (.uplinkLost rfl) (nightLinkLoss_moves (.refl _))
  case till => exact .of_opens (.egressLost .till rfl) (.refl _)
  case label => exact .of_opens (.egressLost .label rfl) (labelRecovery_moves (.refl _))
  case guest => exact .of_opens (.egressLost .guest rfl) (.refl _)
  case office => exact .of_opens (.egressLost .office rfl) (.refl _)

/-- An operation that a command takes only under a condition. -/
theorem Runs.ite {p : Prop} [Decidable p] (h : p → Runs c s t) : Runs c s (if p then t else s) := by
  split
  · next hp => exact h hp
  · exact .of_same

theorem meterRelease_runs (m : Meter) (s : State) :
    Runs c s (if (s.meters.get m).hold = [] then s
      else if m = .transfer then nightFollow (releaseMeter m s) else releaseMeter m s) := by
  split
  · exact .of_same
  · split
    · exact .of_moves (appends := False) (nightFollow_moves (releaseMeter_moves (.refl s) m))
    · exact .of_moves (appends := False) (releaseMeter_moves (.refl s) m)

/-! ## Every command -/

/-- A write of a typed row runs as its table's write. -/
theorem lockedWrite_runs {q : Requester} {i : Instr} {code : Nat} {run : State → CmdResult}
    (h : ∀ s, Runs c s (run s).state) (s : State) : Runs c s (lockedCommand q i code run s) :=
  lockedCommand_runs (fun s _ => h s) s

/-- What a command does: an ACK of the collector removes the records it covers, and any other runs as its opening and
its moves say. -/
theorem exec_runs (h : exec c s = .next t) :
    (∃ m sequence, BringsAck c s m sequence ∧ Moves (.any False) (s.acked sequence) t) ∨ Runs c s t := by
  have moves {c : Instr} {t : State} (h : Moves (.any False) s t) :
      (∃ m sequence, BringsAck c s m sequence ∧ Moves (.any False) (s.acked sequence) t) ∨ Runs c s t :=
    .inr (.of_moves h)
  cases c <;> cases h
  case deviceReset => exact .inr (.of_opens (.reset rfl) (.refl _))
  case linkUp g v => exact .inr (linkUp_runs g v s)
  case linkLoss g => exact .inr (.ite fun _ => linkLoss_runs g s)
  case frameReceived g fcs bs =>
    rcases receiveFrame_moves g fcs bs s with ⟨rfl, rfl, m, sequence, hack, htakes, hm⟩ | hm
    · exact .inl ⟨m, sequence, ⟨.inr ⟨bs, rfl, hack⟩, htakes⟩, hm⟩
    · exact .inr (.of_moves hm)
  case egressTransmissionEnd p => exact .inr (.ite fun _ => .of_opens (.egressEnd p) (.refl _))
  case uplinkTransmissionEnd =>
    exact .inr (.ite fun _ => .of_opens .uplinkEnd (nightFollow_moves (depart_moves (.refl _))))
  case msTickAdvance => exact .inr (.of_opens (.tick rfl) (Moves.refl _).keep)
  case meterRelease m => exact .inr (meterRelease_runs m s)
  case guestAging => exact .inr (.ite fun _ => .of_same)
  case secondAdvance =>
    exact .inr (.ite fun _ => .of_moves (appends := False) (fireEntries_moves (Moves.refl s).keep))
  case waitingExpiry i =>
    refine moves ?_
    split
    · exact expireWaiting_moves _ _ _
    · exact .refl s
  case heldOverExpiry i =>
    refine moves ?_
    split
    · exact expireHeldOver_moves _ _ _
    · exact .refl s
  case wake m => exact moves (overUplink_moves _ (wakeMessage_moves (.refl s) m))
  case grant m w d x => exact moves (overUplink_moves _ (grantMessage_moves (.refl s) m w d x))
  case ack m sequence =>
    unfold overUplink
    split
    · exact moves (.refl s)
    · split
      · exact moves (drop_moves (.refl s) _ _)
      · next hup hrun =>
        rcases ackMessage_moves (A := False) m sequence s with ⟨hfrom, hle, hm⟩ | hm
        · refine .inl ⟨m, sequence, ⟨.inl rfl, ?_, ?_, hfrom, hle⟩, hm⟩
          · simpa using hrun
          · simpa using hup
        · exact moves hm
  case labelsMessage m b ws => exact moves (overUplink_moves _ (labelsMessage_moves (.refl s) m b ws))
  case finish m => exact moves (overUplink_moves _ (finishMessage_moves (.refl s) m))
  case callTimerExpiry => exact .inr (.ite fun _ => .of_moves (appends := False) (callExpires_moves s))
  case backoffTimerExpiry => exact .inr (.ite fun _ => .of_moves (appends := False) (placeCall_moves (.refl s) _))
  case ackTimerExpiry => exact .inr (.ite fun _ => .of_moves (appends := False) (ackExpires_moves s))
  case settleTimerExpiry => exact .inr (.ite fun _ => .of_moves (appends := False) (closeSession_moves (.refl s)))
  case ready a n => exact moves (overLabel_moves _ (takeReady_moves (.refl s) n))
  case outcome a n v => exact moves (overLabel_moves _ (outcomeMessage_moves (.refl s) a n v))
  case pacingTimerExpiry =>
    exact .inr (.ite fun _ => .of_moves (appends := False) (deliveries_moves (Moves.refl s).keep))
  case outcomeTimeout n =>
    refine moves ?_
    split
    · exact takeOutcome_moves (.refl s) _ _ _
    · exact .refl s
  case alertTimerExpiry =>
    exact .inr (.ite fun _ => .of_moves (appends := False) ((Moves.refl s).keep.trans (alertTest_moves _)))
  case leaseExpiry => exact .inr (.ite fun _ => .of_opens (.expired rfl) (Moves.refl _).keep)
  case identify q => exact .inr (openCommand_runs (fun _ => .of_same) s)
  case read q x i n => exact .inr (openCommand_runs (readTable_runs q x i n) s)
  case readNext q n => exact .inr (openCommand_runs (readOn_runs q n) s)
  case write q x i n bs =>
    refine .inr ?_
    split
    · next hrun => exact lockedWrite_runs (writeRunOf_runs hrun) s
    · exact openCommand_runs (fun _ => .of_same) s
  case writePorts q i es => exact .inr (lockedWrite_runs (writePortsRun_runs i es) s)
  case writeOfficeStations q i es => exact .inr (lockedWrite_runs (writeOfficeRun_runs i es) s)
  case writeWindow q k i es => exact .inr (lockedWrite_runs (writeWindowRun_runs k i es) s)
  case writeDefaults q k i es => exact .inr (lockedWrite_runs (writeDefaultsRun_runs k i es) s)
  case writeBankIdentity q i es => exact .inr (lockedWrite_runs (writeIdentityRun_runs i es) s)
  case writeUplink q i es => exact .inr (lockedWrite_runs (writeUplinkRun_runs i es) s)
  case writeMeters q i es => exact .inr (lockedWrite_runs (writeMetersRun_runs i es) s)
  case writeThresholds q i es => exact .inr (lockedWrite_runs (writeThresholdsRun_runs i es) s)
  case writeGuest q i es => exact .inr (lockedWrite_runs (writeGuestRun_runs i es) s)
  case writeTills q i es => exact .inr (lockedWrite_runs (writeTillsRun_runs i es) s)
  case writeTracker q i es => exact .inr (lockedWrite_runs (writeTrackerRun_runs i es) s)
  case writePool q i es => exact .inr (lockedWrite_runs (writePoolRun_runs i es) s)
  case writeNight q i es => exact .inr (lockedWrite_runs (writeNightRun_runs i es) s)
  case writeLabel q i es => exact .inr (lockedWrite_runs (writeLabelRun_runs i es) s)
  case writeSchedule q i es => exact .inr (lockedWrite_runs (writeScheduleRun_runs i es) s)
  case writeAlerts q i es => exact .inr (lockedWrite_runs (writeAlertsRun_runs i es) s)
  case writeAgent q i es => exact .inr (lockedWrite_runs (writeAgentRun_runs i es) s)
  case swap q => exact .inr (lockedCommand_runs (swapRun_runs q) s)
  case openPart q => exact .inr (lockedCommand_runs (openRun_runs q) s)
  case closePart q => exact .inr (lockedCommand_runs (closeRun_runs q) s)
  case restart q => exact .inr (lockedCommand_runs (fun s _ => .of_opens .restarted (restartPart_moves s)) s)
  case setClock q d x =>
    exact .inr (lockedWrite_runs (fun s => .of_moves (appends := False) (clockSet_moves (.refl s) _ _)) s)
  case profile q v => exact .inr (lockedWrite_runs (profileRun_runs v) s)
  case labels q v => exact .inr (lockedWrite_runs (labelsRun_runs v) s)
  case guest q v => exact .inr (lockedWrite_runs (guestRun_runs v) s)
  case call q => exact .inr (lockedWrite_runs callRun_runs s)
  case stop q => exact .inr (lockedWrite_runs stopRun_runs s)
  case journalDiscard q => exact .inr (lockedCommand_runs (discardRun_runs q) s)
  case adjustQueues q w => exact .inr (lockedWrite_runs (adjustQueuesRun_runs w) s)
  case bar q a => exact .inr (lockedWrite_runs (barRun_runs a) s)
  case unbar q a => exact .inr (lockedWrite_runs (unbarRun_runs a) s)
  case countersConfigure q ws g => exact .inr (lockedWrite_runs (configureRun_runs ws g) s)
  case countersStart q => exact .inr (lockedWrite_runs (startRun_runs q.form) s)
  case countersClear q ns => exact .inr (lockedWrite_runs (clearRun_runs ns) s)
  case alertClear q xs => exact .inr (lockedWrite_runs (alertClearRun_runs xs) s)
  case labelClear q => exact .inr (lockedWrite_runs (fun _ => .of_same) s)
  case claim q => exact .inr (openCommand_runs (claimRun_runs q) s)
  case release q => exact .inr (openCommand_runs (releaseRun_runs q) s)
  case unknownCommand q code => exact .inr (openCommand_runs (fun _ => .of_same) s)

end Sys2Proof.Machine

/-! SUPPORT. The laws at device reset, and the three statements about every command: the queue laws, the control state and
the journal's records. -/

namespace Sys2Proof.Machine

/- The proofs below run one after another: run together, their waiting threads outgrow the memory a check may use. -/
set_option Elab.async false

variable {c : Instr} {s t u : State}

/-! ## The queue laws (R15, R51) -/

theorem queueLaws_of_core (e : t.core = s.core) (h : QueueLaws s) : QueueLaws t := (Moves.same (L := .own) e).queueLaws h

/-- An egress queue put in the place of a longer one keeps the queue laws (R15). -/
theorem queueLaws_withEgress (h : QueueLaws s) (p : EgressPort) {q : List Frame}
    (hq : q.length ≤ (s.egress.get p).length) : QueueLaws (s.withEgress p q) :=
  ⟨fun p' => by
    show ((s.egress.set p q).get p').length ≤ 64
    rw [Egress.get_set]
    split
    · exact hq.trans (h.1 p)
    · exact h.1 p', h.2⟩

/-- The uplink scheduler emptied keeps the queue laws (R57). -/
theorem queueLaws_uplinkEmptied (h : QueueLaws s) : QueueLaws s.uplinkEmptied := ⟨h.1, Nat.zero_le _, h.2.2⟩

/-- Every queue emptied keeps the queue laws (R57). -/
theorem queueLaws_flushed (h : QueueLaws s) : QueueLaws s.flushed :=
  ⟨fun p => by cases p <;> exact Nat.zero_le _, Nat.zero_le _, h.2.2⟩

/-- R1, R15, R53: device reset meets the queue laws. -/
theorem queueLaws_reset (a : Station) (pending : List Instr) : QueueLaws (State.resetWith a pending) :=
  ⟨fun p => by rw [resetWith_egress]; exact Nat.zero_le _, Nat.zero_le _, Nat.le_refl _⟩

theorem Opens.queueLaws {appends : Prop} (ho : Opens c s appends t) (h : QueueLaws s) : QueueLaws t := by
  cases ho with
  | same => exact h
  | reset _ => exact queueLaws_reset s.station s.pending
  | uplinkLost _ => exact queueLaws_uplinkEmptied h
  | egressLost p _ => exact queueLaws_withEgress (s := { s with links := _ }) h p (Nat.zero_le _)
  | egressEnd p => exact queueLaws_withEgress h p (by rw [List.length_drop]; exact Nat.sub_le _ _)
  | limits l hsum => exact ⟨h.1, h.2.1, hsum⟩
  | closed q _ _ => exact queueLaws_flushed (s := s.withPart .closed) h
  | restarted => exact queueLaws_flushed h
  | _ => exact h

theorem exec_queueLaws (h : exec c s = .next t) (hl : QueueLaws s) : QueueLaws t := by
  rcases exec_runs h with ⟨_, _, _, hm⟩ | ⟨_, v, u, e, ho, hm⟩
  · exact hm.queueLaws hl
  · exact hm.queueLaws (ho.queueLaws (queueLaws_of_core e hl))

/-- Settles O5: each opening keeps the queue laws, and so do the moves after it. -/
theorem everyStepKeepsTheQueueLaws : Obligations.EveryStepKeepsTheQueueLaws := by
  intro s t hegress huplink h
  unfold step at h
  split at h
  · exact exec_queueLaws h ⟨hegress, huplink⟩
  · split at h
    · exact exec_queueLaws h ⟨hegress, huplink⟩
    · cases h
      exact ⟨hegress, huplink⟩

/-! ## The control state (R2, R3, R17, R19, R33, R188, R189) -/

/-- What each piece of the control state is changed by. -/
def ControlChange (c : Instr) (x y : Control) : Prop :=
  y.station = x.station
    ∧ (y.tick ≠ x.tick → c = .msTickAdvance ∨ c = .deviceReset)
    ∧ (y.links ≠ x.links → (∃ g v, c = .linkUp g v) ∨ (∃ g, c = .linkLoss g) ∨ c = .deviceReset)
    ∧ (y.partState ≠ x.partState →
        (∃ q, c = .openPart q ∧ (x.holder == some q.party) = true)
          ∨ (∃ q, c = .closePart q ∧ (x.holder == some q.party) = true) ∨ c = .deviceReset)
    ∧ (y.holder ≠ x.holder →
        (∃ q, c = .claim q ∧ x.holder = none ∧ y.holder = some q.party)
          ∨ (∃ q, c = .release q ∧ x.holder = some q.party ∧ y.holder = none)
          ∨ (c = .leaseExpiry ∧ y.holder = none) ∨ c = .deviceReset)
    ∧ (y.active ≠ x.active → (∃ q, c = .swap q ∧ (x.holder == some q.party) = true) ∨ c = .deviceReset)

/-- A control state that stays as it is is changed by no command. -/
theorem ControlChange.refl (c : Instr) (x : Control) : ControlChange c x x :=
  ⟨rfl, absurd rfl, absurd rfl, absurd rfl, absurd rfl, absurd rfl⟩

/-- What an opening changes of the control state, by its command. -/
theorem Opens.control {appends : Prop} (ho : Opens c s appends t) : ControlChange c s.control t.control := by
  cases ho with
  | reset hc => exact ⟨rfl, fun _ => .inr hc, fun _ => .inr (.inr hc), fun _ => .inr (.inr hc),
      fun _ => .inr (.inr (.inr hc)), fun _ => .inr hc⟩
  | linkUp g v hc =>
    exact ⟨rfl, absurd rfl, fun _ => .inl ⟨g, v, hc⟩, absurd rfl, absurd rfl, absurd rfl⟩
  | uplinkLost hc =>
    exact ⟨rfl, absurd rfl, fun _ => .inr (.inl ⟨_, hc⟩), absurd rfl, absurd rfl, absurd rfl⟩
  | egressLost p hc =>
    exact ⟨rfl, absurd rfl, fun _ => .inr (.inl ⟨_, hc⟩), absurd rfl, absurd rfl, absurd rfl⟩
  | tick hc => exact ⟨rfl, fun _ => .inl hc, absurd rfl, absurd rfl, absurd rfl, absurd rfl⟩
  | opened q hc hh => exact ⟨rfl, absurd rfl, absurd rfl, fun _ => .inl ⟨q, hc, hh⟩, absurd rfl, absurd rfl⟩
  | closed q hc hh => exact ⟨rfl, absurd rfl, absurd rfl, fun _ => .inr (.inl ⟨q, hc, hh⟩), absurd rfl, absurd rfl⟩
  | claimed q hc hh =>
    exact ⟨rfl, absurd rfl, absurd rfl, absurd rfl, fun _ => .inl ⟨q, hc, hh, rfl⟩, absurd rfl⟩
  | released q hc hh =>
    exact ⟨rfl, absurd rfl, absurd rfl, absurd rfl, fun _ => .inr (.inl ⟨q, hc, hh, rfl⟩), absurd rfl⟩
  | expired hc =>
    exact ⟨rfl, absurd rfl, absurd rfl, absurd rfl, fun _ => .inr (.inr (.inl ⟨hc, rfl⟩)), absurd rfl⟩
  | swapped q hc hh => exact ⟨rfl, absurd rfl, absurd rfl, absurd rfl, absurd rfl, fun _ => .inl ⟨q, hc, hh⟩⟩
  | _ => exact .refl c _

/-- Settles O12: the moves of a command keep the control state, and its opening changes what is its own. -/
theorem controlStateChangesOnlyByItsCommands : Obligations.ControlStateChangesOnlyByItsCommands := by
  intro c s t h
  have key : ControlChange c s.control t.control := by
    rcases exec_runs h with ⟨_, _, _, hm⟩ | ⟨_, v, u, e, ho, hm⟩
    · rw [hm.control]
      exact .refl c _
    · rw [hm.control, ← control_of_core e]
      exact ho.control
  exact key

/-! ## The journal's records (R114, R116, R129) -/

/-- An opening leaves the journal's records as they were, or is a JOURNAL DISCARD or device reset. -/
theorem Opens.records {appends : Prop} (ho : Opens c s appends t) : t.journal.records = s.journal.records
    ∨ (¬ appends ∧ t.journal.records = []
      ∧ ((∃ q, c = .journalDiscard q ∧ s.holds q.party = true) ∨ c = .deviceReset)) := by
  cases ho with
  | reset hc => exact .inr ⟨id, rfl, .inr hc⟩
  | discarded q hc hh => exact .inr ⟨id, rfl, .inl ⟨q, hc, hh⟩⟩
  | _ => exact .inl rfl

/-- Settles O13: only an ACK, a discard and device reset take records out; moves append at most. -/
theorem journalRecordsLeaveByAckOrDiscard : Obligations.JournalRecordsLeaveByAckOrDiscard := by
  intro c s t h
  rcases exec_runs h with ⟨m, sequence, ⟨hc, hrun, hup, hfrom, hle⟩, hm⟩ | ⟨appends, v, u, e, ho, hm⟩
  · refine .inl ⟨m, sequence, hc.imp_right ?_, hrun, hup, hfrom, hle, hm.records id⟩
    rintro ⟨bs, hc, ip, source, hack⟩
    exact ⟨bs, ip, source, hc, hack⟩
  · have hv := records_of_core e
    rcases ho.records with hu | ⟨ha, hu, hc⟩
    · exact .inr (.inr (by rw [← hv, ← hu]; exact hm.records_prefix))
    · refine .inr (.inl ⟨(hm.records ha).trans hu, hc.imp_left ?_⟩)
      rintro ⟨q, hc, hholds⟩
      refine ⟨q, hc, ?_⟩
      rwa [State.holds, ← show v.agent.holder = s.agent.holder from congrArg Core.holder e]

/-! ## Device reset -/

/-- R98: no open request entry holds a till. -/
theorem resetWith_openCount (a : Station) (pending : List Instr) (n : Fin 32) :
    (State.resetWith a pending).tracker.openCount n = 0 := by
  refine List.countP_eq_zero.2 fun x hx => ?_
  obtain ⟨-, rfl⟩ := List.mem_replicate.1 (show x ∈ List.replicate 64 none from by
    simpa [State.resetWith] using hx)
  exact Bool.false_ne_true

/-- R34, R38: the reset bank passes the isolation check. -/
theorem reset_offence : Bank.reset.offence = none := by
  have hentries : ((List.finRange 64).find? fun i => Bank.reset.entries[i].offends) = none :=
    List.find?_eq_none.2 fun i _ => by rw [Bank.reset_entries]; exact Bool.false_ne_true
  rw [Bank.offence, hentries]
  rfl

/-- Settles O4: the tables and queues are empty at device reset, and every number stands at its reset value. -/
theorem resetMeetsEveryLaw : Obligations.ResetMeetsEveryLaw := by
  have hqueues := queueLaws_reset Config.stationAddress []
  have hslots (i : Fin 64) : State.reset.tracker.slots[i] = none := Vector.getElem_replicate _
  refine ⟨hqueues.1, hqueues.2, ⟨fun i => ?meter, nofun⟩, ⟨Nat.zero_le _, .nil, .nil⟩,
    ⟨fun i r h => ?entry, fun n => ?limit, fun i _ r _ h => ?key⟩, ⟨rfl, rfl, rfl⟩, ⟨nofun, rfl, Nat.zero_le _⟩,
    ⟨Nat.zero_le _, .nil, .nil⟩, reset_offence⟩
  case meter => cases i <;> exact Nat.le_refl _
  case entry => exact nomatch (hslots i).symm.trans h
  case limit => exact (resetWith_openCount _ _ n).trans_le (Nat.zero_le _)
  case key => exact nomatch (hslots i).symm.trans h

end Sys2Proof.Machine

/-! SUPPORT. The queue operations case by case: a frame that meets room, a transmitter that is busy, a departure, and what
an offered event leaves while no alert destination is set (R15, R51, R54, R55, R178). -/

namespace Sys2Proof.Machine

/- The proofs below run one after another: run together, their waiting threads outgrow the memory a check may use. -/
set_option Elab.async false

variable {s t : State}

/-! ## Without an alert destination (R178) -/

theorem still_destination (h : t.still = s.still) : t.alerts.destination = s.alerts.destination :=
  show t.still.alerts.destination = s.still.alerts.destination by rw [h]

/-- R178: with no alert destination there is no send event. -/
theorem alertTest_of_no_destination (h : s.alerts.destination = none) : alertTest s = s := by
  rw [alertTest, h]

theorem offer_of_no_destination (h : s.alerts.destination = none) (o : Occurrence) : offer o s = countEvent o s :=
  alertTest_of_no_destination ((still_destination (countEvent_still o s)).trans h)

theorem offer_egress (h : s.alerts.destination = none) (o : Occurrence) : (offer o s).egress = s.egress := by
  rw [offer_of_no_destination h, egress_of_core (countEvent_core o s)]

theorem offer_uplink (h : s.alerts.destination = none) (o : Occurrence) : (offer o s).uplink = s.uplink := by
  rw [offer_of_no_destination h, uplink_of_core (countEvent_core o s)]

theorem offer_destination (o : Occurrence) (s : State) : (offer o s).alerts.destination = s.alerts.destination :=
  still_destination (offer_still o s)

/-! ## Joining a queue (R15, R16, R51) -/

/-- Whether a state's queues take a frame at all (R16). -/
def State.accepts (s : State) (k : FrameKind) : Prop := s.running = true ∨ k.acceptedInClosed = true

theorem not_refused {k : FrameKind} (h : s.accepts k) : ¬ (!s.running && !k.acceptedInClosed) = true := by
  rcases h with h | h <;> simp [h]

/-- R15: a frame that meets an UP port and room joins the egress queue. -/
theorem presentEgressWith_room (offer : Occurrence → State → State) (p : EgressPort) (f : Frame) (ha : s.accepts f.kind)
    (hup : s.up (egressSegment p) = true) (hroom : (s.egress.get p).length < 64) :
    presentEgressWith offer p f s = s.joinEgress p f := by
  unfold presentEgressWith
  rw [if_neg (not_refused ha), if_neg (by simp [hup]), if_pos hroom]
  rfl

theorem presentEgress_room (p : EgressPort) (f : Frame) (ha : s.accepts f.kind)
    (hup : s.up (egressSegment p) = true) (hroom : (s.egress.get p).length < 64) :
    presentEgress p f s = s.joinEgress p f := presentEgressWith_room offer p f ha hup hroom

/-- R12: on a port with an egress queue a frame is presented to that queue. -/
theorem presentOnWith_egress (offer : Occurrence → State → State) (p : EgressPort) (f : Frame) (s : State) :
    presentOnWith offer (egressSegment p) f s = presentEgressWith offer p f s := by
  cases p <;> rfl

/-- R54: nothing departs while a frame is in transmission. -/
theorem departWith_busy (offer : Occurrence → State → State) (h : s.uplink.transmitting ≠ none) :
    departWith offer s = s := by
  unfold departWith
  rw [if_neg]
  simp [h]

/-- R51, R54: a frame that meets room joins the uplink queue, and waits while the transmitter is busy. -/
theorem presentUplink_busy (q : UplinkQueue) (f : Frame) (ha : s.accepts f.kind)
    (hlimit : (s.uplink.queues.get q).length < s.uplink.limits.get q) (htotal : queuedTotal s.uplink.queues < 256)
    (hbusy : s.uplink.transmitting ≠ none) : presentUplink q f s = s.joinUplink q f := by
  unfold presentUplink presentUplinkWith
  rw [if_neg (not_refused ha), if_pos ((hasRoom_iff _ _).2 ⟨hlimit, htotal⟩)]
  exact departWith_busy offer hbusy

/-! ## A departure (R54, R55) -/

/-- R55: URGENT goes first. -/
theorem chooseQueue_urgent {v : Uplink} (n : Nat) (h : v.queues.urgent ≠ []) : chooseQueue v n = some .urgent :=
  if_pos h

/-- R55: the queue the turn picks holds a frame. -/
theorem turnChoice_nonempty {v : Uplink} {q : UplinkQueue} (h : turnChoice v = some q) : v.queues.get q ≠ [] := by
  unfold turnChoice at h
  split at h
  all_goals
    split at h
    · next hq => cases h; exact hq
    · split at h
      · next hq => cases h; exact hq
      · cases h

/-- R55: the turn picks none of TRANSFER and OFFICE where both are empty. -/
theorem turnChoice_eq_none {v : Uplink} :
    turnChoice v = none ↔ v.queues.transfer = [] ∧ v.queues.office = [] := by
  unfold turnChoice
  split
  · by_cases ht : v.queues.transfer = [] <;> by_cases ho : v.queues.office = [] <;> simp [ht, ho]
  · by_cases ht : v.queues.transfer = [] <;> by_cases ho : v.queues.office = [] <;> simp [ht, ho]

/-- R55: a queue that is chosen holds a frame. -/
theorem chooseQueue_nonempty {v : Uplink} {n : Nat} {q : UplinkQueue} (h : chooseQueue v n = some q) :
    v.queues.get q ≠ [] := by
  unfold chooseQueue at h
  split at h
  · next hq => cases h; exact hq
  · split at h
    · next hq => cases h; exact hq.1
    · split at h
      · next hturn => cases h; exact turnChoice_nonempty hturn
      · split at h
        · next hq => cases h; exact hq
        · cases h

/-- R54: no queue is chosen where all are empty, and one is where one holds a frame. -/
theorem chooseQueue_eq_none {v : Uplink} {n : Nat} : chooseQueue v n = none ↔ ∀ q, v.queues.get q = [] := by
  constructor
  · intro h
    unfold chooseQueue at h
    split at h
    · cases h
    · next hu =>
      split at h
      · cases h
      · split at h
        · cases h
        · next hturn =>
          obtain ⟨ht, ho⟩ := turnChoice_eq_none.1 hturn
          split at h
          · cases h
          · next hg => intro q; cases q <;> simp only [PerQueue.get] <;> simp_all
  · intro h
    by_contra hsome
    obtain ⟨q, hq⟩ := Option.ne_none_iff_exists'.1 hsome
    exact chooseQueue_nonempty hq (h q)

/-- R54: nothing departs where all queues are empty. -/
theorem departWith_empty (offer : Occurrence → State → State) (h : ∀ q, s.uplink.queues.get q = []) :
    departWith offer s = s := by
  unfold departWith
  rw [chooseQueue_eq_none.2 h]
  split <;> rfl

/-- R54, R55: the queue chosen sends its head frame, and with no alert destination nothing else meets a queue. -/
theorem depart_of_choice (hd : s.alerts.destination = none) (hup : s.up .uplink = true)
    (hfree : s.uplink.transmitting = none) {q : UplinkQueue} (hc : chooseQueue s.uplink s.spacing = some q) {f : Frame}
    {rest : List Frame} (hq : s.uplink.queues.get q = f :: rest) :
    (depart s).uplink = s.uplink.departed s.ports.gateways.uplink s.tick q f rest ∧ (depart s).egress = s.egress := by
  have hd' : (s.takeOff q f rest).alerts.destination = none := hd
  have htaken : depart s = (if s.uplink.residence < elapsed s.tick f.entryTick
      then offer (occur (.overResidence q) f.origin) (offer (occur (.departure q) f.origin) (s.takeOff q f rest))
      else offer (occur (.departure q) f.origin) (s.takeOff q f rest)) := by
    unfold depart departWith
    rw [if_pos (by simp [hup, hfree]), hc]
    simp only [hq]
    rfl
  rw [htaken]
  split
  · rw [offer_uplink ((offer_destination _ _).trans hd'), offer_egress ((offer_destination _ _).trans hd'),
      offer_uplink hd', offer_egress hd']
    exact ⟨rfl, rfl⟩
  · rw [offer_uplink hd', offer_egress hd']
    exact ⟨rfl, rfl⟩

end Sys2Proof.Machine

/-! SUPPORT. Links, ticks and the receive checks (R2, R5, R19, R57, R74): what the night engine's sends leave as it was,
and the statements about LINK_UP, LINK_LOSS, bad frames and ticks. -/

namespace Sys2Proof.Machine

/- The proofs below run one after another: run together, their waiting threads outgrow the memory a check may use. -/
set_option Elab.async false

variable {s t : State}

/-! ## The night engine's sends (R131, R133) -/

theorem asleep_of_quiet (h : t.quiet = s.quiet) : t.asleep = s.asleep := by
  simp only [State.asleep, h, quiet_meters h, quiet_journal h, quiet_night h]

theorem asleep_of_still (h : t.still = s.still) : t.asleep = s.asleep := asleep_of_quiet (quiet_of_still h)

/-- R131: a send event changes the TRANSFER meter, next-to-send and the ack timer, and what `quiet` takes away. -/
theorem sendRecords_asleep (s : State) : (sendRecords s).asleep = s.asleep := by
  obtain ⟨m, hm⟩ := sendRecords_quiet s
  rw [asleep_of_quiet hm]
  rfl

theorem sendWhile_asleep (n : Nat) (s : State) : (sendWhile n s).asleep = s.asleep := by
  induction n generalizing s with
  | zero => rfl
  | succ n ih =>
    unfold sendWhile
    split
    · rw [ih, sendRecords_asleep]
    · rfl

/-- R133: the completion test changes the engine's state and timers, and what `quiet` takes away. -/
theorem completionTest_asleep (s : State) : (completionTest s).asleep = s.asleep := by
  unfold completionTest
  split
  · have h := asleep_of_still (sendDrained_still s)
    rw [← h]
    rfl
  · rfl

/-- R131, R133: what the sends and the completion test leave as it was. -/
theorem nightFollow_asleep (s : State) : (nightFollow s).asleep = s.asleep := by
  unfold nightFollow
  rw [completionTest_asleep, sendWhile_asleep]

/-- R131, R133: outside DRAINING nothing is sent and no test is taken. -/
theorem nightFollow_of_not_draining (h : s.night.state ≠ .draining) : nightFollow s = s := by
  have hsend : s.canSend = false := by simp [State.canSend, h]
  have hwhile : sendWhile s.night.window s = s := by
    cases s.night.window <;> simp [sendWhile, hsend]
  unfold nightFollow completionTest
  rw [hwhile, if_neg fun hc => h hc.1]

/-! ## Reading a field that was written (R1, R193) -/

/-- R1: a field is its bytes, most significant first. -/
theorem halves16 (x : BitVec 16) : x.extractLsb' 8 8 ++ x.extractLsb' 0 8 = x :=
  (BitVec.extractLsb'_append_extractLsb'_eq_extractLsb' rfl).trans x.extractLsb'_eq_self
theorem halves32 (x : BitVec 32) : x.extractLsb' 16 16 ++ x.extractLsb' 0 16 = x :=
  (BitVec.extractLsb'_append_extractLsb'_eq_extractLsb' rfl).trans x.extractLsb'_eq_self
theorem halves48 (x : BitVec 48) : x.extractLsb' 32 16 ++ x.extractLsb' 0 32 = x :=
  (BitVec.extractLsb'_append_extractLsb'_eq_extractLsb' rfl).trans x.extractLsb'_eq_self

@[simp] theorem length_be16 (x : BitVec 16) : (be16 x).length = 2 := rfl
@[simp] theorem length_be32 (x : BitVec 32) : (be32 x).length = 4 := rfl
@[simp] theorem length_be48 (x : BitVec 48) : (be48 x).length = 6 := rfl

theorem byteAt_append {front : Bytes} {n : Nat} (h : front.length = n) (bs : Bytes) (i : Nat) :
    byteAt (front ++ bs) (n + i) = byteAt bs i := by
  simp [byteAt, List.getElem?_append_right, ← h]

theorem word16_append {front : Bytes} {n : Nat} (h : front.length = n) (bs : Bytes) (i : Nat) :
    word16 (front ++ bs) (n + i) = word16 bs i := by
  simp only [word16, Nat.add_assoc, byteAt_append h]

theorem word32_append {front : Bytes} {n : Nat} (h : front.length = n) (bs : Bytes) (i : Nat) :
    word32 (front ++ bs) (n + i) = word32 bs i := by
  simp only [word32, Nat.add_assoc, word16_append h]

theorem word16_be16 (x : BitVec 16) (bs : Bytes) : word16 (be16 x ++ bs) 0 = x := halves16 x

theorem word32_be32 (x : BitVec 32) (bs : Bytes) : word32 (be32 x ++ bs) 0 = x := by
  rw [be32, List.append_assoc, word32, word16_be16, word16_append (n := 2) (i := 0) rfl, word16_be16, halves32]

theorem word48_be48 (x : BitVec 48) (bs : Bytes) : word48 (be48 x ++ bs) 0 = x := by
  rw [be48, List.append_assoc, word48, word16_be16, word32_append (n := 2) (i := 0) rfl, word32_be32, halves48]
theorem word48_ethernetFrame (a b : Station) (type : BitVec 16) (bs : Bytes) :
    word48 (ethernetFrame a b type bs) 0 = a := by
  simp only [ethernetFrame, padFrame, List.append_assoc, word48_be48]

/-! ## Receive checks (R5) -/

theorem receiveFrame_down (port : Segment) (fcs : Bool) (bs : Bytes) (h : s.up port = false) :
    receiveFrame port fcs bs s = s := by
  unfold receiveFrame
  rw [if_pos (by rw [h]; rfl)]

theorem receiveFrame_bad {port : Segment} {fcs : Bool} {bs : Bytes} (hup : s.up port = true)
    (h : fcs = false ∨ bs.length < 60 ∨ 1518 < bs.length) :
    receiveFrame port fcs bs s = offer ⟨.receiveError port, 1, ⟨false, none, port, none⟩, none⟩ s := by
  have hbad : (fcs && lengthGood bs) = false := by
    rcases h with h | h | h
    · rw [h]; rfl
    · simp [lengthGood]; omega
    · simp [lengthGood]; omega
  unfold receiveFrame
  rw [if_neg (by simp [hup]), if_pos (by rw [hbad]; rfl)]
  rfl

/-- R5: a good frame goes on by whether it is addressed to the part. -/
theorem receiveFrame_good {port : Segment} {bs : Bytes} (hup : s.up port = true) (hmin : 60 ≤ bs.length)
    (hmax : bs.length ≤ 1518) : receiveFrame port true bs s = if s.addressedHere bs
      then sortFrame port bs (offer ⟨.received port, 1, ⟨false, none, port, some (word48 bs 6)⟩, none⟩ s) else s := by
  have hgood : lengthGood bs = true := decide_eq_true ⟨hmin, hmax⟩
  unfold receiveFrame
  rw [if_neg (by simp [hup]), if_neg (by simp [hgood])]
  cases s.addressedHere bs <;> rfl

/-- R5: which frames are addressed to the part. -/
theorem addressedHere_iff (s : State) (bs : Bytes) :
    s.addressedHere bs = true ↔ word48 bs 0 = s.station ∨ word48 bs 0 = broadcastStation := by
  simp [State.addressedHere]

/-- Settles O17: the three tests of the receive path, in its order. -/
theorem receiveChecksDiscardBadAndForeignFrames : Obligations.ReceiveChecksDiscardBadAndForeignFrames := by
  intro port fcs bs s
  refine ⟨fun h => congrArg _ (receiveFrame_down port fcs bs h),
    fun hup h => ⟨congrArg _ (receiveFrame_bad hup h), offer_still _ s⟩, ?foreign⟩
  rintro hup rfl hmin hmax hstation hbroadcast
  refine congrArg _ ((receiveFrame_good hup hmin hmax).trans (if_neg fun h => ?_))
  exact ((addressedHere_iff s bs).1 h).elim hstation hbroadcast

/-! ## Ticks and aging (R19, R74, R159) -/

theorem Clock.ticked_eq (c : Clock) : c.ticked = if c.set = false then c
    else if c.sub < 999 then { c with sub := c.sub + 1 } else { c with sub := 0, due := c.due + 1 } := by
  unfold Clock.ticked
  cases c.set with
  | false => rfl
  | true => by_cases h : c.sub < 999 <;> simp [h, Nat.not_le.2, Nat.le_of_not_lt]

/-- Settles O29: the tick advance and the aging event, read off their rows. -/
theorem tickAdvanceAndGuestAging : Obligations.TickAdvanceAndGuestAging := by
  intro s
  refine ⟨?tick, fun h => ?aged, fun h => ?not⟩
  case tick => rw [← Clock.ticked_eq, ← beq_eq_decide]; rfl
  case aged => exact congrArg _ (if_pos h)
  case not => exact congrArg _ (if_neg (by simp [h]))

/-! ## Link loss (R2, R57, R136, R154) -/

theorem execLinkLoss_up {port : Segment} (h : s.up port = true) :
    exec (.linkLoss port) s = .next (afterLinkLoss port { s with links := s.links.set none port }) :=
  congrArg _ (if_pos h)

theorem foldl_offer_still (l : List Occurrence) (s : State) : (l.foldl (fun s o => offer o s) s).still = s.still := by
  induction l generalizing s with
  | nil => rfl
  | cons o l ih => rw [List.foldl_cons, ih, offer_still]

/-- R154: what a recovery leaves, the alerts and counts of its events aside. -/
theorem labelRecovery_quiet (s : State) : (labelRecovery s).quiet = ({ s with
    label := s.label.recovered, pool := s.pool.freeLabel s.label.lostAtRecovery.length } : State).quiet :=
  (quiet_of_still (foldl_offer_still _ _)).trans (compareChanged_quiet _ _ _)

theorem lostAtRecovery_length (l : LabelEngine) :
    l.lostAtRecovery.length = l.inFlight.countP fun u => holdsLabel l.queue u.number :=
  List.countP_eq_length_filter.symm

/-- R136: outside a session the night engine takes no notice. -/
theorem nightLinkLoss_of_no_session (h : s.night.state = .idle ∨ s.night.state = .backoff ∨ s.night.state = .failed) :
    nightLinkLoss s = s := by
  refine if_neg fun hbusy => ?_
  rcases h with h | h | h <;> simp [h] at hbusy

/-- Settles O16: each port's link loss, read off its row; on LABEL the recovery's alerts join no queue of the DOWN port. -/
theorem linkLossEmptiesThePort : Obligations.LinkLossEmptiesThePort := by
  intro s
  refine ⟨fun port h => ?down, fun p hp hup => ?egress, fun hup => ?uplink, fun hup => ?label⟩
  case down => exact congrArg _ (if_neg (by simp [h]))
  case egress =>
    rw [execLinkLoss_up hup]
    cases p
    case label => exact absurd rfl hp
    all_goals rfl
  case uplink =>
    refine ⟨_, execLinkLoss_up hup, ?state, fun h => ?stays, fun h => ?back⟩
    case state =>
      simp only [afterLinkLoss, nightLinkLoss]
      split <;> rfl
    case stays =>
      exact (congrArg State.night (nightLinkLoss_of_no_session
        (s := ({ s with links := s.links.set none .uplink } : State).uplinkEmptied) h)).trans rfl
    case back => exact ⟨_, congrArg State.night (if_pos (α := State) h)⟩
  case label =>
    refine ⟨_, _, execLinkLoss_up hup, rfl, ?empty, ?quiet⟩
    case empty =>
      have hmoves : Moves .own (({ s with links := s.links.set none .label } : State).withEgress .label [])
          (afterLinkLoss .label { s with links := s.links.set none .label }) := labelRecovery_moves (.refl _)
      exact hmoves.egress_of_down (p := .label) rfl
    case quiet =>
      refine (labelRecovery_quiet _).trans ?_
      rw [lostAtRecovery_length]
      rfl

end Sys2Proof.Machine

/-! SUPPORT. Link-up (R2, R54, R178): the departure it lets go on UPLINK, and the alert frame it lets go on the management
port. -/

namespace Sys2Proof.Machine

/- The proofs below run one after another: run together, their waiting threads outgrow the memory a check may use. -/
set_option Elab.async false

variable {s t : State}

/-! ## The alert frame (R178) -/

theorem AlertUnit.anyPending_of_mem (a : AlertUnit) (h : ∃ i : Fin 14, a.pending[i] ≠ none) : a.anyPending = true := by
  obtain ⟨i, hi⟩ := h
  refine List.any_eq_true.2 ⟨a.pending[i], ?_, Option.isSome_iff_ne_none.2 hi⟩
  rw [Vector.mem_toList_iff]
  exact Vector.getElem_mem i.isLt

/-- R178: at a send event with room in the management port's egress queue the alert frame joins it. -/
theorem alertTest_sends {d : Station} {p : EgressPort} (hport : s.ports.managementPort = egressSegment p)
    (hd : s.alerts.destination = some d) (hpending : ∃ i : Fin 14, s.alerts.pending[i] ≠ none)
    (htimer : s.alerts.timer = none) (hup : s.up (egressSegment p) = true) (hroom : (s.egress.get p).length < 64) :
    alertTest s = ({ s with
      alerts := s.alerts.sent s.tick
      counters := if s.alerts.newCounterSource then s.counters.counterAlert else s.counters } : State).joinEgress p
        (s.alertFrame d) := by
  have hready : s.alertReady = true := by
    simp [State.alertReady, s.alerts.anyPending_of_mem hpending, hport, hup, htimer]
  unfold alertTest
  simp only [hd, hready, if_true]
  rw [hport, presentOnWith_egress]
  exact presentEgressWith_room countEvent p _ (.inr rfl) hup hroom

/-! ## What follows link-up (R2) -/

/-- R2: off UPLINK and the management port nothing follows. -/
theorem afterLinkUp_other {port : Segment} (h : port ≠ .uplink) (h' : port ≠ s.ports.managementPort) :
    afterLinkUp port s = s := by
  unfold afterLinkUp
  rw [if_neg h, if_neg h']

/-- R178: off UPLINK the send test follows on the management port. -/
theorem afterLinkUp_management {port : Segment} (h : port ≠ .uplink) (h' : port = s.ports.managementPort) :
    afterLinkUp port s = alertTest s := by
  unfold afterLinkUp
  rw [if_neg h, if_pos h']

/-- R54: outside DRAINING a departure leaves the night engine nothing to send. -/
theorem nightFollow_depart (h : s.night.state ≠ .draining) : nightFollow (depart s) = depart s :=
  nightFollow_of_not_draining (by rwa [still_night (depart_still s)])

theorem afterLinkUp_asleep (port : Segment) (s : State) : (afterLinkUp port s).asleep = s.asleep := by
  have hsent : (if port = .uplink then nightFollow (depart s) else s).asleep = s.asleep := by
    split
    · rw [nightFollow_asleep, asleep_of_still (depart_still s)]
    · rfl
  unfold afterLinkUp
  dsimp only
  split
  · rw [asleep_of_still (alertTest_still _), hsent]
  · exact hsent

theorem afterLinkUp_still {port : Segment} (h : port ≠ .uplink ∨ s.night.state ≠ .draining) :
    (afterLinkUp port s).still = s.still := by
  have hsent : (if port = .uplink then nightFollow (depart s) else s).still = s.still := by
    split
    · next hp => rw [nightFollow_depart (h.resolve_left fun hn => hn hp), depart_still]
    · rfl
  unfold afterLinkUp
  dsimp only
  split
  · rw [alertTest_still, hsent]
  · exact hsent

/-- R54: on UPLINK, outside DRAINING and with no alert destination, a departure is what follows. -/
theorem afterLinkUp_uplink (h : s.night.state ≠ .draining) (hd : s.alerts.destination = none) :
    afterLinkUp .uplink s = depart s := by
  unfold afterLinkUp
  rw [if_pos rfl, nightFollow_depart h]
  dsimp only
  split
  · exact alertTest_of_no_destination ((still_destination (depart_still s)).trans hd)
  · rfl

@[simp] theorem PerSegment.get_set_same {α : Type} (v : PerSegment α) (g : Segment) (x : α) :
    (v.set x g).get g = x := by
  cases g <;> rfl

theorem egressSegment_ne_uplink (p : EgressPort) : egressSegment p ≠ .uplink := by
  cases p <;> exact nofun

/-- Settles O15: what follows link-up is a departure on UPLINK and the send test on the management port. -/
theorem linkUpTakesTheSpeed : Obligations.LinkUpTakesTheSpeed := by
  intro port speed s
  obtain ⟨u, hu⟩ : ∃ u : State, u = { s with links := s.links.set (some speed) port } := ⟨_, rfl⟩
  have hup : u.up port = true := by rw [hu]; simp [State.up]
  refine ⟨afterLinkUp port u, by rw [hu]; rfl, ?links, hu ▸ afterLinkUp_asleep port u,
    fun h => hu ▸ afterLinkUp_still (hu ▸ h), fun h h' => hu ▸ afterLinkUp_other h (hu ▸ h'), ?departure, ?alert⟩
  case links =>
    have h := congrArg State.links (afterLinkUp_asleep port u)
    exact h.trans (by rw [hu]; rfl)
  case departure =>
    rintro rfl hnight hd
    have hd' : u.alerts.destination = none := hu ▸ hd
    rw [afterLinkUp_uplink (hu ▸ hnight) hd']
    have huplink : u.uplink = s.uplink := by rw [hu]
    constructor
    · rintro (hbusy | hempty)
      · exact (congrArg State.uplink (departWith_busy offer (by rwa [huplink]))).trans huplink
      · exact (congrArg State.uplink (departWith_empty offer (by rwa [huplink]))).trans huplink
    · intro hfree hsome
      obtain ⟨q, hq⟩ := Option.ne_none_iff_exists'.1 fun hnone : chooseQueue u.uplink u.spacing = none =>
        hsome.elim fun q hq => hq (huplink ▸ chooseQueue_eq_none.1 hnone q)
      obtain ⟨f, rest, hfront⟩ := List.exists_cons_of_ne_nil (chooseQueue_nonempty hq)
      have hdeparted := (depart_of_choice hd' hup (by rwa [huplink]) hq hfront).1
      refine ⟨q, f, rest, ⟨f.departing u.ports.gateways.uplink, u.tick⟩, huplink ▸ hfront, ?_, ?_, ?_, ?_, ?_⟩
      · rw [hdeparted, Uplink.departed_queues, huplink]
      · rw [hdeparted, Uplink.departed_transmitting]
      · rw [hu]
      · exact Frame.departing_of_ne f _
      · intro hurgent
        exact Option.some.inj (hq.symm.trans (chooseQueue_urgent _ (huplink ▸ hurgent)))
  case alert =>
    rintro d p rfl hport hd hpending htimer hroom
    have hport' : u.ports.managementPort = egressSegment p := hu ▸ hport
    rw [afterLinkUp_management (egressSegment_ne_uplink p) hport'.symm,
      alertTest_sends hport' (by rwa [hu]) (by rwa [hu]) (by rwa [hu]) hup (by rwa [hu])]
    exact ⟨u.alertFrame d, by rw [hu]; rfl, rfl, word48_ethernetFrame _ _ _ _, by rw [hu]; rfl⟩

end Sys2Proof.Machine

/-! SUPPORT. The end of a transmission (R15, R54, R55), and the source address an OPEN takes as it departs (R123). -/

namespace Sys2Proof.Machine

/- The proofs below run one after another: run together, their waiting threads outgrow the memory a check may use. -/
set_option Elab.async false

variable {s t : State}

/-! ## The bytes of an originated datagram (R13, R192, R193) -/

theorem patch_append {front old new back : Bytes} {i : Nat} (hi : front.length = i) (hlen : old.length = new.length) :
    patch (front ++ (old ++ back)) i new = front ++ (new ++ back) := by
  subst hi
  simp [patch, ← hlen]

/-- The first ten bytes of an originated IPv4 header, before its checksum and its addresses. -/
def headerFront (n length : Nat) : Bytes :=
  [0x45, Config.originatedService n] ++ num16 (20 + length) ++ be16 (Config.originatedIdentification n)
    ++ be16 (Config.originatedFlags n ++ (0 : BitVec 14)) ++ [64, 17]

theorem ipv4Header_eq (n : Nat) (source destination : NetAddr) (length : Nat) (c : BitVec 16) :
    ipv4Header n source destination length c
      = headerFront n length ++ (be16 c ++ (be32 source ++ be32 destination)) := by
  simp only [ipv4Header, headerFront, List.append_assoc]

/-- The first six bytes of an originated UDP datagram, before its checksum. -/
def datagramFront (own other : Service) (payload : Bytes) : Bytes :=
  be16 own ++ be16 other ++ num16 (8 + payload.length)

theorem udpDatagram_eq (source destination : NetAddr) (own other : Service) (payload : Bytes) :
    udpDatagram source destination own other payload = datagramFront own other payload
      ++ (be16 (udpChecksumBuilt source destination (datagramFront own other payload ++ ([0, 0] ++ payload)))
        ++ payload) := by
  unfold udpDatagram
  dsimp only
  rw [show be16 own ++ be16 other ++ num16 (8 + payload.length) ++ [0, 0] ++ payload
    = datagramFront own other payload ++ ([0, 0] ++ payload) from List.append_assoc _ _ _]
  exact patch_append rfl rfl

theorem length_udpDatagram (source destination : NetAddr) (own other : Service) (payload : Bytes) :
    (udpDatagram source destination own other payload).length = 8 + payload.length := by
  rw [udpDatagram_eq, List.length_append, List.length_append, datagramFront, num16]
  simp only [List.length_append, length_be16]
  omega

/-- The checksum of an originated IPv4 header. -/
def headerChecksum (n : Nat) (source destination : NetAddr) (length : Nat) : BitVec 16 :=
  ~~~ onesSum (wordsOf (ipv4Header n source destination length 0))

/-- An originated frame: Ethernet header, IPv4 header, datagram, padding. -/
theorem udpFrame_eq (n : Nat) (a b : Station) (source destination : NetAddr) (own other : Service) (payload : Bytes) :
    udpFrame n a b source destination own other payload
      = (be48 a ++ be48 b ++ be16 0x0800)
        ++ (ipv4Header n source destination (8 + payload.length)
            (headerChecksum n source destination (8 + payload.length))
          ++ (udpDatagram source destination own other payload
            ++ List.replicate (60 - (42 + payload.length)) 0)) := by
  have hlen : (be48 a ++ be48 b ++ be16 0x0800 ++ (ipv4Header n source destination (8 + payload.length)
      (headerChecksum n source destination (8 + payload.length))
        ++ udpDatagram source destination own other payload)).length = 42 + payload.length := by
    simp only [List.length_append, length_udpDatagram, length_be48, length_be16, ipv4Header_eq, headerFront, num16,
      length_be32, List.length_cons, List.length_nil]
    omega
  unfold udpFrame
  simp only [length_udpDatagram, ethernetFrame, padFrame]
  rw [headerChecksum] at hlen ⊢
  rw [hlen]
  simp only [List.append_assoc]

theorem word16_totalLength {front : Bytes} (hf : front.length = 14) (n : Nat) (source destination : NetAddr)
    {length : Nat} (hlen : 20 + length < 65536) (c : BitVec 16) (bs : Bytes) :
    (word16 (front ++ (ipv4Header n source destination length c ++ bs)) 16).toNat = 20 + length := by
  have hword : word16 (front ++ (ipv4Header n source destination length c ++ bs)) 16 = BitVec.ofNat 16 (20 + length) := by
    refine (word16_append hf _ 2).trans ?_
    simp only [ipv4Header, List.append_assoc, num16]
    exact (word16_append (n := 2) rfl _ 0).trans (word16_be16 _ _)
  rw [hword, BitVec.toNat_ofNat, Nat.mod_eq_of_lt hlen]

theorem word32_destination {front : Bytes} (hf : front.length = 14) (n : Nat) (source destination : NetAddr)
    (length : Nat) (c : BitVec 16) (bs : Bytes) :
    word32 (front ++ (ipv4Header n source destination length c ++ bs)) 30 = destination := by
  refine (word32_append hf _ 16).trans ?_
  rw [ipv4Header_eq, show headerFront n length ++ (be16 c ++ (be32 source ++ be32 destination)) ++ bs
      = (headerFront n length ++ (be16 c ++ be32 source)) ++ (be32 destination ++ bs) from by
        simp only [List.append_assoc]]
  exact (word32_append (n := 16) rfl _ 0).trans (word32_be32 _ _)

/-- R123: an originated frame readdressed is the frame built with the other source address. -/
theorem readdressed_udpFrame (g : NetAddr) (n : Nat) (a b : Station) (source destination : NetAddr)
    (own other : Service) (payload : Bytes) (hlen : payload.length ≤ 1400) :
    readdressed g (udpFrame n a b source destination own other payload)
      = udpFrame n a b g destination own other payload := by
  rw [udpFrame_eq, udpFrame_eq n a b g]
  generalize hE : be48 a ++ be48 b ++ be16 0x0800 = E
  have hEl : E.length = 14 := by rw [← hE]; rfl
  generalize List.replicate (60 - (42 + payload.length)) (0 : Byte) = pad
  have hHl (x : NetAddr) (c : BitVec 16) : (ipv4Header n x destination (8 + payload.length) c).length = 20 := rfl
  have htotal := word16_totalLength hEl n source destination (length := 8 + payload.length) (by omega)
    (headerChecksum n source destination (8 + payload.length))
    (udpDatagram source destination own other payload ++ pad)
  unfold readdressed
  rw [htotal, word32_destination hEl, List.take_left' hEl, List.drop_left' hEl, List.take_left' (hHl _ _)]
  rw [show List.drop 34 (E ++ (ipv4Header n source destination (8 + payload.length)
        (headerChecksum n source destination (8 + payload.length))
      ++ (udpDatagram source destination own other payload ++ pad)))
    = udpDatagram source destination own other payload ++ pad from by
      rw [← List.append_assoc]
      exact List.drop_left' (by rw [List.length_append, hEl, hHl])]
  rw [show List.drop (14 + (20 + (8 + payload.length))) (E ++ (ipv4Header n source destination (8 + payload.length)
        (headerChecksum n source destination (8 + payload.length))
      ++ (udpDatagram source destination own other payload ++ pad))) = pad from by
      rw [← List.append_assoc, ← List.append_assoc]
      exact List.drop_left' (by rw [List.length_append, List.length_append, hEl, hHl, length_udpDatagram]; omega)]
  rw [List.take_left' (by rw [length_udpDatagram]; omega)]
  have hheader : patch (patch (ipv4Header n source destination (8 + payload.length)
      (headerChecksum n source destination (8 + payload.length))) 10 [0, 0]) 12 (be32 g)
      = ipv4Header n g destination (8 + payload.length) 0 := by
    rw [ipv4Header_eq, patch_append (i := 10) (front := headerFront n _) (old := be16 _) (new := [0, 0]) rfl rfl,
      ← List.append_assoc,
      patch_append (i := 12) (front := headerFront n _ ++ [0, 0]) (old := be32 source) (new := be32 g) rfl rfl,
      ipv4Header_eq]
    exact List.append_assoc _ _ _
  have hdatagram : patch (udpDatagram source destination own other payload) 6 [0, 0]
      = datagramFront own other payload ++ ([0, 0] ++ payload) := by
    rw [udpDatagram_eq]
    exact patch_append rfl rfl
  dsimp only
  rw [hheader, hdatagram, udpDatagram_eq g]
  rw [patch_append (i := 6) (front := datagramFront own other payload) (old := [0, 0]) (new := be16 _) rfl rfl]
  rw [show patch (ipv4Header n g destination (8 + payload.length) 0) 10
      (be16 (~~~ onesSum (wordsOf (ipv4Header n g destination (8 + payload.length) 0))))
      = ipv4Header n g destination (8 + payload.length) (headerChecksum n g destination (8 + payload.length)) from by
    rw [headerChecksum]
    simp only [ipv4Header_eq]
    exact patch_append rfl rfl]
  simp only [List.append_assoc]

/-! ## The queue the spacing rule chooses (R55) -/

/-- R55: GUEST goes before TRANSFER and OFFICE when its gap is due, and after them when they are empty. -/
theorem chooseQueue_guest {v : Uplink} {n : Nat} (hu : v.queues.urgent = []) (hg : v.queues.guest ≠ [])
    (h : n ≤ v.guestGap + 1 ∨ (v.queues.transfer = [] ∧ v.queues.office = [])) : chooseQueue v n = some .guest := by
  unfold chooseQueue
  rw [if_neg (by simp [hu])]
  split
  · rfl
  · next hgap =>
    rw [turnChoice_eq_none.2 (h.resolve_left fun hn => hgap ⟨hg, by omega⟩)]

/-- R55: otherwise the turn decides between TRANSFER and OFFICE. -/
theorem chooseQueue_turn {v : Uplink} {n : Nat} {q : UplinkQueue} (hu : v.queues.urgent = [])
    (hg : v.queues.guest = [] ∨ v.guestGap + 1 < n) (hturn : turnChoice v = some q) : chooseQueue v n = some q := by
  unfold chooseQueue
  rw [if_neg (by simp [hu]), if_neg fun hdue => hg.elim hdue.1 fun hgap => by omega, hturn]

theorem turnChoice_transfer {v : Uplink} (ht : v.queues.transfer ≠ [])
    (h : v.turn = .transfer ∨ v.queues.office = []) : turnChoice v = some .transfer := by
  unfold turnChoice
  split
  · exact if_pos ht
  · next hturn => rw [if_neg (by simpa using h.resolve_left (by simp [hturn])), if_pos ht]

theorem turnChoice_office {v : Uplink} (ho : v.queues.office ≠ [])
    (h : v.turn = .office ∨ v.queues.transfer = []) : turnChoice v = some .office := by
  unfold turnChoice
  split
  · next hturn => rw [if_neg (by simpa using h.resolve_left (by simp [hturn])), if_pos ho]
  · exact if_pos ho

/-! ## The obligation -/

/-- R123: an OPEN built with a source address departs with the UPLINK gateway address as its source instead. -/
theorem departing_opening {f : Frame} (g : NetAddr) (hk : f.kind = .opening) {n : Nat} {a b : Station}
    {source destination : NetAddr} {own other : Service} {payload : Bytes} (hlen : payload.length ≤ 1400)
    (hbytes : f.bytes = udpFrame n a b source destination own other payload) :
    (f.departing g).bytes = udpFrame n a b g destination own other payload := by
  rw [Frame.departing, if_pos hk]
  exact (congrArg _ hbytes).trans (readdressed_udpFrame g n a b source destination own other payload hlen)

/-- R54: with no alert destination a departure leaves the egress queues as they are. -/
theorem depart_egress (hd : s.alerts.destination = none) : (depart s).egress = s.egress := by
  by_cases hfree : s.up .uplink = true ∧ s.uplink.transmitting = none
  · cases hc : chooseQueue s.uplink s.spacing with
    | none => rw [show depart s = s from departWith_empty offer (chooseQueue_eq_none.1 hc)]
    | some q =>
      obtain ⟨f, rest, hq⟩ := List.exists_cons_of_ne_nil (chooseQueue_nonempty hc)
      exact (depart_of_choice hd hfree.1 hfree.2 hc hq).2
  · unfold depart departWith
    rw [if_neg (by simpa using hfree)]

theorem execUplinkTransmissionEnd_eq (hup : s.up .uplink = true) (hbusy : s.uplink.transmitting ≠ none)
    (hnight : s.night.state ≠ .draining) : exec .uplinkTransmissionEnd s
      = .next (depart { s with uplink := { s.uplink with transmitting := none } }) := by
  refine congrArg Host.Outcome.next ((if_pos ?_).trans (nightFollow_depart hnight))
  rw [hup, Option.isSome_iff_ne_none.2 hbusy]
  rfl

/-- Settles O28: each clause is the departure of the queue that `chooseQueue` names. -/
theorem transmissionEndTakesTheNextFrame : Obligations.TransmissionEndTakesTheNextFrame := by
  intro departs s hdeparts
  refine ⟨fun p hup => ?egress, fun hup hbusy hnight hd => ?uplink⟩
  case egress =>
    rw [← List.drop_one]
    exact congrArg Host.Outcome.next (if_pos hup)
  case uplink =>
    have hdep (f : Frame) : departs f (f.departing s.ports.gateways.uplink) :=
      (hdeparts _ _).2 ⟨f.departing_of_ne _, fun hk => ⟨f.departing_eq _, fun _ _ _ _ _ _ _ _ hlen hbytes =>
        departing_opening _ hk hlen hbytes⟩⟩
    obtain ⟨u, hu⟩ : ∃ u : State, u = { s with uplink := { s.uplink with transmitting := none } } := ⟨_, rfl⟩
    have hchosen {q : UplinkQueue} {f : Frame} {rest : List Frame} (hc : chooseQueue u.uplink s.uplink.daySpacing = some q)
        (hq : s.uplink.queues.get q = f :: rest) :
        (depart u).uplink = s.uplink.departed s.ports.gateways.uplink s.tick q f rest := by
      have hspacing : u.spacing = s.uplink.daySpacing := by rw [hu]; exact if_neg hnight
      have hdeparted := (depart_of_choice (s := u) (hu ▸ hd) (hu ▸ hup) (by rw [hu]) (hspacing ▸ hc) (by rwa [hu])).1
      rw [hdeparted, hu]
      rfl
    have hstill : (depart u).still = s.still := (depart_still u).trans (by rw [hu]; rfl)
    refine ⟨depart u, hu ▸ execUplinkTransmissionEnd_eq hup hbusy hnight, hstill, ?same, ?urgent, ?guest, ?transfer,
      ?office, ?empty⟩
    case same => exact (depart_egress (hu ▸ hd)).trans (by rw [hu])
    case urgent =>
      intro f rest hq
      exact ⟨_, hdep f, hchosen (chooseQueue_urgent _ (by rw [hu]; simp [hq])) hq⟩
    case guest =>
      intro f rest hurgent hq hdue
      exact ⟨_, hdep f, hchosen (q := .guest) (by rw [hu]; exact chooseQueue_guest hurgent (by simp [hq]) hdue) hq⟩
    case transfer =>
      intro f rest hurgent hgap hq hturn
      exact ⟨_, hdep f, hchosen (q := .transfer)
        (by rw [hu]; exact chooseQueue_turn hurgent hgap (turnChoice_transfer (by simp [hq]) hturn)) hq⟩
    case office =>
      intro f rest hurgent hgap hq hturn
      exact ⟨_, hdep f, hchosen (q := .office)
        (by rw [hu]; exact chooseQueue_turn hurgent hgap (turnChoice_office (by simp [hq]) hturn)) hq⟩
    case empty =>
      intro hempty
      have hnone : ∀ q, u.uplink.queues.get q = [] := by
        rw [hu]
        intro q
        cases q <;> simp [hempty, PerQueue.get]
      rw [show depart u = u from departWith_empty offer hnone, hu]

end Sys2Proof.Machine

/-! SUPPORT. What a refused command does, and the answer in one part (R183, R184, R188, R195). -/

namespace Sys2Proof.Machine

/- The proofs below run one after another: run together, their waiting threads outgrow the memory a check may use. -/
set_option Elab.async false

variable {s t : State}

/-! ## Commands that require the lock (R188) -/

/-- R188: each command the lock is required for is run under the lock. -/
theorem exec_of_lockCode {c : Instr} {q : Requester} {code : Nat} (h : lockCode c = some (q, code)) (s : State) :
    ∃ run, exec c s = .next (lockedCommand q c code run s) := by
  cases c
  case write q' table first count data =>
    simp only [lockCode] at h
    split at h
    · next hsome =>
      obtain ⟨run, hrun⟩ := Option.isSome_iff_exists.1 hsome
      cases h
      refine ⟨run, congrArg Host.Outcome.next ?_⟩
      rw [hrun]
    · cases h
  all_goals cases h
  all_goals exact ⟨_, rfl⟩

/-- R188: a party that does not hold the lock is answered NO-LOCK. -/
theorem lockedCommand_of_no_lock (q : Requester) (i : Instr) (code : Nat) (run : State → CmdResult) (s : State)
    (h : s.holds q.party = false) : lockedCommand q i code run s = answerTo q code .noLock [] (takeRequest i s) := by
  simp only [lockedCommand, openCommand, takeRequest_holds, h]
  rfl

/-! ## The answer in one part (R184, R195) -/

/-- R184: an answer in one part is one message. -/
theorem answerTo_eq (q : Requester) (code : Nat) (status : Status) (fields : Bytes) (s : State) :
    answerTo q code status fields s
      = sendPart q (responseBytes q.tag code (statusCode status) 0 true fields) s := rfl

/-- R195: the message of an answer in one part. -/
theorem responseBytes_onePart (tag : BitVec 16) (code status : Nat) (fields : Bytes) :
    responseBytes tag code status 0 true fields
      = be16 tag ++ [BitVec.ofNat 8 code, BitVec.ofNat 8 status, 0, 1, 0, 0] ++ fields := by
  simp only [responseBytes, List.append_assoc]
  rfl

/-- R184: a local answer joins the egress queue of the port its request came in on. -/
theorem sendPart_station {q : Requester} {a : Station} {p : EgressPort} (hq : q.reply = .station a (egressSegment p))
    (hup : s.up (egressSegment p) = true) (hroom : (s.egress.get p).length < 64) (message : Bytes) :
    sendPart q message s = s.joinEgress p {
      kind := .response, bytes := ethernetFrame a s.station s.ports.managementType message, entryTick := s.tick
      origin := builtOrigin (egressSegment p) } := by
  unfold sendPart
  rw [hq]
  exact (presentOnWith_egress offer p _ s).trans (presentEgress_room p _ (.inr rfl) hup hroom)

/-- R12: a remote answer waits in URGENT behind a frame in transmission. -/
theorem sendPart_datagram {q : Requester} {a : NetAddr} {service : Service} {next : Station}
    (hq : q.reply = .datagram a service) (hnext : s.ports.nextHop = some next)
    (hbusy : s.uplink.transmitting ≠ none) (hlimit : s.uplink.queues.urgent.length < s.uplink.limits.urgent)
    (htotal : queuedTotal s.uplink.queues < 256) (message : Bytes) :
    ∃ f, sendPart q message s = ({ s with freeSerial := s.freeSerial + 1 } : State).joinUplink .urgent f
      ∧ f.bytes = udpFrame s.freeSerial next s.station s.ports.gateways.uplink a s.ports.agentService service message := by
  unfold sendPart originate
  rw [hq]
  simp only [resolve, stationOr, hnext]
  exact ⟨_, presentUplink_busy .urgent _ (.inr rfl) hlimit htotal hbusy, rfl⟩

/-- Settles O45: a lock-requiring command without the lock is one message to its requester. -/
theorem refusalsAnswerAndChangeNothing : Obligations.RefusalsAnswerAndChangeNothing := by
  refine ⟨fun _ _ _ => rfl, fun c q code s hc hlock => ?noLock, fun q code status fields s =>
    ⟨respond_still _ _ _, fun a p hq hup hroom => ?station, fun a service next hq hnext hbusy hlimit htotal => ?datagram⟩⟩
  case noLock =>
    obtain ⟨run, hrun⟩ := exec_of_lockCode hc s
    rw [hrun, lockedCommand_of_no_lock _ _ _ _ _ hlock]
  case station =>
    rw [answerTo_eq, sendPart_station hq hup hroom, responseBytes_onePart]
    rfl
  case datagram =>
    obtain ⟨f, hf, hbytes⟩ := sendPart_datagram hq hnext hbusy hlimit htotal
      (responseBytes q.tag code (statusCode status) 0 true fields)
    refine ⟨f, ?_, hbytes.trans (by rw [responseBytes_onePart])⟩
    rw [answerTo_eq, hf]
    rfl

end Sys2Proof.Machine

/-! SUPPORT. What a part in CLOSED does with a received frame (R16): it may join the request queue, be answered as an ARP
request or be dropped, and nothing else. -/

namespace Sys2Proof.Machine

/- The proofs below run one after another: run together, their waiting threads outgrow the memory a check may use. -/
set_option Elab.async false

variable {s t u : State}

/-- The state with another request queue and alert destination. -/
def State.withRequests (s : State) (queue : List Request) (destination : Option Station) : State :=
  { s with agent := { s.agent with queue := queue }, alerts := { s.alerts with destination := destination } }

/-- R16: what a part in CLOSED does with a received frame. -/
structure HandsOnNothing (s t : State) : Prop where
  moves : Moves .own s t
  still : t.still = (s.withRequests t.agent.queue t.alerts.destination).still
  queue : t.agent.queue = s.agent.queue ∨ ∃ r, t.agent.queue = s.agent.queue ++ [r]

theorem withRequests_still (h : t.still = s.still) (queue : List Request) (destination : Option Station) :
    (t.withRequests queue destination).still = (s.withRequests queue destination).still :=
  congrArg (fun v : State => v.withRequests queue destination) h

theorem HandsOnNothing.of_still (hm : Moves .own s t) (h : t.still = s.still) : HandsOnNothing s t where
  moves := hm
  still := h.trans (by rw [still_agent h, still_destination h]; rfl)
  queue := .inl (by rw [still_agent h])

theorem HandsOnNothing.after (hm : Moves .own s u) (h : u.still = s.still) (ht : HandsOnNothing u t) :
    HandsOnNothing s t where
  moves := hm.trans ht.moves
  still := ht.still.trans (withRequests_still h _ _)
  queue := by rw [← still_agent h]; exact ht.queue

theorem handsOnNothing_drop (r : DropReason) (o : Origin) (s : State) : HandsOnNothing s (drop r o s) :=
  .of_still (drop_moves (.refl s) r o) (drop_still r o s)

theorem setAlertDestination_agent (reply : ReplyAddress) (s : State) : (setAlertDestination reply s).agent = s.agent := by
  unfold setAlertDestination
  split
  · next a _ _ => rw [still_agent (alertTest_still _)]
  · rfl

theorem setAlertDestination_still (reply : ReplyAddress) (s : State) : (setAlertDestination reply s).still
    = (s.withRequests s.agent.queue (setAlertDestination reply s).alerts.destination).still := by
  unfold setAlertDestination
  split
  · next a _ _ => rw [still_destination (alertTest_still _), alertTest_still]; rfl
  · rfl

/-- R182: a request joins the request queue. -/
theorem joinRequests_of_room (port : Segment) (a : Station) (r : Request) (h : s.agent.queue.length < 8) :
    joinRequests port a r s
      = setAlertDestination r.reply { s with agent := { s.agent with queue := s.agent.queue ++ [r] } } := if_pos h

theorem handsOnNothing_joinRequests (port : Segment) (a : Station) (r : Request) (s : State) :
    HandsOnNothing s (joinRequests port a r s) := by
  have hm : Moves .own s (joinRequests port a r s) := joinRequests_moves (.refl s) port a r
  by_cases h : s.agent.queue.length < 8
  · rw [joinRequests_of_room port a r h] at hm ⊢
    have hq := congrArg Agent.queue
      (setAlertDestination_agent r.reply { s with agent := { s.agent with queue := s.agent.queue ++ [r] } })
    exact ⟨hm, (setAlertDestination_still _ _).trans (by rw [hq]; rfl), .inr ⟨r, hq⟩⟩
  · exact .of_still hm (by unfold joinRequests; rw [if_neg h]; exact offer_still _ _)

theorem handsOnNothing_remoteRequest (bs : Bytes) (ip : Ipv4) (s : State) :
    HandsOnNothing s (remoteRequest bs ip s) := by
  unfold remoteRequest
  dsimp only
  split
  · exact handsOnNothing_joinRequests _ _ _ s
  · exact handsOnNothing_drop _ _ s

theorem arpFrame_still (port : Segment) (bs : Bytes) (s : State) : (arpFrame port bs s).still = s.still := by
  unfold arpFrame
  split
  · exact presentOn_still _ _ s
  · exact drop_still _ _ s

theorem handsOnNothing_arpFrame (port : Segment) (bs : Bytes) (s : State) : HandsOnNothing s (arpFrame port bs s) :=
  .of_still (arpFrame_moves (.refl s) port bs (by simp [Licence.own, arpReply])) (arpFrame_still port bs s)

theorem handsOnNothing_ipv4Frame (h : s.running = false) (port : Segment) (bs : Bytes) :
    HandsOnNothing s (ipv4Frame port bs s) := by
  unfold ipv4Frame
  split
  · exact handsOnNothing_drop _ _ s
  · rw [sourceCheck_closed _ _ _ _ _ h]
    unfold deliverLocal
    rw [h]
    split
    · exact handsOnNothing_remoteRequest _ _ s
    · exact handsOnNothing_drop _ _ s

theorem handsOnNothing_sortFrame (h : s.running = false) (port : Segment) (bs : Bytes) :
    HandsOnNothing s (sortFrame port bs s) := by
  unfold sortFrame
  dsimp only
  split
  · split
    · exact handsOnNothing_drop _ _ s
    · exact handsOnNothing_ipv4Frame h port bs
  · split
    · rw [sourceCheck_closed _ _ _ _ _ h]
      exact handsOnNothing_arpFrame port bs s
    · split
      · exact handsOnNothing_joinRequests _ _ _ s
      · exact handsOnNothing_drop _ _ s

/-- R16: a received frame in CLOSED. -/
theorem handsOnNothing_receiveFrame (h : s.running = false) (port : Segment) (fcs : Bool) (bs : Bytes) :
    HandsOnNothing s (receiveFrame port fcs bs s) := by
  unfold receiveFrame
  split
  · exact .of_still (.refl s) rfl
  · split
    · exact .of_still (offer_moves_self _ s) (offer_still _ s)
    · split
      · exact .of_still (.refl s) rfl
      · have hstill := offer_still (occur (.received port) (receivedOrigin port (sourceStation bs))) s
        exact .after (offer_moves_self _ s) hstill
          (handsOnNothing_sortFrame (by rw [State.running, still_agent hstill]; exact h) port bs)

/-- R16: a forwarded frame among those a state's queues come from was queued there. -/
theorem forwarded_of_joins {now : Tick} {f : Frame} {P : Prop} (h : P ∨ Licence.own.joins now f)
    (hf : f.kind = .forwarded) : P :=
  h.resolve_right fun hj => hj hf

/-- Settles O21: in CLOSED no forwarded frame joins a queue. -/
theorem closedPartHandsOnNoFrame : Obligations.ClosedPartHandsOnNoFrame := by
  intro port fcs bs s hclosed
  obtain ⟨hm, hstill, hqueue⟩ := handsOnNothing_receiveFrame hclosed port fcs bs
  refine ⟨_, rfl, hstill, hqueue, hm.forwarded_egress, fun q f hf hk => forwarded_of_joins (hm.traced.queues q f hf) hk,
    fun x hx hk => (hm.traced.transmitting x hx).imp_right ?_⟩
  rintro ⟨f, g, hfg, hf⟩
  have hkind : f.kind = .forwarded := by rw [← hk, hfg, Frame.departing_kind]
  rw [hfg, Frame.departing_of_ne f g (by simp [hkind])]
  exact forwarded_of_joins hf hkind

end Sys2Proof.Machine

/-! SUPPORT. The delivery events that follow a change (R147, R148), and the writes of PORTS and OFFICE STATIONS (R3, R4). -/

namespace Sys2Proof.Machine

/- The proofs below run one after another: run together, their waiting threads outgrow the memory a check may use. -/
set_option Elab.async false

variable {s t : State}

/-! ## Delivery events (R147) -/

theorem deliverWhile_closed (n : Nat) (h : s.deliveryOpen = false) : deliverWhile n s = s := by
  cases n with
  | zero => rfl
  | succ n => rw [deliverWhile, h]; rfl

theorem deliverWhile_nothing (n : Nat) (h : s.label.queue.find? s.label.deliverable = none) : deliverWhile n s = s := by
  cases n with
  | zero => rfl
  | succ n =>
    rw [deliverWhile, h]
    split
    · split
      · next hsome => cases hsome
      · rfl
    · rfl

/-- R147: what holds delivery events back. -/
theorem deliveryOpen_eq_false : s.deliveryOpen = false ↔ s.running = false ∨ s.levels.labelWindow.value = .closed
    ∨ s.up .label = false ∨ s.ports.baseStation = none ∨ s.label.credit = 0 ∨ s.label.pacingTimer ≠ none
    ∨ 16 ≤ s.label.inFlight.length := by
  have hwindow : s.levels.labelWindow.value = .closed ↔ s.levels.labelWindow.value ≠ .opened := by
    cases s.levels.labelWindow.value <;> decide
  simp only [State.deliveryOpen, Bool.and_eq_false_iff, beq_eq_false_iff_ne, decide_eq_false_iff_not, hwindow,
    Option.isSome_eq_false_iff, Option.isNone_iff_eq_none, Option.isNone_eq_false_iff, Option.isSome_iff_ne_none,
    Nat.not_lt, Nat.le_zero, or_assoc]

theorem deliverable_eq_false {u : LabelUpdate} :
    s.label.deliverable u = false ↔ holdsLabel s.label.inFlight u.number = true := by
  simp [LabelEngine.deliverable]

section
variable {before after : List LabelUpdate} {u : LabelUpdate} (hqueue : s.label.queue = before ++ u :: after)
  (hbefore : ∀ x ∈ before, holdsLabel s.label.inFlight x.number = true)
  (hu : holdsLabel s.label.inFlight u.number = false)
include hqueue hbefore hu

/-- R147: the update delivered is the first of the queue whose label number is not in flight. -/
theorem find_deliverable : s.label.queue.find? s.label.deliverable = some u := by
  have hnone : before.find? s.label.deliverable = none :=
    List.find?_eq_none.2 fun x hx => by rw [deliverable_eq_false.2 (hbefore x hx)]; exact Bool.false_ne_true
  have hdeliverable : s.label.deliverable u = true := by simp [LabelEngine.deliverable, hu]
  rw [hqueue, List.find?_append, hnone, List.find?_cons_of_pos hdeliverable]
  rfl

theorem eraseP_deliverable : s.label.queue.eraseP s.label.deliverable = before ++ after := by
  have hdeliverable : s.label.deliverable u = true := by simp [LabelEngine.deliverable, hu]
  rw [hqueue, List.eraseP_append_right _ fun x hx => by
    rw [deliverable_eq_false.2 (hbefore x hx)]; exact Bool.false_ne_true, List.eraseP_cons_of_pos hdeliverable]

end

/-- R148: with the base station found and room on LABEL, the DELIVER message joins its egress queue. -/
theorem deliverOne_room {b : BaseStation} (u : LabelUpdate) (hrun : s.running = true) (hup : s.up .label = true)
    (hb : s.ports.baseStation = some b) (hroom : s.egress.label.length < 64) :
    deliverOne b u s = ({ s.sentInFlight u with freeSerial := s.freeSerial + 1 } : State).joinEgress .label
      ((s.sentInFlight u).datagramFrame (s.deliverMessage b u) b.station) := by
  have hresolved : resolve (s.sentInFlight u) none .label b.address = .ok b.station := by
    have hup' : (s.sentInFlight u).up .label = true := hup
    have hb' : (s.sentInFlight u).ports.baseStation = some b := hb
    simp only [resolve, hup', hb', if_true]
    rfl
  unfold deliverOne originate
  rw [show resolve (s.sentInFlight u) none (s.deliverMessage b u).segment (s.deliverMessage b u).destination
    = .ok b.station from hresolved]
  exact presentEgress_room .label _ (.inl hrun) hup hroom

/-- R147: the delivery events are one for the first deliverable update, and then, unless the pacing timer runs, more. -/
theorem deliveries_eq {b : BaseStation} {u : LabelUpdate} (hopen : s.deliveryOpen = true)
    (hb : s.ports.baseStation = some b) (hfind : s.label.queue.find? s.label.deliverable = some u) :
    deliveries s = if s.label.settings.pacing = 0 then deliveries (deliverOne b u s) else deliverOne b u s := by
  have hstep : deliveries s = deliverWhile 15 (deliverOne b u s) := by
    rw [deliveries, deliverWhile, if_pos hopen]
    simp only [hb, hfind]
  rw [hstep]
  split
  · exact (deliverWhile_enough 15 _ (by rw [deliverOne_inFlight_length]; omega)).symm
  · next hpacing =>
    refine deliverWhile_closed 15 (deliveryOpen_eq_false.2 (.inr (.inr (.inr (.inr (.inr (.inl ?_)))))))
    rw [still_label (deliverOne_still b u s)]
    simp [State.sentInFlight, hpacing, State.timer]

/-- R147: what the delivery events are. -/
theorem deliveries_delivers (s : State) : s.delivers (deliveries s) := by
  constructor
  · intro h
    have hclosed : s.deliveryOpen = false ∨ ∀ u ∈ s.label.queue, holdsLabel s.label.inFlight u.number = true := by
      rw [deliveryOpen_eq_false]
      simpa only [or_assoc] using h
    rcases hclosed with hclosed | hheld
    · exact deliverWhile_closed 16 hclosed
    · exact deliverWhile_nothing 16 (List.find?_eq_none.2 fun u hu => by
        rw [deliverable_eq_false.2 (hheld u hu)]; exact Bool.false_ne_true)
  · intro b before after u hrun hwindow hup hb hcredit hpacing hroom hqueue hbefore hu
    have hopen : s.deliveryOpen = true := by
      simp [State.deliveryOpen, hrun, hwindow, hup, hb, hcredit, hpacing, hroom]
    refine ⟨deliverOne b u s, deliveries_eq hopen hb (find_deliverable hqueue hbefore hu), ?_, fun hroom => ?_⟩
    · rw [deliverOne_still, State.sentInFlight, eraseP_deliverable hqueue hbefore hu]
      rfl
    · rw [deliverOne_room u hrun hup hb hroom]
      exact ⟨rfl, rfl⟩

/-! ## PORTS (R3) -/

theorem serviceOf_eq_iff (a b : Service) : serviceOf a = serviceOf b ↔ max 1 a.toNat = max 1 b.toNat := by
  have htoNat (v : Service) : (serviceOf v).toNat = max 1 v.toNat := by
    unfold serviceOf
    split
    · next h => rw [h]; rfl
    · next h =>
      have hpos : v.toNat ≠ 0 := fun h0 => h (BitVec.eq_of_toNat_eq h0)
      omega
  rw [← htoNat, ← htoNat, BitVec.toNat_inj]

theorem forbiddenType_eq_true (w : BitVec 16) : forbiddenType w = true
    ↔ w.toNat < 0x0600 ∨ w ∈ [0x0800, 0x0806, 0x8100, 0x88A8, 0x9100] := by
  simp only [forbiddenType, Bool.or_eq_true, decide_eq_true_eq, beq_iff_eq, List.mem_cons, List.not_mem_nil, or_false,
    or_assoc]

theorem writePortsEntry_taken {w : PortsWrite} {g : Segment} (hg : segmentOf w.managementPort = some g)
    (htype : forbiddenType w.managementType = false) (hne : serviceOf w.agentService ≠ serviceOf w.nightService)
    (s : State) :
    writePortsEntry w s = doneClamped (portsClamped w) (deliveries (s.withPorts (portSettingsOf w g))) := by
  unfold writePortsEntry
  rw [hg]
  simp only [htype, if_neg hne, Bool.false_eq_true, if_false]

theorem writePortsEntry_refused {w : PortsWrite} (h : segmentOf w.managementPort = none
      ∨ forbiddenType w.managementType = true ∨ serviceOf w.agentService = serviceOf w.nightService) (s : State) :
    writePortsEntry w s = refused .badValue s := by
  unfold writePortsEntry
  split
  · rfl
  · next hg =>
    rw [hg] at h
    split
    · rfl
    · next htype => rw [if_pos ((h.resolve_left nofun).resolve_left htype)]

/-- R3: whether a field of a PORTS write is clamped. -/
theorem okUnless_portsClamped (w : PortsWrite) : okUnless (portsClamped w)
    = if w.agentService = 0 ∨ w.nightService = 0 ∨ w.labelService = 0
        ∨ (w.baseStation.any fun b => b.service == 0) = true then .adjusted else .ok := by
  unfold okUnless portsClamped
  cases w.baseStation <;> simp only [Bool.or_eq_true, beq_iff_eq, or_assoc, Option.any_none, Option.any_some]

/-! ## OFFICE STATIONS (R4) -/

/-- R4: two enabled entries at different places hold one address, the first of them at a written place. -/
theorem officeConflict_eq_true (v : Vector OfficeStation 8) (first count : Nat) :
    officeConflict v first count = true ↔ ∃ i j : Fin 8, i ≠ j ∧ first ≤ i.val ∧ i.val < first + count
      ∧ v[i].enabled = true ∧ v[j].enabled = true ∧ v[i].address = v[j].address := by
  simp only [officeConflict, List.any_eq_true, List.mem_finRange, true_and, Bool.and_eq_true, decide_eq_true_eq,
    bne_iff_ne, beq_iff_eq]
  constructor
  · rintro ⟨i, ⟨⟨hlow, hhigh⟩, hi⟩, j, ⟨hne, hj⟩, heq⟩
    exact ⟨i, j, hne, hlow, hhigh, hi, hj, heq.symm⟩
  · rintro ⟨i, j, hne, hlow, hhigh, hi, hj, heq⟩
    exact ⟨i, ⟨⟨hlow, hhigh⟩, hi⟩, j, ⟨hne, hj⟩, heq.symm⟩

/-- R4: the entries written, in the places from the first on. -/
theorem eq_writeRun {n place : Nat} {α : Type} {v office : Vector α n} {ws : List α}
    (h : ∀ i : Fin n, office[i] =
      if place ≤ i.val ∧ i.val < place + ws.length then ws.getD (i.val - place) v[i] else v[i]) :
    office = writeRun v place ws := by
  ext i hi
  have hi' := h ⟨i, hi⟩
  simp only [Fin.getElem_fin] at hi'
  simp only [hi', writeRun, Vector.getElem_ofFn, Fin.getElem_fin, List.getD_eq_getElem?_getD]
  by_cases hlow : place ≤ i
  · by_cases hhigh : i < place + ws.length
    · simp [hlow, hhigh]
    · rw [if_neg (fun hboth => hhigh hboth.2), if_pos hlow, List.getElem?_eq_none (by omega)]
      rfl
  · simp [hlow]

theorem writeOfficeRun_taken {first : BitVec 32} {ws : List OfficeStation} (hws : ws ≠ [])
    (hlen : first.toNat + ws.length ≤ 8) (s : State) : writeOfficeRun first ws s
      = if officeConflict (writeRun s.office first.toNat ws) first.toNat ws.length then refused .badValue s
        else done { s with office := writeRun s.office first.toNat ws } := by
  have hpos : 0 < ws.length := List.length_pos_iff.2 hws
  have hfault : indexFault 0 7 first.toNat ws.length = none := by
    unfold indexFault
    rw [if_neg (by omega), if_neg (by omega)]
  unfold writeOfficeRun writeMany
  simp [hfault, hws]

/-! ## The obligation -/

section
variable {q : Requester} (hlock : s.holds q.party = true)
include hlock

theorem exec_writePorts (first : BitVec 32) (ws : List PortsWrite) : exec (.writePorts q first ws) s
    = .next (respond q 0x04 (writePortsRun first ws (takeRequest (.writePorts q first ws) s)).renewed) :=
  congrArg Host.Outcome.next (lockedCommand_of_holds q _ _ _ s hlock)

theorem exec_writeOfficeStations (first : BitVec 32) (ws : List OfficeStation) : exec (.writeOfficeStations q first ws) s
    = .next (respond q 0x04 (writeOfficeRun first ws (takeRequest (.writeOfficeStations q first ws) s)).renewed) :=
  congrArg Host.Outcome.next (lockedCommand_of_holds q _ _ _ s hlock)

end

/-- Settles O48: the two writes, entry by entry. -/
theorem portAndOfficeWrites : Obligations.PortAndOfficeWrites := by
  intro q first s hlock
  refine ⟨fun w g service hservice hg hlow htype hne => ?taken, fun w h => ?badValue, fun ws hfirst => ?badIndex,
    fun ws office hws hlen hoffice => ?office⟩
  case taken =>
    obtain rfl : service = serviceOf := funext hservice
    have hallowed : forbiddenType w.managementType = false :=
      Bool.eq_false_iff.2 fun h => ((forbiddenType_eq_true _).1 h).elim (by omega) htype
    rw [exec_writePorts hlock, writePortsRun, writeSingle_one, writePortsEntry_taken hg hallowed hne]
    refine ⟨_, by rw [← okUnless_portsClamped]; rfl, ?_⟩
    obtain ⟨queue, htake⟩ := takeRequest_eq (.writePorts q 0 [w]) s
    rw [htake]
    exact deliveries_delivers _
  case badValue =>
    rw [exec_writePorts hlock, writePortsRun, writeSingle_one, writePortsEntry_refused]
    · rfl
    · rw [forbiddenType_eq_true, serviceOf_eq_iff]
      simpa only [or_assoc] using h
  case badIndex =>
    have hfault : (indexFault 0 0 first.toNat ws.length).isSome = true := by
      unfold indexFault
      rw [if_pos (.inr (by bv_omega))]
      rfl
    rw [exec_writePorts hlock, show writePortsRun first ws _ = refused .badIndex _ from if_pos hfault]
    rfl
  case office =>
    obtain ⟨queue, htake⟩ := takeRequest_eq (.writeOfficeStations q first ws) s
    have hsame : writeRun (takeRequest (.writeOfficeStations q first ws) s).office first.toNat ws = office := by
      rw [htake, eq_writeRun hoffice]
    rw [exec_writeOfficeStations hlock, writeOfficeRun_taken hws hlen, hsame]
    constructor
    · intro hdistinct
      have hok : officeConflict office first.toNat ws.length ≠ true := fun h =>
        let ⟨i, j, hne, hlow, hhigh, hi, hj, heq⟩ := (officeConflict_eq_true _ _ _).1 h
        hdistinct i j hne hlow hhigh hi hj heq
      rw [if_neg hok]
      rfl
    · intro i j hne hlow hhigh hi hj heq
      rw [if_pos ((officeConflict_eq_true _ _ _).2 ⟨i, j, hne, hlow, hhigh, hi, hj, heq⟩)]
      rfl

end Sys2Proof.Machine

/-! SUPPORT. The source check on GUEST (R71 to R73), and what a guest frame changes after it. -/

namespace Sys2Proof.Machine

/- The proofs below run one after another: run together, their waiting threads outgrow the memory a check may use. -/
set_option Elab.async false

variable {s t u : State}

/-! ## The source check (R71 to R73) -/

theorem isGateway_iff (s : State) (g : Segment) (a : NetAddr) :
    s.isGateway g a = true ↔ a ≠ 0 ∧ s.ports.gateways.get g = a := by
  simp [State.isGateway]

/-- R71: the guest range. -/
theorem guestRange_iff (s : State) (a : NetAddr) : s.guestRange a = true ↔ s.inGuestRange a := by
  simp only [State.guestRange, State.inGuestRange, Bool.and_eq_true, beq_iff_eq, bne_iff_ne, Bool.not_eq_true',
    ← Bool.not_eq_true, isGateway_iff, and_assoc, not_and]
  constructor
  · rintro ⟨hbase, hzero, hones, hgate⟩
    exact ⟨hbase, hzero, hones, hgate hzero⟩
  · rintro ⟨hbase, hzero, hones, hgate⟩
    exact ⟨hbase, hzero, hones, fun _ => hgate⟩

theorem guestEntry_some {station : Station} {before after : List GuestEntry} {e : GuestEntry}
    (htable : s.guest.table = before ++ e :: after) (he : e.station = station)
    (hbefore : ∀ x ∈ before, x.station ≠ station) : s.guestEntry station = some e := by
  have hnone : before.find? (·.station == station) = none := List.find?_eq_none.2 fun x hx => by simp [hbefore x hx]
  rw [State.guestEntry, htable, List.find?_append, hnone, List.find?_cons_of_pos (by simp [he])]
  rfl

theorem guestEntry_none {station : Station} (h : ∀ x ∈ s.guest.table, x.station ≠ station) :
    s.guestEntry station = none := List.find?_eq_none.2 fun x hx => by simp [h x hx]

theorem any_address_iff (table : List GuestEntry) (a : NetAddr) :
    table.any (·.address == a) = true ↔ ∃ x ∈ table, x.address = a := by
  simp

/-- R73: the entries but one of a station. -/
theorem without_middle {before after : List GuestEntry} {e : GuestEntry} {station : Station} (he : e.station = station)
    (hother : ∀ x ∈ before ++ after, x.station ≠ station) : without (before ++ e :: after) station = before ++ after := by
  have hkeep (l : List GuestEntry) (h : ∀ x ∈ l, x.station ≠ station) : l.filter (·.station != station) = l :=
    List.filter_eq_self.2 fun x hx => by simp [h x hx]
  unfold without
  rw [List.filter_append, List.filter_cons_of_neg (by simp [he]),
    hkeep before fun x hx => hother x (List.mem_append_left _ hx),
    hkeep after fun x hx => hother x (List.mem_append_right _ hx)]

/-- R73: the unbarred entry nearest the tail. -/
theorem find_unbarred_reverse {before after : List GuestEntry} {v : GuestEntry} (hv : v.barred = false)
    (hafter : ∀ x ∈ after, x.barred = true) : (before ++ v :: after).reverse.find? (fun e => !e.barred) = some v := by
  have hnone : after.reverse.find? (fun e => !e.barred) = none :=
    List.find?_eq_none.2 fun x hx => by simp [hafter x (List.mem_reverse.1 hx)]
  rw [List.reverse_append, List.reverse_cons, List.append_assoc, List.find?_append, hnone,
    List.singleton_append, List.find?_cons_of_pos (by simp [hv])]
  rfl

theorem victim_of_idle {before after : List GuestEntry} {v : GuestEntry} (htable : s.guest.table = before ++ v :: after)
    (hv : v.barred = false) (hafter : ∀ x ∈ after, x.barred = true)
    (hidle : 1000 * s.guest.settings.minIdle ≤ (s.tick - v.lastActive).toNat) : s.guest.victim s.tick = some v := by
  unfold GuestUnit.victim
  rw [htable, find_unbarred_reverse hv hafter]
  exact if_pos hidle

/-- R73: a table without an unbarred entry, or whose last one is not idle long enough, has no victim. -/
theorem victim_eq_none (h : (∀ e ∈ s.guest.table, e.barred = true) ∨ ∃ before after v,
      s.guest.table = before ++ v :: after ∧ v.barred = false ∧ (∀ x ∈ after, x.barred = true)
      ∧ (s.tick - v.lastActive).toNat < 1000 * s.guest.settings.minIdle) : s.guest.victim s.tick = none := by
  unfold GuestUnit.victim
  rcases h with hbarred | ⟨before, after, v, htable, hv, hafter, hidle⟩
  · rw [show s.guest.table.reverse.find? (fun e => !e.barred) = none from
      List.find?_eq_none.2 fun x hx => by simp [hbarred x (List.mem_reverse.1 hx)]]
  · rw [htable, find_unbarred_reverse hv hafter]
    exact if_neg (Nat.not_le.2 hidle)

section
variable {station : Station} {address : NetAddr} {n : Nat} {next : State → State}

/-- R71: with the guest state open and an address of the guest range the table decides. -/
theorem guestSource_known (hopen : s.levels.guestState.value = .opened) (hrange : s.inGuestRange address)
    {e : GuestEntry} (h : s.guestEntry station = some e) :
    guestSource station address n next s = knownGuest e address n next s := by
  unfold guestSource
  dsimp only
  rw [if_neg (by rw [hopen]; decide), if_neg (by simp [(guestRange_iff s address).2 hrange]), h]

theorem guestSource_unknown (hopen : s.levels.guestState.value = .opened) (hrange : s.inGuestRange address)
    (h : s.guestEntry station = none) :
    guestSource station address n next s = unknownGuest station address n next s := by
  unfold guestSource
  dsimp only
  rw [if_neg (by rw [hopen]; decide), if_neg (by simp [(guestRange_iff s address).2 hrange]), h]

/-- R72: a known station's frame. -/
theorem knownGuest_passes {e : GuestEntry} (hbarred : e.barred = false)
    (haddress : e.address = address ∨ ∀ x ∈ s.guest.table, x.address ≠ address) :
    knownGuest e address n next s
      = next (s.withTable (e.passed address n s.tick :: without s.guest.table e.station)) := by
  unfold knownGuest
  dsimp only
  rw [if_neg (by simp [hbarred]), if_neg]
  rintro ⟨hne, hany⟩
  obtain ⟨x, hx, hxa⟩ := (any_address_iff _ _).1 hany
  exact haddress.elim hne fun h => h x hx hxa

/-- R71 to R73: a frame that passes goes on in the state after the check. -/
theorem guestSource_passes (h : s.guestPasses t station address n) :
    guestSource station address n next s = next t := by
  obtain ⟨hopen, hrange, ⟨before, after, e, htable, he, hother, hbarred, haddress, ht⟩
    | ⟨e, he, hunknown, hroom⟩⟩ := h
  · have hentry := guestEntry_some htable he fun x hx => hother x (List.mem_append_left _ hx)
    rw [guestSource_known hopen hrange hentry]
    refine (knownGuest_passes hbarred haddress).trans ?_
    rw [htable, he, without_middle he hother, ht]
    rfl
  · have hnone : s.guest.table.any (·.address == address) ≠ true := fun hany =>
      let ⟨x, hx, hxa⟩ := (any_address_iff _ _).1 hany
      (hunknown x hx).2 hxa
    rw [guestSource_unknown hopen hrange (guestEntry_none fun x hx => (hunknown x hx).1)]
    unfold unknownGuest
    dsimp only
    rw [if_neg hnone]
    rcases hroom with ⟨hlt, ht⟩ | ⟨hfull, before, after, v, w, htable, hv, hafter, hother, hidle, hw, ht⟩
    · rw [if_pos hlt, ht, he]
      rfl
    · have hwt : offer (occur .evicted (receivedOrigin .guest station))
          (s.withTable (without s.guest.table v.station)) = w := by
        rw [htable, without_middle rfl hother, hw]
        rfl
      have hstill : w.still = ({ s with guest := { s.guest with table := before ++ after } } : State).still := by
        rw [hw]; exact offer_still _ _
      rw [if_neg (by omega), victim_of_idle htable hv hafter hidle]
      dsimp only
      have hnew : newGuest w.guest.settings station address n w.tick = e := by
        rw [still_guest hstill, still_tick hstill, he]
        rfl
      rw [hwt, admitGuest, hnew, State.withTable, still_guest hstill, ht]

/-- R71 to R73: what a frame that passes leaves: its station's entry at the head, and no other. -/
theorem guestPasses_head (h : s.guestPasses t station address n) :
    ∃ e rest, t.guest = { s.guest with table := e :: rest } ∧ e.station = station
      ∧ (∀ x ∈ rest, x.station ≠ station) ∧ t.ports = s.ports ∧ t.agent = s.agent := by
  obtain ⟨_, _, ⟨before, after, e, htable, he, hother, _, _, ht⟩ | ⟨e, he, hunknown, hroom⟩⟩ := h
  · rw [ht]
    exact ⟨_, _, rfl, he, hother, rfl, rfl⟩
  · have hstation : e.station = station := by rw [he]
    rcases hroom with ⟨_, ht⟩ | ⟨_, before, after, v, w, htable, _, _, _, _, hw, ht⟩
    · rw [ht]
      exact ⟨_, _, rfl, hstation, fun x hx => (hunknown x hx).1, rfl, rfl⟩
    · have hrest : ∀ x ∈ before ++ after, x.station ≠ station := fun x hx => (hunknown x (by
        rw [htable]
        exact (List.sublist_cons_self v after).append_left before |>.subset hx)).1
      have hstill : w.still = ({ s with guest := { s.guest with table := before ++ after } } : State).still := by
        rw [hw]; exact offer_still _ _
      have hports : w.ports = s.ports := (still_ports hstill).trans rfl
      have hagent : w.agent = s.agent := (still_agent hstill).trans rfl
      rw [ht]
      exact ⟨_, _, rfl, hstation, hrest, hports, hagent⟩

end

/-! ## What follows the source check (R75) -/

/-- Whether a change of an entry is one of its meter's level and last tick, the level no higher than before or a depth. -/
def MeterChange (depth : Nat) (f : GuestEntry → GuestEntry) : Prop :=
  ∀ e, ∃ level now, level ≤ max e.level depth ∧ f e = { e with level := level, meterTick := now }

theorem meterChange_refill (g : GuestSettings) (now : Tick) (spent : Nat) :
    MeterChange g.depth fun e => { e.refill g now with level := (e.refill g now).level - spent } := fun _ =>
  ⟨_, now, (Nat.sub_le _ _).trans ((Nat.min_le_left _ _).trans (Nat.le_max_right _ _)), rfl⟩

/-- R75: a state whose guest table differs by a station's own meter at most. -/
def OwnMeterOnly (station : Station) (s t : State) : Prop :=
  ∃ f, MeterChange s.guest.settings.depth f ∧ t.guest = (s.withGuest station f).guest

theorem OwnMeterOnly.of_guest (station : Station) (h : t.guest = s.guest) : OwnMeterOnly station s t := by
  refine ⟨id, fun e => ⟨e.level, e.meterTick, Nat.le_max_left _ _, rfl⟩, h.trans ?_⟩
  simp [State.withGuest, updateGuest]

theorem OwnMeterOnly.of_still (station : Station) (h : t.still = s.still) : OwnMeterOnly station s t :=
  .of_guest station (still_guest h)

theorem OwnMeterOnly.after {station : Station} (h : u.guest = s.guest) (ht : OwnMeterOnly station u t) :
    OwnMeterOnly station s t := by
  obtain ⟨f, hf, htable⟩ := ht
  exact ⟨f, h ▸ hf, htable.trans (by rw [State.withGuest, h]; rfl)⟩

theorem setMeter_guest (s : State) (i : Meter) (m : ShareMeter) : (s.setMeter i m).guest = s.guest :=
  (quiet_guest (setMeter_quiet s i m)).trans rfl

/-- R75: the joint test changes the station's own meter alone. -/
theorem jointTest_ownMeterOnly (station : Station) (f : Frame) (s : State) :
    OwnMeterOnly station s (jointTest station f s) := by
  have hrefill : MeterChange s.guest.settings.depth fun e => e.refill s.guest.settings s.tick :=
    meterChange_refill s.guest.settings s.tick 0
  unfold jointTest
  dsimp only
  split
  · exact .of_guest station ((still_guest (offer_still _ _)).trans (setMeter_guest _ _ _))
  · split
    · exact ⟨_, hrefill, (still_guest (offer_still _ _)).trans (setMeter_guest _ _ _)⟩
    · split
      · exact ⟨_, meterChange_refill s.guest.settings s.tick f.counted,
          (still_guest (presentUplink_still _ _ _)).trans (setMeter_guest _ _ _)⟩
      · exact ⟨_, hrefill, (still_guest (offer_still _ _)).trans (setMeter_guest _ _ _)⟩

/-- R25, R26: the state with a frame looked up and the hit counted. -/
def State.lookedUp (s : State) (p : Passage) : State :=
  offer (occur (hitName p.port (lookupCopy s.classifier p.port p.ip))
      (copyOrigin p.port (sourceStation p.bytes) (lookupCopy s.classifier p.port p.ip)))
    { s with classifier := s.classifier.hit p.port (lookupCopy s.classifier p.port p.ip) }

theorem lookedUp_still (s : State) (p : Passage) : (s.lookedUp p).still
    = ({ s with classifier := s.classifier.hit p.port (lookupCopy s.classifier p.port p.ip) } : State).still :=
  offer_still _ _

/-- R27 to R32: the action of a lookup copy. -/
def takeAction (p : Passage) (copy : LookupCopy) (s : State) : State :=
  match copy.action with
  | .forward => forwardFrame p copy s
  | .track => trackFrame p copy s
  | .spool => spoolFrame p copy s
  | .drop => drop .denied (copyOrigin p.port (sourceStation p.bytes) copy) s

/-- R25, R27: a frame looked up goes on by the action of its copy. -/
theorem lookupFrame_eq (p : Passage) (s : State) :
    lookupFrame p s = takeAction p (lookupCopy s.classifier p.port p.ip) (s.lookedUp p) := rfl

/-- R31: a Spool frame off TILL is dropped. -/
theorem spoolFrame_unsuitable {p : Passage} {copy : LookupCopy} (hp : p.port ≠ .till) :
    spoolFrame p copy s = drop .unsuitable (copyOrigin p.port (sourceStation p.bytes) copy) s := if_pos hp

section
variable {p : Passage} (hp : p.port = .guest)
include hp

theorem deliverForwarded_ownMeterOnly (copy : LookupCopy) (f : Frame) (s : State) :
    OwnMeterOnly (sourceStation p.bytes) s (deliverForwarded p copy f s) := by
  unfold deliverForwarded
  split
  case h_5 => rw [hp]; exact jointTest_ownMeterOnly _ f s
  all_goals exact .of_still _ (presentEgress_still _ _ _)

theorem forwardFrame_ownMeterOnly (copy : LookupCopy) (s : State) :
    OwnMeterOnly (sourceStation p.bytes) s (forwardFrame p copy s) := by
  unfold forwardFrame
  dsimp only
  split
  · exact .of_still _ (drop_still _ _ _)
  · split
    · exact .of_still _ (drop_still _ _ _)
    · exact deliverForwarded_ownMeterOnly hp copy _ s

/-- R30: a Track frame off TILL is dropped. -/
theorem trackFrame_off_till (copy : LookupCopy) (s : State) : (trackFrame p copy s).still = s.still := by
  unfold trackFrame
  dsimp only
  rw [if_pos (show p.port ≠ .till by rw [hp]; decide)]
  split
  · exact drop_still _ _ _
  · exact drop_still _ _ _

theorem lookupFrame_ownMeterOnly (s : State) : OwnMeterOnly (sourceStation p.bytes) s (lookupFrame p s) := by
  rw [lookupFrame_eq]
  refine .after (u := s.lookedUp p) ((still_guest (lookedUp_still s p)).trans rfl) ?_
  unfold takeAction
  split
  · exact forwardFrame_ownMeterOnly hp _ _
  · exact .of_still _ (trackFrame_off_till hp _ _)
  · rw [spoolFrame_unsuitable (by rw [hp]; exact nofun)]
    exact .of_still _ (drop_still _ _ _)
  · exact .of_still _ (drop_still _ _ _)

/-- R10: on GUEST no block of the part takes a frame, and one for a gateway address is dropped. -/
theorem deliverLocal_guest (hrun : s.running = true) : deliverLocal p s
    = if s.isAnyGateway p.ip.destination then drop .unsupported (receivedOrigin .guest (sourceStation p.bytes)) s
      else lookupFrame p s := by
  unfold deliverLocal deliverRunning passOn
  simp only [hp, hrun, reduceCtorEq, false_and, if_false, if_true]

theorem deliverLocal_ownMeterOnly (hrun : s.running = true) :
    OwnMeterOnly (sourceStation p.bytes) s (deliverLocal p s) := by
  rw [deliverLocal_guest hp hrun]
  split
  · exact .of_still _ (drop_still _ _ _)
  · exact lookupFrame_ownMeterOnly hp s

end

theorem isAnyGateway_iff (s : State) (a : NetAddr) :
    s.isAnyGateway a = true ↔ a ≠ 0 ∧ ∃ g, s.ports.gateways.get g = a := by
  have hall : ∀ g : Segment, g ∈ segments := by intro g; cases g <;> decide
  simp only [State.isAnyGateway, List.any_eq_true, isGateway_iff]
  exact ⟨fun ⟨g, _, hne, hg⟩ => ⟨hne, g, hg⟩, fun ⟨hne, g, hg⟩ => ⟨g, hall g, hne, hg⟩⟩

/-! ## The refusals of the source check (R71 to R73) -/

section
variable {station : Station} {address : NetAddr} {n : Nat} {next : State → State}

theorem guestSource_closed (h : s.levels.guestState.value = .closed) :
    guestSource station address n next s = drop .closed (receivedOrigin .guest station) s := if_pos h

theorem guestSource_spoof (hopen : s.levels.guestState.value = .opened) (h : ¬ s.inGuestRange address) :
    guestSource station address n next s = drop .guestSpoof (receivedOrigin .guest station) s := by
  unfold guestSource
  dsimp only
  rw [if_neg (by rw [hopen]; decide), if_pos (by simpa [← guestRange_iff] using h)]

theorem knownGuest_barred {e : GuestEntry} (h : e.barred = true) :
    knownGuest e address n next s = drop .barred (receivedOrigin .guest e.station) s := if_pos h

theorem knownGuest_conflict {e : GuestEntry} (h : e.barred = false) (hne : e.address ≠ address)
    (hheld : ∃ x ∈ s.guest.table, x.address = address) :
    knownGuest e address n next s = drop .guestConflict (receivedOrigin .guest e.station) s := by
  unfold knownGuest
  dsimp only
  rw [if_neg (by simp [h]), if_pos ⟨hne, (any_address_iff _ _).2 hheld⟩]

theorem unknownGuest_conflict (hheld : ∃ x ∈ s.guest.table, x.address = address) :
    unknownGuest station address n next s = drop .guestConflict (receivedOrigin .guest station) s :=
  if_pos ((any_address_iff _ _).2 hheld)

theorem unknownGuest_full (hnone : ∀ x ∈ s.guest.table, x.address ≠ address) (hfull : 128 ≤ s.guest.table.length)
    (hvictim : s.guest.victim s.tick = none) :
    unknownGuest station address n next s = drop .guestFull (receivedOrigin .guest station) s := by
  unfold unknownGuest
  dsimp only
  rw [if_neg, if_neg (by omega), hvictim]
  rintro hany
  obtain ⟨x, hx, hxa⟩ := (any_address_iff _ _).1 hany
  exact hnone x hx hxa

end

/-! ## The obligation -/

/-- R8, R71: in RUNNING the source check on GUEST is that of the guest table. -/
theorem sourceCheck_guest (hrun : s.running = true) (station : Station) (address : NetAddr) (n : Nat)
    (next : Option (Fin 32) → State → State) :
    sourceCheck .guest station address n next s = guestSource station address n (next none) s := by
  unfold sourceCheck
  rw [if_neg (by simp [hrun])]

/-- R6, R7: an IPv4 frame for the part goes to the source check. -/
theorem sortFrame_ipv4 {port : Segment} {bs : Bytes} {ip : Ipv4} (hto : word48 bs 0 ≠ broadcastStation)
    (htype : word16 bs 12 = 0x0800) (hip : parseIpv4 bs = some ip) : sortFrame port bs s
      = sourceCheck port (word48 bs 6) ip.source bs.length (fun till s => deliverLocal ⟨port, bs, ip, till⟩ s) s := by
  unfold sortFrame ipv4Frame
  dsimp only
  rw [if_pos htype, if_neg hto, hip]
  rfl

/-- R6, R11: an ARP frame goes to the source check with its sender addresses. -/
theorem sortFrame_arp {port : Segment} {bs : Bytes} (htype : word16 bs 12 = 0x0806) : sortFrame port bs s
      = sourceCheck port (word48 bs 6) (word32 bs 28) bs.length (fun _ s => arpFrame port bs s) s := by
  unfold sortFrame
  dsimp only
  rw [if_neg (by rw [htype]; decide), if_pos htype]
  rfl

/-- R5: a good frame addressed to the part is sorted once it is counted. -/
theorem exec_frameReceived {port : Segment} {bs : Bytes} (hup : s.up port = true) (hmin : 60 ≤ bs.length)
    (hmax : bs.length ≤ 1518) (hto : word48 bs 0 = s.station ∨ word48 bs 0 = broadcastStation) :
    exec (.frameReceived port true bs) s
      = .next (sortFrame port bs (offer ⟨.received port, 1, ⟨false, none, port, some (word48 bs 6)⟩, none⟩ s)) :=
  congrArg Host.Outcome.next ((receiveFrame_good hup hmin hmax).trans (if_pos ((addressedHere_iff s bs).2 hto)))

/-- Settles O25: the frame goes through the source check, branch by branch. -/
theorem guestStationIsAdmittedAtTheHead : Obligations.GuestStationIsAdmittedAtTheHead := by
  rintro bs address toGateway next origin received s hup hrun hmin hmax rfl hreceived hframe
  have hstill : received.still = s.still := by rw [hreceived]; exact offer_still _ _
  have hrun' : received.running = true := by rw [State.running, still_agent hstill]; exact hrun
  have hexec : exec (.frameReceived .guest true bs) s
      = .next (guestSource (word48 bs 6) address bs.length next received) := by
    rcases hframe with ⟨ip, hto, hne, htype, hip, rfl, rfl, _⟩ | ⟨hto, htype, rfl, rfl, _⟩
    · rw [exec_frameReceived hup hmin hmax (.inl hto), ← hreceived, sortFrame_ipv4 (hto ▸ hne) htype hip,
        sourceCheck_guest hrun']
    · rw [exec_frameReceived hup hmin hmax hto, ← hreceived, sortFrame_arp htype, sourceCheck_guest hrun']
  constructor
  · intro u hpasses
    obtain ⟨e, rest, hguest, he, hrest, hports, hagent⟩ := guestPasses_head hpasses
    have hrunu : u.running = true := by rw [State.running, hagent]; exact hrun'
    refine ⟨by rw [hexec, guestSource_passes hpasses], fun hgate => ?_, fun e' rest' htable => ?_⟩
    · rcases hframe with ⟨ip, _, _, _, _, _, rfl, hiff⟩ | ⟨_, _, _, _, hno⟩
      · have hgateway : u.isAnyGateway ip.destination = true := by
          rw [isAnyGateway_iff, hports, still_ports hstill]
          exact hiff.1 hgate
        rw [deliverLocal_guest rfl hrunu]
        exact if_pos hgateway
      · exact absurd hgate hno
    · have hown : OwnMeterOnly (word48 bs 6) u (next u) := by
        rcases hframe with ⟨ip, _, _, _, _, _, rfl, _⟩ | ⟨_, _, _, rfl, _⟩
        · exact deliverLocal_ownMeterOnly (p := ⟨.guest, bs, ip, none⟩) rfl hrunu
        · exact .of_still _ (arpFrame_still _ _ _)
      obtain ⟨f, hf, hnext⟩ := hown
      obtain ⟨rfl, rfl⟩ : e = e' ∧ rest = rest' := by simpa [hguest] using htable
      obtain ⟨level, now, hlevel, hfe⟩ := hf e
      have hkeep : rest.map (fun x => if x.station = word48 bs 6 then f x else x) = rest :=
        (List.map_congr_left fun x hx => if_neg (hrest x hx)).trans (List.map_id' rest)
      rw [hguest, still_guest hstill] at hlevel
      refine ⟨level, now, hlevel, ?_⟩
      rw [hnext, State.withGuest, hguest, updateGuest, List.map_cons, if_pos he, hkeep, hfe, still_guest hstill]
  · intro reason hreason
    have hdrop : guestSource (word48 bs 6) address bs.length next received
        = drop reason (receivedOrigin .guest (word48 bs 6)) received := by
      have hrange : s.inGuestRange address ↔ received.inGuestRange address := by
        rw [State.inGuestRange, State.inGuestRange, still_guest hstill, still_ports hstill]
      rw [← still_levels hstill, ← still_guest hstill, ← still_tick hstill, hrange] at hreason
      rcases hreason with ⟨hclosed, rfl⟩ | ⟨hopen, hspoof, rfl⟩ | ⟨hopen, hrange,
        ⟨before, after, e, htable, he, hbefore, ⟨hbarred, rfl⟩ | ⟨hbarred, hne, hheld, rfl⟩⟩
        | ⟨hunknown, hheld, rfl⟩ | ⟨hunknown, hfull, hvictim, rfl⟩⟩
      · exact guestSource_closed hclosed
      · exact guestSource_spoof hopen hspoof
      · rw [guestSource_known hopen hrange (guestEntry_some htable he hbefore), knownGuest_barred hbarred, he]
      · rw [guestSource_known hopen hrange (guestEntry_some htable he hbefore), knownGuest_conflict hbarred hne hheld, he]
      · rw [guestSource_unknown hopen hrange (guestEntry_none hunknown), unknownGuest_conflict hheld]
      · rw [guestSource_unknown hopen hrange (guestEntry_none fun x hx => (hunknown x hx).1),
          unknownGuest_full (fun x hx => (hunknown x hx).2) hfull (victim_eq_none hvictim)]
    rw [hexec, hdrop]
    exact ⟨rfl, (drop_still _ _ _).trans hstill⟩

end Sys2Proof.Machine

/-! SUPPORT. Frames for the part itself: ARP requests for a gateway address (R11), management frames and requests of the
collector (R12, R181, R182). -/

namespace Sys2Proof.Machine

/- The proofs below run one after another: run together, their waiting threads outgrow the memory a check may use. -/
set_option Elab.async false

variable {s t u v : State} {port : Segment} {bs : Bytes}

/-! ## Source checks that a frame passes (R8, R9) -/

/-- R9: no source check is applied on LABEL, OFFICE and UPLINK. -/
theorem sourceCheck_open (hp : port = .label ∨ port = .office ∨ port = .uplink) (a : Station) (b : NetAddr) (n : Nat)
    (next : Option (Fin 32) → State → State) (s : State) : sourceCheck port a b n next s = next none s := by
  unfold sourceCheck
  rcases hp with rfl | rfl | rfl
  all_goals
    dsimp only
    split <;> rfl

/-- R8: the enabled till of a station and an address. -/
theorem tillOf_isSome {a : Station} {b : NetAddr} : (∃ i, s.tillOf a b = some i)
    ↔ ∃ i : Fin 32, s.tills[i].enabled = true ∧ s.tills[i].station = a ∧ s.tills[i].address = b := by
  rw [← Option.isSome_iff_exists, State.tillOf, List.find?_isSome]
  simp only [List.mem_finRange, true_and, Bool.and_eq_true, beq_iff_eq, and_assoc]

theorem sourceCheck_till (hrun : s.running = true) {a : Station} {b : NetAddr} {i : Fin 32} (h : s.tillOf a b = some i)
    (n : Nat) (next : Option (Fin 32) → State → State) : sourceCheck .till a b n next s = next (some i) s := by
  unfold sourceCheck
  rw [if_neg (by simp [hrun]), h]

theorem sourceCheck_till_unknown (hrun : s.running = true) {a : Station} {b : NetAddr} (h : s.tillOf a b = none)
    (n : Nat) (next : Option (Fin 32) → State → State) :
    sourceCheck .till a b n next s = drop .unknownTill (receivedOrigin .till a) s := by
  unfold sourceCheck
  rw [if_neg (by simp [hrun]), h]

/-- R71 to R73: the source check on GUEST changes the guest table alone, and what `still` takes away. -/
theorem guestPasses_still {a : Station} {b : NetAddr} {n : Nat} (h : s.guestPasses t a b n) :
    t.still = ({ s with guest := t.guest } : State).still := by
  obtain ⟨_, _, ⟨_, _, _, _, _, _, _, _, ht⟩
    | ⟨e, _, _, ⟨_, ht⟩ | ⟨_, before, after, _, w, _, _, _, _, _, hw, ht⟩⟩⟩ := h
  · rw [ht]
  · rw [ht]
  · have hstill : w.still = ({ s with guest := { s.guest with table := before ++ after } } : State).still := by
      rw [hw]; exact offer_still _ _
    rw [ht]
    exact congrArg (fun x : State => { x with guest := { s.guest with table := e :: (before ++ after) } }) hstill

theorem withGuest_still (h : t.still = s.still) (g : GuestUnit) :
    ({ t with guest := g } : State).still = ({ s with guest := g } : State).still :=
  congrArg (fun x : State => { x with guest := g }) h

/-- R71 to R73: with no alert destination the source check on GUEST leaves the queues as they are. -/
theorem guestPasses_queues {a : Station} {b : NetAddr} {n : Nat} (h : s.guestPasses t a b n)
    (hd : s.alerts.destination = none) : t.egress = s.egress ∧ t.uplink = s.uplink := by
  obtain ⟨_, _, ⟨_, _, _, _, _, _, _, _, ht⟩
    | ⟨_, _, _, ⟨_, ht⟩ | ⟨_, before, after, _, w, _, _, _, _, _, hw, ht⟩⟩⟩ := h
  · rw [ht]; exact ⟨rfl, rfl⟩
  · rw [ht]; exact ⟨rfl, rfl⟩
  · have hegress : w.egress = s.egress := by
      rw [hw]
      exact offer_egress (s := { s with guest := { s.guest with table := before ++ after } }) hd _
    have huplink : w.uplink = s.uplink := by
      rw [hw]
      exact offer_uplink (s := { s with guest := { s.guest with table := before ++ after } }) hd _
    rw [ht]; exact ⟨hegress, huplink⟩

/-! ## The answer to an ARP request (R11, R194) -/

theorem arpFrame_answers (h14 : word16 bs 14 = 1) (h16 : word16 bs 16 = 0x0800) (h18 : byteAt bs 18 = 6)
    (h19 : byteAt bs 19 = 4) (h20 : word16 bs 20 = 1) (hne : word32 bs 38 ≠ 0)
    (hgate : s.ports.gateways.get port = word32 bs 38) : arpFrame port bs s = presentOn port (arpReply s port bs) s := by
  unfold arpFrame
  rw [if_pos]
  simp [arpAnswerable, h14, h16, h18, h19, h20, (isGateway_iff s port _).2 ⟨hne, hgate⟩]

theorem arpReply_bytes (hgate : s.ports.gateways.get port = word32 bs 38) : (arpReply s port bs).bytes
    = be48 (word48 bs 22) ++ be48 s.station ++ [0x08, 0x06, 0, 1, 8, 0, 6, 4, 0, 2] ++ be48 s.station
        ++ be32 (word32 bs 38) ++ be48 (word48 bs 22) ++ be32 (word32 bs 28) ++ List.replicate 18 0 := by
  rw [← hgate]
  simp only [arpReply, ethernetFrame, padFrame, arpReplyContents, List.append_assoc]
  rfl

/-! ## The request queue (R181, R182) -/

theorem joinRequests_full (a : Station) (r : Request) (h : 8 ≤ s.agent.queue.length) :
    joinRequests port a r s = offer (occur .requestDropped (receivedOrigin port a)) s := if_neg (Nat.not_lt.2 h)

/-- R177, R182: a local request joins the queue, and its source station becomes the alert destination. -/
theorem joinRequests_station (a b : Station) (p : Segment) (message : Bytes) (h : s.agent.queue.length < 8) :
    (joinRequests port a ⟨.station b p, message⟩ s).still
      = (s.withRequests (s.agent.queue ++ [⟨.station b p, message⟩]) (some b)).still := by
  rw [joinRequests_of_room port a _ h]
  exact alertTest_still _

/-- R182: a remote request joins the queue. -/
theorem joinRequests_datagram (a : Station) (b : NetAddr) (service : Service) (message : Bytes)
    (h : s.agent.queue.length < 8) : (joinRequests port a ⟨.datagram b service, message⟩ s).still
      = (s.withRequests (s.agent.queue ++ [⟨.datagram b service, message⟩]) s.alerts.destination).still := by
  rw [joinRequests_of_room port a _ h]
  rfl

/-- R6, R12: a frame of the management type on the management port is a local request. -/
theorem sortFrame_management (htype : word16 bs 12 = s.ports.managementType) (hip : s.ports.managementType ≠ 0x0800)
    (harp : s.ports.managementType ≠ 0x0806) :
    sortFrame s.ports.managementPort bs s = localRequest s.ports.managementPort bs s := by
  unfold sortFrame
  dsimp only
  rw [if_neg (htype ▸ hip), if_neg (htype ▸ harp), if_pos ⟨htype, rfl⟩]

/-- R181: which datagrams for the agent service are requests. -/
theorem remoteRequest_eq (bs : Bytes) (ip : Ipv4) (s : State) : remoteRequest bs ip s
    = if udpChecksumAccepted bs ip = true ∧ s.night.settings.collector ≠ 0
          ∧ ip.source = s.night.settings.collector ∧ 3 ≤ (udpPayload bs ip).length then
        joinRequests .uplink (sourceStation bs) ⟨.datagram ip.source (ip.sourceService.getD 0), udpPayload bs ip⟩ s
      else drop .unsupported (receivedOrigin .uplink (sourceStation bs)) s := by
  unfold remoteRequest State.remoteAllowed
  simp only [Bool.and_eq_true, bne_iff_ne, beq_iff_eq, decide_eq_true_eq, and_assoc]

/-- R10: an IPv4 frame for the agent service on UPLINK is a remote request. -/
theorem sortFrame_remote {ip : Ipv4} (hto : word48 bs 0 ≠ broadcastStation) (htype : word16 bs 12 = 0x0800)
    (hip : parseIpv4 bs = some ip) (hfor : forService s ⟨.uplink, bs, ip, none⟩ s.ports.agentService = true) :
    sortFrame .uplink bs s = remoteRequest bs ip s := by
  rw [sortFrame_ipv4 hto htype hip, sourceCheck_uplink]
  unfold deliverLocal
  exact if_pos ⟨rfl, hfor⟩

/-! ## The obligation -/

/-- R11: an ARP request for the gateway address in a state past the source check that keeps the queues. -/
theorem arpFrame_answered (hstill : v.still = ({ s with guest := v.guest } : State).still) (hegress : v.egress = s.egress)
    (huplink : v.uplink = s.uplink) (hup : s.up port = true)
    (hanswer : arpFrame port bs v = presentOn port (arpReply v port bs) v) :
    (∀ p : EgressPort, egressSegment p = port → (s.egress.get p).length < 64 →
        (arpFrame port bs v).egress = s.egress.set p (s.egress.get p ++ [arpReply v port bs])
          ∧ (arpFrame port bs v).uplink = s.uplink)
      ∧ (port = .uplink → s.uplink.transmitting ≠ none → s.uplink.queues.urgent.length < s.uplink.limits.urgent →
        queuedTotal s.uplink.queues < 256 → (arpFrame port bs v).egress = s.egress
          ∧ (arpFrame port bs v).uplink = { s.uplink with
            queues := { s.uplink.queues with urgent := s.uplink.queues.urgent ++ [arpReply v port bs] } }) := by
  have hlinks : v.links = s.links := (still_links hstill).trans rfl
  have hupv : v.up port = true := by rw [State.up, hlinks]; exact hup
  rw [hanswer]
  constructor
  · rintro p rfl hroom
    rw [show presentOn (egressSegment p) (arpReply v (egressSegment p) bs) v = _ from presentOnWith_egress offer p _ v,
      presentEgressWith_room offer p _ (.inr rfl) hupv (by rwa [hegress])]
    exact ⟨by rw [← hegress]; rfl, huplink⟩
  · rintro rfl hbusy hlimit htotal
    rw [show presentOn .uplink (arpReply v .uplink bs) v = _ from presentUplink_busy .urgent _ (.inr rfl)
      (by rwa [huplink]) (by rwa [huplink]) (by rwa [huplink])]
    exact ⟨hegress, by rw [← huplink]; rfl⟩

/-- Settles O18: each frame goes through the receive path to its answer or its queue. -/
theorem framesForThePartAreAnsweredOrQueued : Obligations.FramesForThePartAreAnsweredOrQueued := by
  intro bs s hmin hmax hto
  have hstill (port : Segment) :
      (offer ⟨.received port, 1, ⟨false, none, port, some (word48 bs 6)⟩, none⟩ s).still = s.still := offer_still _ _
  refine ⟨fun port u hup hd htype h14 h16 h18 h19 h20 hne hgate hpass => ?arp, fun hup hrun htype hnone => ?unknown,
    fun hup htype hip harp => ?management, fun ip source accepted hup hbroad htype hip hfrag hproto hzero hdest hservice
      hsource haccepted => ?remote⟩
  case arp =>
    rw [exec_frameReceived hup hmin hmax hto, sortFrame_arp htype]
    have hstill := hstill port
    generalize hr : offer ⟨.received port, 1, ⟨false, none, port, some (word48 bs 6)⟩, none⟩ s = received at hstill
    have hrun : received.running = s.running := by rw [State.running, still_agent hstill]; rfl
    have hqueues : received.egress = s.egress ∧ received.uplink = s.uplink := by
      rw [← hr]; exact ⟨offer_egress hd _, offer_uplink hd _⟩
    have hsame : ∀ {x : State}, x.still = s.still → x.still = ({ s with guest := x.guest } : State).still := fun {x} h => by
      rw [still_guest h]; exact h
    have hpassed : ∃ v, sourceCheck port (word48 bs 6) (word32 bs 28) bs.length (fun _ s => arpFrame port bs s) received
          = arpFrame port bs v ∧ v.still = u.still ∧ v.still = ({ s with guest := v.guest } : State).still
        ∧ v.egress = s.egress ∧ v.uplink = s.uplink := by
      rcases hpass with ⟨rfl, hopen⟩ | ⟨hrunning, rfl, hguest⟩
      · refine ⟨received, ?_, hstill, hsame hstill, hqueues.1, hqueues.2⟩
        rcases hopen with hclosed | hlabel | hoffice | huplink | ⟨rfl, htill⟩
        · exact sourceCheck_closed _ _ _ _ _ (hrun.trans hclosed)
        · exact sourceCheck_open (.inl hlabel) _ _ _ _ _
        · exact sourceCheck_open (.inr (.inl hoffice)) _ _ _ _ _
        · exact sourceCheck_open (.inr (.inr huplink)) _ _ _ _ _
        · cases hrunning : received.running with
          | false => exact sourceCheck_closed _ _ _ _ _ hrunning
          | true =>
            rw [← still_tills hstill] at htill
            obtain ⟨i, hi⟩ := tillOf_isSome.2 htill
            exact sourceCheck_till hrunning hi _ _
      · rw [hr] at hguest
        have hus := (guestPasses_still hguest).trans (withGuest_still hstill _)
        obtain ⟨hegress, huplink⟩ := guestPasses_queues hguest (hr ▸ (offer_destination _ _).trans hd)
        refine ⟨u, ?_, rfl, hus, hegress.trans hqueues.1, huplink.trans hqueues.2⟩
        rw [sourceCheck_guest (hrun.trans hrunning), guestSource_passes hguest]
    obtain ⟨v, hv, hvu, hvs, hegress, huplink⟩ := hpassed
    have hports : v.ports = s.ports := (still_ports hvs).trans rfl
    have hanswer := arpFrame_answers h14 h16 h18 h19 h20 hne (s := v) (port := port) (by rw [hports]; exact hgate)
    rw [hv]
    refine ⟨_, arpReply v port bs, rfl, (arpFrame_still _ _ _).trans hvu, rfl, (still_tick hvs).trans rfl, ?_,
      arpFrame_answered hvs hegress huplink hup hanswer⟩
    rw [arpReply_bytes (by rw [hports]; exact hgate), still_station hvs]
  case unknown =>
    have hnone' : ¬ ∃ i : Fin 32, s.tills[i].enabled = true ∧ s.tills[i].station = word48 bs 6
        ∧ s.tills[i].address = word32 bs 28 := fun ⟨i, he, hs, ha⟩ => hnone i he hs ha
    rw [← still_tills (hstill .till), ← tillOf_isSome, ← Option.isSome_iff_exists, Option.not_isSome_iff_eq_none]
      at hnone'
    rw [exec_frameReceived hup hmin hmax hto, sortFrame_arp htype, sourceCheck_till_unknown ?_ hnone']
    · rfl
    · rw [State.running, still_agent (hstill .till)]; exact hrun
  case management =>
    have hstill := hstill s.ports.managementPort
    rw [exec_frameReceived hup hmin hmax hto]
    generalize hr : offer ⟨.received s.ports.managementPort, 1,
      ⟨false, none, s.ports.managementPort, some (word48 bs 6)⟩, none⟩ s = received at hstill
    have hports := still_ports hstill
    have hqueue : received.agent.queue = s.agent.queue := by rw [still_agent hstill]
    have hsorted : sortFrame s.ports.managementPort bs received = localRequest s.ports.managementPort bs received := by
      rw [← hports]
      exact sortFrame_management (hports ▸ htype) (hports ▸ hip) (hports ▸ harp)
    rw [hsorted]
    refine ⟨_, rfl, fun hroom => ?_, fun hfull => ?_⟩
    · refine (joinRequests_station _ _ _ _ (by rwa [hqueue])).trans ?_
      rw [hqueue, withRequests_still hstill]
      rfl
    · have hdropped := joinRequests_full (s := received) (port := s.ports.managementPort) (word48 bs 6)
        ⟨.station (word48 bs 6) s.ports.managementPort, bs.drop 14⟩ (by rwa [hqueue])
      exact ⟨(congrArg State.still hdropped).trans ((offer_still _ _).trans hstill), hr ▸ hdropped⟩
  case remote =>
    have hstill := hstill .uplink
    rw [exec_frameReceived hup hmin hmax hto]
    generalize hr : offer ⟨.received .uplink, 1, ⟨false, none, .uplink, some (word48 bs 6)⟩, none⟩ s = received at hstill
    have hports := still_ports hstill
    have hqueue : received.agent.queue = s.agent.queue := by rw [still_agent hstill]
    have hfor : forService received ⟨.uplink, bs, ip, none⟩ received.ports.agentService = true := by
      rw [forService_iff, hports]
      exact ⟨hproto, hfrag, hzero, hdest, hservice⟩
    rw [sortFrame_remote hbroad htype hip hfor, remoteRequest_eq, still_night hstill, hsource]
    refine ⟨_, rfl, fun hacc hroom => ?_, fun hacc hfull => ?_, fun hrej => ?_⟩
    · rw [if_pos (haccepted.1 hacc)]
      refine (joinRequests_datagram _ _ _ _ (by rwa [hqueue])).trans ?_
      rw [hqueue, withRequests_still hstill, still_destination hstill]
      rfl
    · rw [if_pos (haccepted.1 hacc), joinRequests_full _ _ (by rwa [hqueue])]
      exact ⟨(offer_still _ _).trans hstill, rfl⟩
    · rw [if_neg fun h => hrej (haccepted.2 h)]
      exact ⟨(drop_still _ _ _).trans hstill, rfl⟩

end Sys2Proof.Machine

/-! SUPPORT. Window lookup (R24, R25, R27) and egress resolution (R14, R78). -/

namespace Sys2Proof.Machine

/- The proofs below run one after another: run together, their waiting threads outgrow the memory a check may use. -/
set_option Elab.async false

variable {s t : State}

/-! ## The lowest place -/

theorem find?_finRange_eq_some {n : Nat} {P : Fin n → Bool} {i : Fin n} (h : P i = true)
    (hlow : ∀ j, j < i → P j = false) : (List.finRange n).find? P = some i := by
  rw [List.find?_eq_some_iff_getElem]
  refine ⟨h, i, by simp, by simp, fun j hj => ?_⟩
  rw [List.getElem_finRange, hlow _ (by simpa [Fin.lt_def] using hj)]
  rfl

theorem find?_finRange_eq_none {n : Nat} {P : Fin n → Bool} : (List.finRange n).find? P = none ↔ ∀ i, P i = false := by
  simp

theorem find?_toList_eq_some {α : Type} {n : Nat} {v : Vector α n} {P : α → Bool} {i : Fin n} (h : P v[i] = true)
    (hlow : ∀ j : Fin n, j < i → P v[j] = false) : v.toList.find? P = some v[i] := by
  rw [List.find?_eq_some_iff_getElem]
  refine ⟨h, i, by simp, by simp, fun j hj => ?_⟩
  have hlow' := hlow ⟨j, hj.trans i.isLt⟩ hj
  simpa using hlow'

theorem find?_toList_eq_none {α : Type} {n : Nat} {v : Vector α n} {P : α → Bool} (h : ∀ i : Fin n, P v[i] = false) :
    v.toList.find? P = none := by
  rw [List.find?_eq_none]
  intro x hx
  obtain ⟨i, hi, rfl⟩ := Vector.mem_iff_getElem.1 (Vector.mem_toList_iff.1 hx)
  simpa using h ⟨i, hi⟩

/-! ## Window lookup (R24, R25, R27) -/

theorem rangeMatches_iff (range : Option (Service × Service)) (ip : Ipv4) : rangeMatches range ip = true
    ↔ range = none ∨ ∃ low high service, range = some (low, high) ∧ ip.unfragmented = true
      ∧ (ip.protocol = 6 ∨ ip.protocol = 17) ∧ ip.destinationService = some service
      ∧ low.toNat ≤ service.toNat ∧ service.toNat ≤ high.toNat := by
  unfold rangeMatches
  split
  · simp
  · next low high =>
    split
    · next hnone => simp [hnone]
    · next service hservice =>
      simp only [hservice, Bool.and_eq_true, Bool.or_eq_true, beq_iff_eq, decide_eq_true_eq, reduceCtorEq, false_or]
      constructor
      · rintro ⟨⟨hfrag, hproto⟩, hrange⟩
        exact ⟨low, high, service, rfl, hfrag, hproto, rfl, hrange⟩
      · rintro ⟨_, _, _, heq, hfrag, hproto, hs, hrange⟩
        obtain ⟨rfl, rfl⟩ := Prod.mk.inj (Option.some.inj heq)
        obtain rfl := Option.some.inj hs
        exact ⟨⟨hfrag, hproto⟩, hrange⟩

/-- R24: the conditions of a match. -/
theorem matches_iff (e : WindowEntry) (g : Segment) (ip : Ipv4) : e.matches g ip = true
    ↔ e.enabled = true ∧ e.sources.get g = true ∧ keyAddress e.key ip &&& e.mask = e.base &&& e.mask
      ∧ (e.protocol = none ∨ e.protocol = some ip.protocol) ∧ (e.range = none ∨ ∃ low high service,
        e.range = some (low, high) ∧ ip.unfragmented = true ∧ (ip.protocol = 6 ∨ ip.protocol = 17)
        ∧ ip.destinationService = some service ∧ low.toNat ≤ service.toNat ∧ service.toNat ≤ high.toNat) := by
  cases hp : e.protocol with
  | none =>
    simp only [WindowEntry.matches, hp, Bool.and_eq_true, beq_iff_eq, rangeMatches_iff, and_assoc, true_and, true_or]
  | some p =>
    simp only [WindowEntry.matches, hp, Bool.and_eq_true, beq_iff_eq, rangeMatches_iff, and_assoc, Option.some.injEq,
      reduceCtorEq, false_or]

section
variable {b : Bank} {g : Segment} {ip : Ipv4} {i : Fin 64}

/-- R25: the lowest pinned entry that matches is chosen. -/
theorem choose_pinned (hi : b.entries[i].matches g ip = true) (hpinned : b.entries[i].pinned = true)
    (hlow : ∀ j, j < i → b.entries[j].matches g ip = true → b.entries[j].pinned = false) : b.choose g ip = some i := by
  unfold Bank.choose
  rw [find?_finRange_eq_some (i := i) (by rw [hi, hpinned]; rfl) fun j hj => by
    cases hm : b.entries[j].matches g ip with
    | false => exact Bool.and_false _
    | true => rw [hlow j hj hm]; rfl]

/-- R25: with no pinned entry that matches, the lowest that matches is chosen. -/
theorem choose_unpinned (hi : b.entries[i].matches g ip = true)
    (hlow : ∀ j, b.entries[j].matches g ip = true → b.entries[j].pinned = false ∧ i ≤ j) : b.choose g ip = some i := by
  have hnone : (List.finRange 64).find? (fun j => b.entries[j].pinned && b.entries[j].matches g ip) = none :=
    find?_finRange_eq_none.2 fun j => by
      cases hm : b.entries[j].matches g ip with
      | false => exact Bool.and_false _
      | true => rw [(hlow j hm).1]; rfl
  unfold Bank.choose
  rw [hnone]
  refine find?_finRange_eq_some (by rw [hi, (hlow i hi).1]; rfl) fun j hj => ?_
  cases hm : b.entries[j].matches g ip with
  | false => exact Bool.and_false _
  | true => exact absurd (hlow j hm).2 (Fin.not_le.2 hj)

/-- R25: with no entry that matches, none is chosen. -/
theorem choose_none (h : ∀ j : Fin 64, b.entries[j].matches g ip = false) : b.choose g ip = none := by
  unfold Bank.choose
  rw [find?_finRange_eq_none.2 fun j => by rw [h j]; exact Bool.and_false _]
  exact find?_finRange_eq_none.2 fun j => by rw [h j]; exact Bool.and_false _

end

section
variable {c : Classifier} {g : Segment} {ip : Ipv4}

theorem lookupCopy_entry {i : Fin 64} (h : c.activeBank.choose g ip = some i) :
    lookupCopy c g ip = entryCopy c.active i c.activeBank.entries[i] := by
  unfold lookupCopy
  rw [h]

theorem lookupCopy_default (h : c.activeBank.choose g ip = none) :
    lookupCopy c g ip = defaultCopy c.active (c.activeBank.defaults.get g) := by
  unfold lookupCopy
  rw [h]

end

theorem activeBank_eq (c : Classifier) : c.activeBank = match c.active with | .a => c.bankA | .b => c.bankB := by
  unfold Classifier.activeBank Classifier.bank
  cases c.active <;> rfl

/-! ## Egress resolution (R14, R78) -/

theorem resolve_down {received : Option Segment} {a : NetAddr} {g : Segment} (hg : g ≠ .uplink)
    (hguest : g ≠ .guest ∨ received ≠ some .guest) (hdown : s.up g = false) :
    resolve s received g a = .error .noStation := by
  cases g
  case uplink => exact absurd rfl hg
  case guest =>
    unfold resolve resolveGuest
    dsimp only
    rw [if_neg (hguest.resolve_left (fun h => h rfl)), if_pos (by rw [hdown]; rfl)]
  all_goals
    unfold resolve
    simp only [hdown, Bool.false_eq_true, if_false]

section
variable {received : Option Segment} {a : NetAddr}

theorem resolve_till (hup : s.up .till = true) :
    resolve s received .till a = stationOr ((s.tillAt a).map (·.station)) := if_pos hup

theorem resolve_office (hup : s.up .office = true) :
    resolve s received .office a = stationOr ((s.officeAt a).map (·.station)) := if_pos hup

theorem resolve_label (hup : s.up .label = true) : resolve s received .label a
    = stationOr (match s.ports.baseStation with
        | some b => if b.address = a then some b.station else none
        | none => none) := if_pos hup

theorem resolve_guest_some (hup : s.up .guest = true) (hreceived : received ≠ some .guest) {e : GuestEntry}
    (he : s.guest.table.find? (·.address == a) = some e) :
    resolve s received .guest a = if e.barred then .error .barred else .ok e.station := by
  unfold resolve resolveGuest
  dsimp only
  rw [if_neg hreceived, if_neg (by rw [hup]; decide), he]

theorem resolve_guest_none (hup : s.up .guest = true) (hreceived : received ≠ some .guest)
    (he : s.guest.table.find? (·.address == a) = none) : resolve s received .guest a = .error .noStation := by
  unfold resolve resolveGuest
  dsimp only
  rw [if_neg hreceived, if_neg (by rw [hup]; decide), he]

end

/-- R4, R8, R14: the lowest enabled place that holds an address. -/
theorem tillAt_some {a : NetAddr} {i : Fin 32} (he : s.tills[i].enabled = true) (ha : s.tills[i].address = a)
    (hlow : ∀ j : Fin 32, j < i → s.tills[j].enabled = true → s.tills[j].address ≠ a) : s.tillAt a = some s.tills[i] :=
  find?_toList_eq_some (by simpa only [Bool.and_eq_true, beq_iff_eq] using And.intro he ha) fun j hj => by
    simpa only [Bool.and_eq_false_imp, beq_eq_false_iff_ne] using hlow j hj

theorem tillAt_none {a : NetAddr} (h : ∀ i : Fin 32, s.tills[i].enabled = true → s.tills[i].address ≠ a) :
    s.tillAt a = none :=
  find?_toList_eq_none fun i => by simpa only [Bool.and_eq_false_imp, beq_eq_false_iff_ne] using h i

theorem officeAt_some {a : NetAddr} {i : Fin 8} (he : s.office[i].enabled = true) (ha : s.office[i].address = a)
    (hlow : ∀ j : Fin 8, j < i → s.office[j].enabled = true → s.office[j].address ≠ a) :
    s.officeAt a = some s.office[i] :=
  find?_toList_eq_some (by simpa only [Bool.and_eq_true, beq_iff_eq] using And.intro he ha) fun j hj => by
    simpa only [Bool.and_eq_false_imp, beq_eq_false_iff_ne] using hlow j hj

theorem officeAt_none {a : NetAddr} (h : ∀ i : Fin 8, s.office[i].enabled = true → s.office[i].address ≠ a) :
    s.officeAt a = none :=
  find?_toList_eq_none fun i => by simpa only [Bool.and_eq_false_imp, beq_eq_false_iff_ne] using h i

theorem find_address_some {table before after : List GuestEntry} {e : GuestEntry} {a : NetAddr}
    (htable : table = before ++ e :: after) (he : e.address = a) (hbefore : ∀ x ∈ before, x.address ≠ a) :
    table.find? (·.address == a) = some e := by
  have hnone : before.find? (·.address == a) = none := List.find?_eq_none.2 fun x hx => by simp [hbefore x hx]
  rw [htable, List.find?_append, hnone, List.find?_cons_of_pos (by simp [he])]
  rfl

/-- What a resolution depends on. -/
theorem resolve_of_still (h : t.still = s.still) (received : Option Segment) (g : Segment) (a : NetAddr) :
    resolve t received g a = resolve s received g a := by
  have hup (g : Segment) : t.up g = s.up g := by rw [State.up, still_links h]; rfl
  unfold resolve resolveGuest State.tillAt State.officeAt
  simp only [hup, still_ports h, still_tills h, still_office h, still_guest h]

end Sys2Proof.Machine

/-! SUPPORT. The way of an IPv4 frame through local delivery, window lookup and forwarding (R10, R13, R25 to R32). -/

namespace Sys2Proof.Machine

/- The proofs below run one after another: run together, their waiting threads outgrow the memory a check may use. -/
set_option Elab.async false

variable {s t : State} {p : Passage} {copy : LookupCopy}

/-! ## To the lookup (R10, R91) -/

theorem forService_of_no_gateway (h : s.isAnyGateway p.ip.destination = false) (service : Service) :
    forService s p service = false := by
  rw [← Bool.not_eq_true, forService_iff]
  rintro ⟨_, _, hne, hdest, _⟩
  rw [(isAnyGateway_iff s _).2 ⟨hne, p.port, hdest.symm⟩] at h
  exact Bool.noConfusion h

/-- R10: in RUNNING no block of the part takes a frame for no gateway address. -/
theorem deliverLocal_of_no_gateway (hrun : s.running = true) (h : s.isAnyGateway p.ip.destination = false) :
    deliverLocal p s = passOn p s := by
  unfold deliverLocal deliverRunning
  simp only [forService_of_no_gateway h, hrun, h, Bool.false_eq_true, and_false, false_and, if_false, if_true]

/-- R91: which frames are a reply to an open request. -/
theorem isReply_iff (r : OpenRequest) : isReply s p r = true ↔ p.ip.unfragmented = true ∧ p.ip.protocol = 17
    ∧ p.ip.payloadOffset.isSome = true ∧ p.ip.source = r.serverAddress ∧ p.ip.sourceService = some r.serverService
    ∧ p.ip.destination = s.tills[r.till].address ∧ p.ip.destinationService = some r.tillService
    ∧ r.tagOffset.toNat + 4 ≤ (udpPayload p.bytes p.ip).length
    ∧ word32 (udpPayload p.bytes p.ip) r.tagOffset.toNat = r.tag := by
  simp only [isReply, tagAt, Bool.and_eq_true, beq_iff_eq, decide_eq_true_eq, and_assoc]

theorem matchReply_none (h : ∀ (i : Fin 64) (r : OpenRequest), s.tracker.slots[i] = some r → isReply s p r = false) :
    matchReply s p = none := by
  unfold matchReply
  rw [List.findSome?_eq_none_iff]
  intro i _
  split
  · next r hr => rw [h i r hr]; rfl
  · rfl

theorem passOn_lookup (h : p.port ≠ .uplink ∨ matchReply s p = none) : passOn p s = lookupFrame p s := by
  unfold passOn
  split
  · next hp => rw [h.resolve_left fun hn => hn hp]
  · rfl

/-! ## Forwarding (R13, R28, R29) -/

theorem ttlExpired_iff (ip : Ipv4) : ttlExpired ip = true ↔ ip.ttl.toNat ≤ 1 := decide_eq_true_iff

theorem forwardFrame_resolved {station : Station} (httl : 2 ≤ p.ip.ttl.toNat)
    (h : resolve s (some p.port) copy.destination ((copyDestination copy p.ip).getD p.ip.destination) = .ok station) :
    forwardFrame p copy s = deliverForwarded p copy (forwardedFrame s p (copySource copy p.ip)
      (copyDestination copy p.ip) station (copyOrigin p.port (sourceStation p.bytes) copy)) s := by
  unfold forwardFrame
  dsimp only
  rw [if_neg (by rw [ttlExpired_iff]; omega), h]

theorem forwardFrame_unresolved {reason : DropReason} (httl : 2 ≤ p.ip.ttl.toNat)
    (h : resolve s (some p.port) copy.destination ((copyDestination copy p.ip).getD p.ip.destination) = .error reason) :
    forwardFrame p copy s = drop reason (copyOrigin p.port (sourceStation p.bytes) copy) s := by
  unfold forwardFrame
  dsimp only
  rw [if_neg (by rw [ttlExpired_iff]; omega), h]

theorem forwardFrame_expired (httl : p.ip.ttl.toNat ≤ 1) :
    forwardFrame p copy s = drop .ttlExpired (copyOrigin p.port (sourceStation p.bytes) copy) s :=
  if_pos ((ttlExpired_iff _).2 httl)

theorem trackFrame_expired (httl : p.ip.ttl.toNat ≤ 1) :
    trackFrame p copy s = drop .ttlExpired (copyOrigin p.port (sourceStation p.bytes) copy) s :=
  if_pos ((ttlExpired_iff _).2 httl)

theorem trackFrame_unsuitable (httl : 2 ≤ p.ip.ttl.toNat) (hp : p.port ≠ .till) :
    trackFrame p copy s = drop .unsuitable (copyOrigin p.port (sourceStation p.bytes) copy) s := by
  unfold trackFrame
  dsimp only
  rw [if_neg (by rw [ttlExpired_iff]; omega), if_pos hp]

/-- The segments but UPLINK have an egress queue (R15). -/
theorem eq_uplink_or_egressSegment (g : Segment) : g = .uplink ∨ ∃ q : EgressPort, g = egressSegment q := by
  cases g
  case uplink => exact .inl rfl
  case till => exact .inr ⟨.till, rfl⟩
  case label => exact .inr ⟨.label, rfl⟩
  case guest => exact .inr ⟨.guest, rfl⟩
  case office => exact .inr ⟨.office, rfl⟩

theorem deliverForwarded_egress {q : EgressPort} (h : copy.destination = egressSegment q) (f : Frame) (s : State) :
    deliverForwarded p copy f s = presentEgress q f s := by
  unfold deliverForwarded
  rw [h]
  cases q <;> rfl

/-- R29: only the frames of OFFICE and GUEST are metered to UPLINK. -/
theorem deliverForwarded_uplink (h : copy.destination = .uplink) (hguest : p.port ≠ .guest) (hoffice : p.port ≠ .office)
    (f : Frame) (s : State) : deliverForwarded p copy f s = presentUplink (classQueue copy.uplinkClass) f s := by
  unfold deliverForwarded
  rw [h]
  dsimp only
  split
  · next hp => exact absurd hp hguest
  · next hp => exact absurd hp hoffice
  · rfl

theorem deliverForwarded_still (hguest : p.port ≠ .guest) (h : copy.destination ≠ .uplink ∨ p.port ≠ .office) (f : Frame)
    (s : State) : (deliverForwarded p copy f s).still = s.still := by
  rcases eq_uplink_or_egressSegment copy.destination with hup | ⟨q, hq⟩
  · rw [deliverForwarded_uplink hup hguest (h.resolve_left fun hn => hn hup)]
    exact presentUplink_still _ _ _
  · rw [deliverForwarded_egress hq]
    exact presentEgress_still _ _ _

/-- R14: a station is found on a segment with an egress queue only when its port is UP. -/
theorem up_of_resolved {received : Option Segment} {q : EgressPort} {a : NetAddr} {station : Station}
    (hreceived : received ≠ some .guest) (h : resolve s received (egressSegment q) a = .ok station) :
    s.up (egressSegment q) = true := by
  by_contra hdown
  rw [resolve_down (egressSegment_ne_uplink q) (.inr hreceived) (by simpa using hdown)] at h
  cases h

/-- R5, R14: a frame addressed to its next station. -/
theorem addressStations_eq (bs : Bytes) (destination source : Station) :
    addressStations bs destination source = be48 destination ++ be48 source ++ bs.drop 12 := by
  have hfirst : patch bs 0 (be48 destination) = be48 destination ++ bs.drop 6 := rfl
  have hrest : (be48 destination ++ bs.drop 6).drop 12 = bs.drop 12 := by
    rw [List.drop_append, List.drop_of_length_le (by rw [length_be48]; decide), length_be48, List.drop_drop]
    rfl
  rw [addressStations, hfirst, patch, List.take_left' (length_be48 _), length_be48, hrest]

/-! ## The action of a copy (R27 to R32) -/

theorem takeAction_forward (h : copy.action = .forward) : takeAction p copy s = forwardFrame p copy s := by
  unfold takeAction; rw [h]

theorem takeAction_track (h : copy.action = .track) : takeAction p copy s = trackFrame p copy s := by
  unfold takeAction; rw [h]

theorem takeAction_spool (h : copy.action = .spool) : takeAction p copy s = spoolFrame p copy s := by
  unfold takeAction; rw [h]

theorem takeAction_drop (h : copy.action = .drop) :
    takeAction p copy s = drop .denied (copyOrigin p.port (sourceStation p.bytes) copy) s := by
  unfold takeAction; rw [h]

/-- R13, R30 to R32: the frames an action drops. -/
theorem takeAction_drops {reason : DropReason}
    (h : (copy.action = .forward ∧ 2 ≤ p.ip.ttl.toNat
          ∧ resolve s (some p.port) copy.destination ((copyDestination copy p.ip).getD p.ip.destination) = .error reason)
        ∨ ((copy.action = .forward ∨ copy.action = .track) ∧ p.ip.ttl.toNat ≤ 1 ∧ reason = .ttlExpired)
        ∨ (copy.action = .track ∧ p.port ≠ .till ∧ 2 ≤ p.ip.ttl.toNat ∧ reason = .unsuitable)
        ∨ (copy.action = .spool ∧ p.port ≠ .till ∧ reason = .unsuitable)
        ∨ (copy.action = .drop ∧ reason = .denied)) :
    takeAction p copy s = drop reason (copyOrigin p.port (sourceStation p.bytes) copy) s := by
  rcases h with ⟨haction, httl, hres⟩ | ⟨haction | haction, httl, rfl⟩ | ⟨haction, hport, httl, rfl⟩
    | ⟨haction, hport, rfl⟩ | ⟨haction, rfl⟩
  · rw [takeAction_forward haction, forwardFrame_unresolved httl hres]
  · rw [takeAction_forward haction, forwardFrame_expired httl]
  · rw [takeAction_track haction, trackFrame_expired httl]
  · rw [takeAction_track haction, trackFrame_unsuitable httl hport]
  · rw [takeAction_spool haction, spoolFrame_unsuitable hport]
  · exact takeAction_drop haction

/-- R28: a forwarded frame joins the egress queue of the segment it is for. -/
theorem forwarded_joins_egress {station : Station} {q : EgressPort} (haccepts : s.accepts .forwarded)
    (hguest : p.port ≠ .guest) (hq : copy.destination = egressSegment q)
    (hresolved : resolve s (some p.port) copy.destination ((copyDestination copy p.ip).getD p.ip.destination) = .ok station)
    (hroom : (s.egress.get q).length < 64) (f : Frame) (hf : f.kind = .forwarded) :
    deliverForwarded p copy f s = s.joinEgress q f := by
  rw [hq] at hresolved
  have hup : s.up (egressSegment q) = true := up_of_resolved (by simpa using hguest) hresolved
  rw [deliverForwarded_egress hq, presentEgress_room q f (hf ▸ haccepts) hup hroom]

/-- R29: a forwarded frame that is not metered joins the uplink queue of its class. -/
theorem forwarded_joins_uplink {q : UplinkQueue} (haccepts : s.accepts .forwarded) (hguest : p.port ≠ .guest)
    (hoffice : p.port ≠ .office) (hdest : copy.destination = .uplink) (hq : q = classQueue copy.uplinkClass)
    (hbusy : s.uplink.transmitting ≠ none) (hlimit : (s.uplink.queues.get q).length < s.uplink.limits.get q)
    (htotal : queuedTotal s.uplink.queues < 256) (f : Frame) (hf : f.kind = .forwarded) :
    deliverForwarded p copy f s = s.joinUplink q f := by
  rw [deliverForwarded_uplink hdest hguest hoffice, ← hq,
    presentUplink_busy q f (hf ▸ haccepts) hlimit htotal hbusy]

/-! ## The obligation -/

/-- R5 to R10, R91: a frame that arrives, from where no source check stops it, and that is no reply, reaches the lookup. -/
theorem exec_frameReceived_lookup {port : Segment} {bs : Bytes} {ip : Ipv4} (harrives : s.arrives port bs ip)
    (hport : port = .office ∨ port = .label
      ∨ (port = .till ∧ ∃ n : Fin 32, s.tills[n].enabled = true ∧ s.tills[n].station = word48 bs 6
        ∧ s.tills[n].address = ip.source)
      ∨ (port = .uplink ∧ ∀ (i : Fin 64) (r : OpenRequest), s.tracker.slots[i] = some r →
        isReply s ⟨port, bs, ip, none⟩ r = false)) :
    ∃ n, exec (.frameReceived port true bs) s = .next (lookupFrame ⟨port, bs, ip, n⟩
      (offer ⟨.received port, 1, ⟨false, none, port, some (word48 bs 6)⟩, none⟩ s)) := by
  obtain ⟨hup, hrun, hmin, hmax, hto, hbroad, htype, hip, hgate⟩ := harrives
  have hstill := offer_still ⟨.received port, 1, ⟨false, none, port, some (word48 bs 6)⟩, none⟩ s
  rw [exec_frameReceived hup hmin hmax (.inl hto), sortFrame_ipv4 (hto ▸ hbroad) htype hip]
  generalize offer ⟨.received port, 1, ⟨false, none, port, some (word48 bs 6)⟩, none⟩ s = received at hstill
  have hrun' : received.running = true := by rw [State.running, still_agent hstill]; exact hrun
  have hgate' : received.isAnyGateway ip.destination = false := by
    rw [← hgate]
    simp only [State.isAnyGateway, State.isGateway, still_ports hstill]
  have hdelivered (n : Option (Fin 32)) : deliverLocal ⟨port, bs, ip, n⟩ received = passOn ⟨port, bs, ip, n⟩ received :=
    deliverLocal_of_no_gateway hrun' hgate'
  rcases hport with rfl | rfl | ⟨rfl, htill⟩ | ⟨rfl, hreply⟩
  · rw [sourceCheck_open (.inr (.inl rfl))]
    exact ⟨none, congrArg _ ((hdelivered none).trans (passOn_lookup (.inl nofun)))⟩
  · rw [sourceCheck_open (.inl rfl)]
    exact ⟨none, congrArg _ ((hdelivered none).trans (passOn_lookup (.inl nofun)))⟩
  · rw [← still_tills hstill] at htill
    obtain ⟨n, hn⟩ := tillOf_isSome.2 htill
    rw [sourceCheck_till hrun' hn]
    exact ⟨some n, congrArg _ ((hdelivered (some n)).trans (passOn_lookup (.inl nofun)))⟩
  · have hsame (r : OpenRequest) : isReply received ⟨.uplink, bs, ip, none⟩ r = isReply s ⟨.uplink, bs, ip, none⟩ r := by
      simp only [isReply, still_tills hstill]
    have hnone : matchReply received ⟨.uplink, bs, ip, none⟩ = none := matchReply_none fun i r hr =>
      (hsame r).trans (hreply i r (by rw [← still_tracker hstill]; exact hr))
    rw [sourceCheck_uplink]
    exact ⟨none, congrArg _ ((hdelivered none).trans (passOn_lookup (.inr hnone)))⟩

theorem lookedUp_egress (hd : s.alerts.destination = none) (p : Passage) : (s.lookedUp p).egress = s.egress :=
  offer_egress (s := { s with classifier := s.classifier.hit p.port (lookupCopy s.classifier p.port p.ip) }) hd _

theorem lookedUp_uplink (hd : s.alerts.destination = none) (p : Passage) : (s.lookedUp p).uplink = s.uplink :=
  offer_uplink (s := { s with classifier := s.classifier.hit p.port (lookupCopy s.classifier p.port p.ip) }) hd _

/-- Settles O19: lookup and resolution by their definitions, and the frame by the action of its copy. -/
theorem lookupAndResolutionDecideTheFrame : Obligations.LookupAndResolutionDecideTheFrame := by
  refine ⟨?lookup, ?resolution, ?frame⟩
  case lookup =>
    intro g ip bank found taken s hbank hfound htaken
    obtain rfl : bank = s.classifier.activeBank := hbank.trans (activeBank_eq _).symm
    have hmatch (i : Fin 64) : found i ↔ s.classifier.activeBank.entries[i].matches g ip = true :=
      (hfound i).trans (matches_iff _ _ _).symm
    have hcopy (i : Fin 64) : taken i = entryCopy s.classifier.active i s.classifier.activeBank.entries[i] := htaken i
    refine ⟨fun i hi hpinned hlow => ?_, fun i hi hlow => ?_, fun hnone => ?_⟩
    · rw [hcopy, lookupCopy_entry (choose_pinned ((hmatch i).1 hi) hpinned fun j hj hm => hlow j hj ((hmatch j).2 hm))]
    · rw [hcopy, lookupCopy_entry (choose_unpinned ((hmatch i).1 hi) fun j hm => hlow j ((hmatch j).2 hm))]
    · have hdefault := choose_none (b := s.classifier.activeBank) (g := g) (ip := ip) fun j => by
        rw [← Bool.not_eq_true, ← hmatch]; exact hnone j
      exact ⟨_, lookupCopy_default hdefault, rfl, rfl, rfl, rfl, rfl, rfl, rfl⟩
  case resolution =>
    intro received a s
    refine ⟨fun x hx => ?_, fun hx => ?_, fun g hg hguest hdown => resolve_down hg hguest hdown,
      fun hup => ⟨fun i he ha hlow => ?_, fun hnone => ?_⟩, fun hup => ⟨fun b hb ha => ?_, fun hnone => ?_⟩,
      fun hup => ⟨fun i he ha hlow => ?_, fun hnone => ?_⟩, fun hreceived => ?_,
      fun hup hreceived => ⟨fun before after e htable he hbefore => ?_, fun hnone => ?_⟩⟩
    · rw [resolve, hx]; rfl
    · rw [resolve, hx]; rfl
    · rw [resolve_till hup, tillAt_some he ha hlow]; rfl
    · rw [resolve_till hup, tillAt_none hnone]; rfl
    · rw [resolve_label hup, hb]; exact congrArg stationOr (if_pos ha)
    · rw [resolve_label hup]
      cases hb : s.ports.baseStation with
      | none => rfl
      | some b => exact congrArg stationOr (if_neg (hnone b hb))
    · rw [resolve_office hup, officeAt_some he ha hlow]; rfl
    · rw [resolve_office hup, officeAt_none hnone]; rfl
    · exact if_pos hreceived
    · exact resolve_guest_some hup hreceived (find_address_some htable he hbefore)
    · exact resolve_guest_none hup hreceived (List.find?_eq_none.2 fun e he => by simp [hnone e he])
  case frame =>
    intro port bs ip copy origin newSource newDestination s harrives hd hcopy horigin hport hdestination hsource
    have hguest : port ≠ .guest := by
      rintro rfl
      rcases hport with h | h | ⟨h, _⟩ | ⟨h, _⟩ <;> cases h
    obtain ⟨n, hexec⟩ := exec_frameReceived_lookup harrives (hport.imp_right (Or.imp_right (Or.imp_right
      fun ⟨hp, h⟩ => ⟨hp, fun i r hr => by rw [← Bool.not_eq_true, isReply_iff]; exact h i r hr⟩)))
    have hstill := offer_still ⟨.received port, 1, ⟨false, none, port, some (word48 bs 6)⟩, none⟩ s
    have hegress := offer_egress hd ⟨.received port, 1, ⟨false, none, port, some (word48 bs 6)⟩, none⟩
    have huplink := offer_uplink hd ⟨.received port, 1, ⟨false, none, port, some (word48 bs 6)⟩, none⟩
    rw [hexec]
    generalize offer ⟨.received port, 1, ⟨false, none, port, some (word48 bs 6)⟩, none⟩ s = received
      at hstill hegress huplink
    have hclassifier := still_classifier hstill
    have hd' : received.alerts.destination = none := (still_destination hstill).trans hd
    have hcopy' : copy = lookupCopy received.classifier port ip := by rw [hclassifier]; exact hcopy
    generalize hp : (⟨port, bs, ip, n⟩ : Passage) = p
    have hfields : p.port = port ∧ p.bytes = bs ∧ p.ip = ip := by rw [← hp]; exact ⟨rfl, rfl, rfl⟩
    obtain ⟨hpport, hpbytes, hpip⟩ := hfields
    have hlooked : (received.lookedUp p).still = ({ s with classifier := s.classifier.hit port copy } : State).still := by
      rw [lookedUp_still, hpport, hpip, ← hcopy', hclassifier]
      exact congrArg (fun x : State => { x with classifier := s.classifier.hit port copy }) hstill
    have hegress := (lookedUp_egress hd' p).trans hegress
    have huplink := (lookedUp_uplink hd' p).trans huplink
    rw [lookupFrame_eq, hpport, hpip, ← hcopy']
    generalize received.lookedUp p = v at hlooked hegress huplink
    have hrewrite : copyDestination copy p.ip = newDestination ∧ copySource copy p.ip = newSource := by
      rw [hpip]; exact ⟨hdestination.symm, hsource.symm⟩
    have hresolve : resolve v (some p.port) copy.destination ((copyDestination copy p.ip).getD p.ip.destination)
        = resolve s (some port) copy.destination (newDestination.getD ip.destination) := by
      rw [resolve_of_still hlooked, hrewrite.1, hpport, hpip]
      rfl
    have horigin' : copyOrigin p.port (sourceStation p.bytes) copy = origin := by rw [hpport, hpbytes, horigin]; rfl
    rw [← hpport] at hguest
    constructor
    · intro station haction httl hresolved hunmetered
      rw [← hresolve] at hresolved
      rw [takeAction_forward haction, forwardFrame_resolved (by rwa [hpip]) hresolved, horigin', hrewrite.1, hrewrite.2]
      have hrunning : v.running = true := by rw [State.running, still_agent hlooked]; exact harrives.2.1
      have hstation : v.station = s.station := (still_station hlooked).trans rfl
      refine ⟨_, forwardedFrame v p newSource newDestination station origin, rfl,
        (deliverForwarded_still hguest (by rwa [hpport]) _ _).trans hlooked, rfl, (still_tick hlooked).trans rfl, rfl,
        ?bytes, fun q hq hroom => ?egress, fun q hdest hq hbusy hlimit htotal => ?uplink⟩
      case bytes =>
        rw [← hstation, ← hpbytes, ← hpip]
        exact addressStations_eq _ _ _
      case egress =>
        rw [forwarded_joins_egress (.inl hrunning) hguest hq hresolved (by rwa [hegress]) _ rfl]
        exact ⟨by rw [← hegress]; rfl, huplink⟩
      case uplink =>
        have hoffice : p.port ≠ .office := by rw [hpport]; exact hunmetered.resolve_left fun hn => hn hdest
        rw [forwarded_joins_uplink (.inl hrunning) hguest hoffice hdest hq (by rwa [huplink]) (by rwa [huplink])
          (by rwa [huplink]) _ rfl]
        exact ⟨hegress, by rw [← huplink]; rfl⟩
    · intro reason hreason
      rw [← hresolve, ← hpport, ← hpip] at hreason
      have hdv : v.alerts.destination = none := (still_destination hlooked).trans hd
      rw [takeAction_drops hreason, horigin']
      exact ⟨_, v, rfl, rfl, (offer_egress hdv _).trans hegress, (offer_uplink hdv _).trans huplink,
        hlooked, (drop_still _ _ _).trans hlooked⟩

end Sys2Proof.Machine

/-! SUPPORT. What events leave when no alert can follow them: without an alert destination, without an enabled counter or
threshold, and of the alert sources that neither a counter nor a comparison raises (R67, R173, R176, R178). -/

namespace Sys2Proof.Machine

/- The proofs below run one after another: run together, their waiting threads outgrow the memory a check may use. -/
set_option Elab.async false

variable {s t : State}

/-! ## Without an alert destination (R178) -/

theorem raise_core (hd : s.alerts.destination = none) (x : AlertSource) : (raise x s).core = s.core :=
  (congrArg State.core (alertTest_of_no_destination (s := { s with alerts := s.alerts.raise x }) hd)).trans rfl

theorem raise_destination (x : AlertSource) (s : State) : (raise x s).alerts.destination = s.alerts.destination :=
  still_destination (raise_still x s)

theorem comparePair_core (hd : s.alerts.destination = none) (i : PairId) : (comparePair i s).core = s.core := by
  obtain ⟨u, hu⟩ : ∃ u : State,
      u = { s with thresholds := s.thresholds.set i ((s.thresholds.get i).compared (s.watched i)) } := ⟨_, rfl⟩
  have hcore : u.core = s.core := by rw [hu]; rfl
  have hdu : u.alerts.destination = none := by rw [hu]; exact hd
  unfold comparePair
  dsimp only
  rw [← hu]
  split
  · split
    · rw [raise_core ((raise_destination _ _).trans hdu), raise_core hdu, hcore]
    · rw [raise_core hdu, hcore]
  · split
    · rw [raise_core hdu, hcore]
    · exact hcore

theorem compareChanged_core (hd : s.alerts.destination = none) (i : PairId) (before : Nat) :
    (compareChanged i before s).core = s.core := by
  unfold compareChanged
  split
  · rfl
  · exact comparePair_core hd i

theorem compareChanged_destination (i : PairId) (before : Nat) (s : State) :
    (compareChanged i before s).alerts.destination = s.alerts.destination := by
  have hquiet := congrArg (fun v : State => v.alerts.destination) (compareChanged_quiet i before s)
  exact hquiet

theorem foldl_offer_core (hd : s.alerts.destination = none) (l : List Occurrence) :
    (l.foldl (fun s o => offer o s) s).core = s.core := by
  induction l generalizing s with
  | nil => rfl
  | cons o l ih =>
    rw [List.foldl_cons, ih ((offer_destination _ _).trans hd), offer_of_no_destination hd, countEvent_core]

theorem labelRecovery_core (hd : s.alerts.destination = none) : (labelRecovery s).core = s.core := by
  obtain ⟨u, hu⟩ : ∃ u : State, u = { s with
      label := s.label.recovered, pool := s.pool.freeLabel s.label.lostAtRecovery.length } := ⟨_, rfl⟩
  have hcore : u.core = s.core := by rw [hu]; rfl
  have hdu : u.alerts.destination = none := by rw [hu]; exact hd
  unfold labelRecovery
  dsimp only
  rw [← hu, foldl_offer_core ((compareChanged_destination _ _ _).trans hdu), compareChanged_core hdu, hcore]

/-! ## Without an enabled counter or threshold (R67, R171) -/

/-- A state in which no event is counted, no comparison fires and no source is pending. -/
structure Silent (s : State) : Prop where
  counters : s.counters.group.globalEnable = false
  thresholds : ∀ i, (s.thresholds.get i).low.enabled = false ∧ (s.thresholds.get i).high.enabled = false
  pending : s.alerts.pending = Vector.replicate 14 none

theorem Silent.of_parts (h : Silent s) (hc : t.counters = s.counters) (ht : t.thresholds = s.thresholds)
    (ha : t.alerts = s.alerts) : Silent t :=
  ⟨hc ▸ h.counters, ht ▸ h.thresholds, ha ▸ h.pending⟩

theorem Silent.countEvent (h : Silent s) (o : Occurrence) : countEvent o s = s := by
  have hone (i : Fin 8) : countOne o s i = s := by
    refine if_neg ?_
    simp [CounterUnit.accepts, h.counters]
  unfold Machine.countEvent
  generalize List.finRange 8 = l
  induction l with
  | nil => rfl
  | cons i l ih => rw [List.foldl_cons, hone, ih]

theorem Silent.alertTest (h : Silent s) : alertTest s = s := by
  have hnone : s.alertReady = false := by
    simp [State.alertReady, AlertUnit.anyPending, h.pending]
  unfold Machine.alertTest
  split
  · rfl
  · rw [hnone]; rfl

theorem Silent.offer (h : Silent s) (o : Occurrence) : offer o s = s := by
  unfold Machine.offer
  rw [h.countEvent, h.alertTest]

theorem compared_disabled {x : Threshold} (h : x.enabled = false) (r : ThresholdResult) (fires : Bool) :
    x.compared r fires = x := if_neg (by simp [h])

theorem Thresholds.set_get (v : Thresholds) (i : PairId) : v.set i (v.get i) = v := by
  cases i <;> rfl

theorem Silent.comparePair (h : Silent s) (i : PairId) : comparePair i s = s := by
  obtain ⟨hlow, hhigh⟩ := h.thresholds i
  have hsame (v : Nat) : (s.thresholds.get i).compared v = s.thresholds.get i := by
    rw [ThresholdPair.compared, compared_disabled hlow, compared_disabled hhigh]
  unfold Machine.comparePair
  dsimp only
  rw [hsame, Thresholds.set_get, if_neg (by simp [highFires, hhigh]), if_neg (by simp [lowFires, hlow])]

theorem Silent.compareChanged (h : Silent s) (i : PairId) (before : Nat) : compareChanged i before s = s := by
  unfold Machine.compareChanged
  split
  · rfl
  · exact h.comparePair i

theorem Silent.setMeter (h : Silent s) (i : Meter) (m : ShareMeter) :
    s.setMeter i m = { s with meters := s.meters.set i m } :=
  (h.of_parts (t := { s with meters := s.meters.set i m }) rfl rfl rfl).compareChanged _ _

theorem Silent.foldl_offer (h : Silent s) (l : List Occurrence) : l.foldl (fun s o => Machine.offer o s) s = s := by
  induction l with
  | nil => rfl
  | cons o l ih => rw [List.foldl_cons, h.offer, ih]

theorem Silent.labelRecovery (h : Silent s) : labelRecovery s = { s with
    label := s.label.recovered, pool := s.pool.freeLabel s.label.lostAtRecovery.length } := by
  have hrecovered : Silent { s with
      label := s.label.recovered, pool := s.pool.freeLabel s.label.lostAtRecovery.length } := h.of_parts rfl rfl rfl
  unfold Machine.labelRecovery
  dsimp only
  rw [hrecovered.compareChanged, hrecovered.foldl_offer]

/-! ## Sources that stay out of the pending set (R173, R176) -/

/-- A source is not pending. -/
def NotPending (x : AlertSource) (s : State) : Prop := s.alerts.pending[alertIndex x] = none

theorem NotPending.of_alerts {x : AlertSource} (h : NotPending x s) (e : t.alerts = s.alerts) : NotPending x t := by
  unfold NotPending
  rw [e]
  exact h

theorem alertIndex_injective : Function.Injective alertIndex := by
  intro x y h
  revert h
  cases x <;> cases y <;> decide

/-- R176: raising a source leaves the others as they are. -/
theorem AlertUnit.raise_pending_of_ne (a : AlertUnit) {x y : AlertSource} (h : y ≠ x) :
    (a.raise y).pending[alertIndex x] = a.pending[alertIndex x] :=
  Vector.getElem_set_ne (alertIndex y).isLt (alertIndex x).isLt fun e => h (alertIndex_injective (Fin.ext e))

section
variable {x : AlertSource} (hx : x ≠ .counter1 ∧ x ≠ .counter28)
include hx

theorem notPending_countEvent (o : Occurrence) {s : State} (h : NotPending x s) : NotPending x (countEvent o s) := by
  have hsource (i : Fin 8) : counterSource i ≠ x := by
    unfold counterSource
    split
    · exact hx.1.symm
    · exact hx.2.symm
  have hone (i : Fin 8) {s : State} (h : NotPending x s) : NotPending x (countOne o s i) := by
    unfold countOne
    dsimp only
    split
    · split
      · split
        · exact (AlertUnit.raise_pending_of_ne _ (hsource i)).trans h
        · exact h
      · exact h
    · exact h
  unfold countEvent
  generalize List.finRange 8 = l
  induction l generalizing s with
  | nil => exact h
  | cons i l ih => exact ih (hone i h)

end

section
variable {x : AlertSource} {offer : Occurrence → State → State} (ho : ∀ o s, NotPending x s → NotPending x (offer o s))
include ho

theorem notPending_presentEgressWith (p : EgressPort) (f : Frame) (h : NotPending x s) :
    NotPending x (presentEgressWith offer p f s) := by
  unfold presentEgressWith
  split
  · exact ho _ _ h
  · split
    · exact ho _ _ h
    · split
      · exact h.of_alerts rfl
      · exact ho _ _ h

theorem notPending_departWith (h : NotPending x s) : NotPending x (departWith offer s) := by
  unfold departWith
  split
  · split
    · exact h
    · split
      · exact h
      · next q _ _ f rest _ =>
        have htaken : NotPending x (offer (occur (.departure q) f.origin) (s.takeOff q f rest)) := ho _ _ (h.of_alerts rfl)
        dsimp only
        split
        · exact ho _ _ htaken
        · exact htaken
  · exact h

theorem notPending_presentUplinkWith (q : UplinkQueue) (f : Frame) (h : NotPending x s) :
    NotPending x (presentUplinkWith offer q f s) := by
  unfold presentUplinkWith
  split
  · exact ho _ _ h
  · split
    · exact notPending_departWith ho (h.of_alerts rfl)
    · exact ho _ _ h

theorem notPending_presentOnWith (port : Segment) (f : Frame) (h : NotPending x s) :
    NotPending x (presentOnWith offer port f s) := by
  cases port
  case uplink => exact notPending_presentUplinkWith ho .urgent f h
  all_goals exact notPending_presentEgressWith ho _ f h

end

section
variable {x : AlertSource} (hx : x ≠ .counter1 ∧ x ≠ .counter28)
include hx

theorem notPending_alertTest (h : NotPending x s) : NotPending x (alertTest s) := by
  unfold alertTest
  split
  · exact h
  · split
    · have hsent : (s.alerts.sent s.tick).pending[alertIndex x] = none :=
        (Vector.getElem_map _ (alertIndex x).isLt).trans (congrArg (Option.map fun _ => AlertMark.reported) h)
      exact notPending_presentOnWith (fun o s hs => notPending_countEvent hx o hs) _ _ hsent
    · exact h

theorem notPending_offer (o : Occurrence) (h : NotPending x s) : NotPending x (offer o s) :=
  notPending_alertTest hx (notPending_countEvent hx o h)

theorem notPending_raise {y : AlertSource} (hy : y ≠ x) (h : NotPending x s) : NotPending x (raise y s) :=
  notPending_alertTest hx ((AlertUnit.raise_pending_of_ne _ hy).trans h)

theorem notPending_compareChanged {i : PairId} (hi : (pairSources i).1 ≠ x ∧ (pairSources i).2 ≠ x) (before : Nat)
    (h : NotPending x s) : NotPending x (compareChanged i before s) := by
  obtain ⟨u, hu⟩ : ∃ u : State,
      u = { s with thresholds := s.thresholds.set i ((s.thresholds.get i).compared (s.watched i)) } := ⟨_, rfl⟩
  have hcompared : NotPending x u := h.of_alerts (by rw [hu])
  unfold compareChanged comparePair
  dsimp only
  rw [← hu]
  split
  · exact h
  · split
    · refine notPending_raise hx hi.2 ?_
      split
      · exact notPending_raise hx hi.1 hcompared
      · exact hcompared
    · split
      · exact notPending_raise hx hi.1 hcompared
      · exact hcompared

theorem notPending_foldl_offer (l : List Occurrence) (h : NotPending x s) :
    NotPending x (l.foldl (fun s o => offer o s) s) := by
  induction l generalizing s with
  | nil => exact h
  | cons o l ih => exact ih (notPending_offer hx o h)

end

end Sys2Proof.Machine

/-! SUPPORT. OPEN, CLOSE and RESTART (R17, R18). -/

namespace Sys2Proof.Machine

/- The proofs below run one after another: run together, their waiting threads outgrow the memory a check may use. -/
set_option Elab.async false

variable {s t : State}

/-! ## The forced stop in a CLOSED part (R16, R17, R135) -/

/-- R16: in CLOSED a night message joins no queue. -/
theorem presentUplink_refused (q : UplinkQueue) {f : Frame} (hclosed : s.running = false)
    (hkind : f.kind.acceptedInClosed = false) : presentUplink q f s = offer (dropped .closed f.origin) s :=
  if_pos (by simp [hclosed, hkind])

/-- R16, R135: in CLOSED the CLOSED message is an event and no more. -/
theorem sendClosed_refused (hclosed : s.running = false) : ∃ o u, u.core = s.core
    ∧ u.alerts.destination = s.alerts.destination ∧ sendClosed s = offer o u := by
  unfold sendClosed sendNight originate
  split
  · exact ⟨_, s, rfl, rfl, rfl⟩
  · exact ⟨_, { s with freeSerial := s.freeSerial + 1 }, rfl, rfl, presentUplink_refused .transfer hclosed rfl⟩

theorem forcedStop_still (s : State) : (forcedStop s).still = ({ s with
    night := if s.night.state = .idle then s.night else s.night.enter .idle
    journal := if s.night.state = .idle then s.journal
      else { s.journal with nextToSend := s.journal.oldest } } : State).still := by
  unfold forcedStop closeSession
  split
  · rfl
  · have hstill := sendClosed_still s
    dsimp only
    rw [still_night hstill, still_journal hstill]
    exact congrArg (fun x : State => { x with
      night := s.night.enter .idle, journal := { s.journal with nextToSend := s.journal.oldest } }) hstill

theorem forcedStop_moves_closed {L : Licence} (hclosed : s.running = false) : Moves L s (forcedStop s) := by
  unfold forcedStop closeSession
  split
  · exact .refl s
  · obtain ⟨o, u, hu, _, hsent⟩ := sendClosed_refused hclosed
    dsimp only
    rw [hsent]
    exact ((Moves.same hu).trans (offer_moves_self o u)).keep

theorem forcedStop_core (hclosed : s.running = false) (hd : s.alerts.destination = none) :
    (forcedStop s).core = s.core := by
  unfold forcedStop closeSession
  split
  · rfl
  · obtain ⟨o, u, hu, hdu, hsent⟩ := sendClosed_refused hclosed
    dsimp only
    rw [hsent, offer_of_no_destination (hdu.trans hd), ← hu, ← countEvent_core o u]
    rfl

/-! ## CLOSE (R17) -/

/-- R17: the state at the forced stop of a CLOSE. -/
def State.closing (s : State) : State :=
  { (s.withPart .closed).flushed with meters := (s.withPart .closed).flushed.meters.emptied }

/-- R98: the state with the open request table emptied. -/
def State.trackerEmptied (s : State) : State := { s with tracker := s.tracker.emptied }

theorem closePart_eq (s : State) : closePart s = labelRecovery (forcedStop s.closing).trackerEmptied := rfl

theorem closePart_moves_alertsOnly (s : State) : Moves .alertsOnly s.closing (closePart s) :=
  labelRecovery_moves (forcedStop_moves_closed rfl).keep

theorem closePart_core (hd : s.alerts.destination = none) : (closePart s).core = s.closing.core := by
  have hstop : (forcedStop s.closing).trackerEmptied.alerts.destination = none :=
    (still_destination (forcedStop_still s.closing)).trans hd
  rw [closePart_eq, labelRecovery_core hstop, ← forcedStop_core (s := s.closing) rfl hd]
  rfl

theorem closePart_quiet (s : State) : (closePart s).quiet = ({ s.withPart .closed with
    meters := s.meters.emptied
    night := if s.night.state = .idle then s.night else s.night.enter .idle
    journal := if s.night.state = .idle then s.journal
      else { s.journal with nextToSend := s.journal.oldest }
    tracker := s.tracker.emptied
    label := s.label.recovered
    pool := s.pool.freeLabel s.label.lostAtRecovery.length } : State).quiet := by
  have hstill := forcedStop_still s.closing
  have hlabel : (forcedStop s.closing).label = s.label := (still_label hstill).trans rfl
  have hpool : (forcedStop s.closing).pool = s.pool := (still_pool hstill).trans rfl
  have htracker : (forcedStop s.closing).tracker = s.tracker := (still_tracker hstill).trans rfl
  rw [closePart_eq, labelRecovery_quiet]
  dsimp only [State.trackerEmptied]
  rw [hlabel, hpool, htracker]
  exact congrArg (fun x : State => { x with
    tracker := s.tracker.emptied, label := s.label.recovered
    pool := s.pool.freeLabel s.label.lostAtRecovery.length }) (quiet_of_still hstill)

/-! ## RESTART (R18) -/

/-- R64: a share meter at forwarding restart. -/
def State.meterAtRestart (s : State) (i : Meter) : ShareMeter :=
  { s.meters.get i with level := (s.profileInUse i).depth, lastTick := s.tick, hold := [] }

/-- R64: the three meters at forwarding restart. -/
def State.metersAtRestart (s : State) : Meters :=
  ⟨s.meterAtRestart .guest, s.meterAtRestart .office, s.meterAtRestart .transfer⟩

/-- R64: one meter restarted beside others that are. -/
theorem restartMeter_quiet {m : Meters} (h : t.quiet = ({ s with meters := m } : State).quiet) {i : Meter}
    (hi : m.get i = s.meters.get i) :
    (restartMeter t i).quiet = ({ s with meters := m.set i (s.meterAtRestart i) } : State).quiet := by
  have hmeters : t.meters = m := (quiet_meters h).trans rfl
  have hmeter : ({ t.meters.get i with level := (t.profileInUse i).depth, lastTick := t.tick, hold := [] } : ShareMeter)
      = s.meterAtRestart i := by
    unfold State.meterAtRestart State.profileInUse
    rw [hmeters, hi, quiet_levels h, quiet_tick h]
  unfold restartMeter
  rw [setMeter_quiet, hmeter, hmeters]
  exact congrArg (fun x : State => { x with meters := m.set i (s.meterAtRestart i) }) h

theorem restartMeters_quiet (s : State) :
    (meterList.foldl restartMeter s).quiet = ({ s with meters := s.metersAtRestart } : State).quiet :=
  restartMeter_quiet (restartMeter_quiet (restartMeter_quiet (i := .guest) (m := s.meters) rfl rfl)
    (i := .office) rfl) (i := .transfer) rfl

/-- R18: the state at a forwarding restart with its queues and its pending set emptied. -/
def State.restarting (s : State) : State := { s.flushed with alerts := s.alerts.restarted }

/-- R82: the state with every station meter at its depth. -/
def State.guestsRestarted (s : State) : State := { s with guest := s.guest.restarted s.tick }

theorem restartPart_eq (s : State) : restartPart s
    = labelRecovery (nightRestart (meterList.foldl restartMeter s.restarting).guestsRestarted) := rfl

theorem restartPart_quiet (s : State) : (restartPart s).quiet = ({ s with
    meters := s.metersAtRestart
    guest := s.guest.restarted s.tick
    night := { s.night.enter .idle with attempts := 0, shortRetries := 0 }
    journal := { s.journal with nextToSend := s.journal.oldest }
    label := s.label.recovered
    pool := s.pool.freeLabel s.label.lostAtRecovery.length } : State).quiet := by
  have hquiet := restartMeters_quiet s.restarting
  generalize hu : meterList.foldl restartMeter s.restarting = u at hquiet
  have hquiet' : u.quiet = ({ s with meters := s.metersAtRestart } : State).quiet := hquiet.trans rfl
  have hguest : u.guest.restarted u.tick = s.guest.restarted s.tick := by
    rw [quiet_guest hquiet, quiet_tick hquiet]
    rfl
  have hnight : u.night = s.night := (quiet_night hquiet).trans rfl
  have hjournal : u.journal = s.journal := (quiet_journal hquiet).trans rfl
  have hlabel : u.label = s.label := (quiet_label hquiet).trans rfl
  have hpool : u.pool = s.pool := (quiet_pool hquiet).trans rfl
  rw [restartPart_eq, hu, labelRecovery_quiet]
  dsimp only [nightRestart, State.guestsRestarted]
  rw [hguest, hnight, hjournal, hlabel, hpool]
  exact congrArg (fun x : State => { x with
    guest := s.guest.restarted s.tick
    night := { s.night.enter .idle with attempts := 0, shortRetries := 0 }
    journal := { s.journal with nextToSend := s.journal.oldest }
    label := s.label.recovered
    pool := s.pool.freeLabel s.label.lostAtRecovery.length }) hquiet'

theorem restartPart_meters (s : State) : (restartPart s).meters = s.metersAtRestart :=
  (quiet_meters (restartPart_quiet s)).trans rfl

section
variable {x : AlertSource} (hx : x ≠ .counter1 ∧ x ≠ .counter28)
  (hpair : ∀ i : PairId, i ≠ .journal → (pairSources i).1 ≠ x ∧ (pairSources i).2 ≠ x)
include hx hpair

theorem notPending_restartMeter (i : Meter) (h : NotPending x s) : NotPending x (restartMeter s i) := by
  have hne : meterPair i ≠ .journal := by cases i <;> exact nofun
  unfold restartMeter State.setMeter
  exact notPending_compareChanged hx (hpair _ hne) _ (h.of_alerts rfl)

theorem notPending_restartMeters (l : List Meter) (h : NotPending x s) : NotPending x (l.foldl restartMeter s) := by
  induction l generalizing s with
  | nil => exact h
  | cons i l ih => exact ih (notPending_restartMeter hx hpair i h)

theorem notPending_labelRecovery (h : NotPending x s) : NotPending x (labelRecovery s) := by
  unfold labelRecovery
  dsimp only
  exact notPending_foldl_offer hx _ (notPending_compareChanged hx (hpair .label nofun) _ (h.of_alerts rfl))

/-- R180: a source that neither a counter nor a meter nor the label pair raises is not pending after a forwarding
restart. -/
theorem notPending_restartPart (s : State) : NotPending x (restartPart s) := by
  have hstart : NotPending x s.restarting := Vector.getElem_replicate (alertIndex x).isLt
  have hmeters := notPending_restartMeters hx hpair meterList hstart
  rw [restartPart_eq]
  generalize meterList.foldl restartMeter s.restarting = u at hmeters
  exact notPending_labelRecovery hx hpair (hmeters.of_alerts rfl)

end

/-- R180: where nothing can be raised, a forwarding restart leaves its queues and its alert unit emptied. -/
theorem restartPart_silent (hc : s.counters.group.globalEnable = false)
    (ht : ∀ i, (s.thresholds.get i).low.enabled = false ∧ (s.thresholds.get i).high.enabled = false) :
    (restartPart s).egress = s.restarting.egress ∧ (restartPart s).uplink = s.restarting.uplink
      ∧ (restartPart s).alerts = s.restarting.alerts := by
  have hstart : Silent s.restarting := ⟨hc, ht, rfl⟩
  have hmeter (i : Meter) {u : State} (h : Silent u) : ∃ m, restartMeter u i = { u with meters := m } :=
    ⟨_, h.setMeter i _⟩
  have hmeters : ∃ m, meterList.foldl restartMeter s.restarting = { s.restarting with meters := m } := by
    obtain ⟨m, hm⟩ := hmeter .guest hstart
    obtain ⟨m', hm'⟩ := hmeter .office (hstart.of_parts (t := { s.restarting with meters := m }) rfl rfl rfl)
    obtain ⟨m'', hm''⟩ := hmeter .transfer (hstart.of_parts (t := { s.restarting with meters := m' }) rfl rfl rfl)
    refine ⟨m'', ?_⟩
    show restartMeter (restartMeter (restartMeter s.restarting .guest) .office) .transfer = _
    rw [hm, hm', hm'']
  obtain ⟨m, hm⟩ := hmeters
  have hend : Silent (nightRestart ({ s.restarting with meters := m } : State).guestsRestarted) :=
    hstart.of_parts rfl rfl rfl
  rw [restartPart_eq, hm, hend.labelRecovery]
  exact ⟨rfl, rfl, rfl⟩

/-! ## The obligation -/

/-- R17, R18: the frames after moves from emptied queues are alert frames built at the tick. -/
theorem alertsOnly_of_emptied (h : Moves .alertsOnly s t) (hegress : s.egress = ⟨[], [], [], []⟩)
    (huplink : s.uplink.queues = ⟨[], [], [], []⟩) (hfree : s.uplink.transmitting = none) :
    (∀ p, ∀ f ∈ t.egress.get p, f.kind = .alert ∧ f.entryTick = s.tick)
      ∧ (∀ p, ∀ f ∈ t.uplink.queues.get p, f.kind = .alert ∧ f.entryTick = s.tick)
      ∧ ∀ x, t.uplink.transmitting = some x → x.frame.kind = .alert ∧ x.frame.entryTick = s.tick := by
  have hnone (p : EgressPort) (f : Frame) : f ∉ s.egress.get p := by
    rw [hegress]; cases p <;> exact List.not_mem_nil
  have hnone' (q : UplinkQueue) (f : Frame) : f ∉ s.uplink.queues.get q := by
    rw [huplink]; cases q <;> exact List.not_mem_nil
  have htraced := h.traced
  refine ⟨fun p f hf => (htraced.egress p f hf).resolve_left (hnone p f),
    fun q f hf => (htraced.queues q f hf).resolve_left (hnone' q f), fun x hx => ?_⟩
  rcases htraced.transmitting x hx with hbusy | ⟨f, g, hfg, ⟨q, hq⟩ | hf⟩
  · rw [hfree] at hbusy; cases hbusy
  · exact absurd hq (hnone' q f)
  · rw [hfg, Frame.departing_kind, Frame.departing_entryTick]
    exact hf

/-- R173, R176: the sources that neither a counter nor the comparisons of a forwarding restart raise. -/
theorem not_raised_at_restart {x : AlertSource} (hx : x ∈ [AlertSource.journalLow, .journalHigh, .nightFailed, .labelLost]) :
    (x ≠ .counter1 ∧ x ≠ .counter28)
      ∧ ∀ i : PairId, i ≠ .journal → (pairSources i).1 ≠ x ∧ (pairSources i).2 ≠ x := by
  simp only [List.mem_cons, List.not_mem_nil, or_false] at hx
  rcases hx with rfl | rfl | rfl | rfl
  all_goals
    refine ⟨⟨nofun, nofun⟩, fun i hi => ?_⟩
    cases i with
    | journal => exact absurd rfl hi
    | _ => exact ⟨nofun, nofun⟩

theorem takeRequest_running (i : Instr) (s : State) : (takeRequest i s).running = s.running := by
  obtain ⟨queue, h⟩ := takeRequest_eq i s
  rw [h]; rfl

theorem openRun_taken (hclosed : s.running = false) (hclock : s.clock.set = false) :
    openRun s = done (s.withPart .running) := by
  unfold openRun
  rw [if_neg (by simp [hclosed]), if_neg (by simp [hclock])]

theorem openRun_refused (hrun : s.running = true) : openRun s = refused .state s := if_pos hrun

theorem closeRun_taken (hrun : s.running = true) : closeRun s = done (closePart s) := if_pos hrun

theorem closeRun_refused (hclosed : s.running = false) : closeRun s = refused .state s := if_neg (by simp [hclosed])

/-- Settles O54: OPEN, CLOSE and RESTART, each run on the state with its request taken. -/
theorem partStateCommandsAndRestart : Obligations.PartStateCommandsAndRestart := by
  rintro q label pool emptied lost s hlock rfl rfl hpool rfl
  rw [← lostAtRecovery_length] at hpool
  have hlocked (i : Instr) (code : Nat) (run : State → CmdResult) : lockedCommand q i code run s
      = respond q code (run (takeRequest i s)).renewed := lockedCommand_of_holds q i code run s hlock
  refine ⟨fun hclosed hclock => ?opened, fun hrun => ?openRefused, fun hclosed => ?closeRefused, fun hrun => ?closed,
    ?restarted⟩
  case opened =>
    refine congrArg Host.Outcome.next ((hlocked (.openPart q) 0x06 openRun).trans ?_)
    rw [openRun_taken (by rw [takeRequest_running, hclosed]) (by rw [takeRequest_keeps State.clock fun _ _ => rfl, hclock])]
    rfl
  case openRefused =>
    refine congrArg Host.Outcome.next ((hlocked (.openPart q) 0x06 openRun).trans ?_)
    rw [openRun_refused (by rw [takeRequest_running, hrun])]
    rfl
  case closeRefused =>
    refine congrArg Host.Outcome.next ((hlocked (.closePart q) 0x07 closeRun).trans ?_)
    rw [closeRun_refused (by rw [takeRequest_running, hclosed])]
    rfl
  case closed =>
    have hexec := hlocked (.closePart q) 0x07 closeRun
    rw [closeRun_taken (by rw [takeRequest_running, hrun])] at hexec
    obtain ⟨queue, hv⟩ := takeRequest_eq (.closePart q) s
    rw [hv] at hexec ⊢
    have hframes := alertsOnly_of_emptied
      (closePart_moves_alertsOnly { s with agent := { s.agent with queue := queue } }) rfl rfl rfl
    obtain ⟨hegress, hqueues, htransmitting⟩ := hframes
    have hquiet := closePart_quiet { s with agent := { s.agent with queue := queue } }
    have hcore := closePart_core (s := { s with agent := { s.agent with queue := queue } })
    refine ⟨closePart { s with agent := { s.agent with queue := queue } }, congrArg Host.Outcome.next hexec, hegress,
      hqueues, htransmitting, fun hd => ⟨egress_of_core (hcore hd), uplink_of_core (hcore hd)⟩, ?_⟩
    rw [hpool]
    exact hquiet
  case restarted =>
    have hexec := hlocked (.restart q) 0x10 fun s => done (restartPart s)
    obtain ⟨queue, hv⟩ := takeRequest_eq (.restart q) s
    rw [hv] at hexec ⊢
    have hframes := alertsOnly_of_emptied
      (restartPart_moves (L := .alertsOnly) { s with agent := { s.agent with queue := queue } }) rfl rfl rfl
    obtain ⟨hegress, hqueues, htransmitting⟩ := hframes
    have hquiet := restartPart_quiet { s with agent := { s.agent with queue := queue } }
    have hmeters := restartPart_meters { s with agent := { s.agent with queue := queue } }
    refine ⟨restartPart { s with agent := { s.agent with queue := queue } }, congrArg Host.Outcome.next hexec, hegress,
      hqueues, htransmitting, fun x hx => ?pending, fun hc ht => ?silent, fun m => ?meters, ?quiet⟩
    case pending =>
      obtain ⟨hcounter, hpair⟩ := not_raised_at_restart hx
      exact notPending_restartPart hcounter hpair _
    case silent => exact restartPart_silent (s := { s with agent := { s.agent with queue := queue } }) hc ht
    case meters =>
      rw [hmeters]
      cases m <;> rfl
    case quiet =>
      rw [hmeters, hpool]
      exact hquiet

end Sys2Proof.Machine

/-! SUPPORT. What a command does to the window table (R20 to R26, R33): it keeps it, counts a hit in it, writes the
shadow bank, exchanges the banks after the isolation check, or resets it. -/

namespace Sys2Proof.Machine

/- The proofs below run one after another: run together, their waiting threads outgrow the memory a check may use. -/
set_option Elab.async false

variable {s t : State}

/-! ## The shared operations -/

@[simp] theorem offer_classifier (o : Occurrence) (s : State) : (offer o s).classifier = s.classifier :=
  still_classifier (offer_still o s)
@[simp] theorem drop_classifier (r : DropReason) (o : Origin) (s : State) : (drop r o s).classifier = s.classifier :=
  still_classifier (drop_still r o s)
@[simp] theorem raise_classifier (x : AlertSource) (s : State) : (raise x s).classifier = s.classifier :=
  still_classifier (raise_still x s)
@[simp] theorem alertTest_classifier (s : State) : (alertTest s).classifier = s.classifier :=
  still_classifier (alertTest_still s)
@[simp] theorem depart_classifier (s : State) : (depart s).classifier = s.classifier :=
  still_classifier (depart_still s)
@[simp] theorem presentEgress_classifier (p : EgressPort) (f : Frame) (s : State) :
    (presentEgress p f s).classifier = s.classifier := still_classifier (presentEgress_still p f s)
@[simp] theorem presentUplink_classifier (q : UplinkQueue) (f : Frame) (s : State) :
    (presentUplink q f s).classifier = s.classifier := still_classifier (presentUplink_still q f s)
@[simp] theorem presentOn_classifier (g : Segment) (f : Frame) (s : State) :
    (presentOn g f s).classifier = s.classifier := still_classifier (presentOn_still g f s)
@[simp] theorem originate_egress_classifier (d : Datagram) (p : EgressPort) (s : State) :
    (originate d (presentEgress p) s).classifier = s.classifier :=
  still_classifier (originate_still d (presentEgress_still p) s)
@[simp] theorem originate_uplink_classifier (d : Datagram) (q : UplinkQueue) (s : State) :
    (originate d (presentUplink q) s).classifier = s.classifier :=
  still_classifier (originate_still d (presentUplink_still q) s)
@[simp] theorem respond_classifier (q : Requester) (code : Nat) (r : CmdResult) :
    (respond q code r).classifier = r.state.classifier := still_classifier (respond_still q code r)
@[simp] theorem compareChanged_classifier (i : PairId) (before : Nat) (s : State) :
    (compareChanged i before s).classifier = s.classifier := quiet_classifier (compareChanged_quiet i before s)
@[simp] theorem setMeter_classifier (s : State) (i : Meter) (m : ShareMeter) :
    (s.setMeter i m).classifier = s.classifier := compareChanged_classifier _ _ _
@[simp] theorem takeRequest_classifier (i : Instr) (s : State) : (takeRequest i s).classifier = s.classifier :=
  takeRequest_keeps State.classifier (fun _ _ => rfl) i s

/-- Operations folded over a list keep the window table where each one does. -/
theorem foldl_classifier {α : Type} {f : State → α → State} (hf : ∀ s a, (f s a).classifier = s.classifier)
    (l : List α) (s : State) : (l.foldl f s).classifier = s.classifier := by
  induction l generalizing s with
  | nil => rfl
  | cons a l ih => rw [List.foldl_cons, ih, hf]

/-! ## Meters, forwarding and the request tracker -/

@[simp] theorem presentMeter_classifier (i : Meter) (q : UplinkQueue) (f : Frame) (s : State) :
    (presentMeter i q f s).classifier = s.classifier :=
  let ⟨_, h⟩ := presentMeter_quiet i q f s
  (quiet_classifier h).trans rfl

@[simp] theorem releaseOne_classifier (i : Meter) (s : State) (x : HeldFrame) :
    (releaseOne i s x).classifier = s.classifier := by
  unfold releaseOne chargeStation
  split
  · split <;> simp
  · simp

@[simp] theorem releaseMeter_classifier (i : Meter) (s : State) : (releaseMeter i s).classifier = s.classifier := by
  unfold releaseMeter
  split
  · rfl
  · exact (foldl_classifier (releaseOne_classifier i) _ _).trans (setMeter_classifier _ _ _)

@[simp] theorem jointTest_classifier (a : Station) (f : Frame) (s : State) :
    (jointTest a f s).classifier = s.classifier := by
  unfold jointTest
  dsimp only
  split
  · simp
  · split
    · simp
    · split <;> simp

@[simp] theorem switchMeter_classifier (old new : DayNight) (s : State) (i : Meter) :
    (switchMeter old new s i).classifier = s.classifier := setMeter_classifier _ _ _

@[simp] theorem deliverForwarded_classifier (p : Passage) (copy : LookupCopy) (f : Frame) (s : State) :
    (deliverForwarded p copy f s).classifier = s.classifier := by
  unfold deliverForwarded
  split
  case h_5 => split <;> simp
  all_goals exact presentEgress_classifier _ _ _

@[simp] theorem forwardFrame_classifier (p : Passage) (copy : LookupCopy) (s : State) :
    (forwardFrame p copy s).classifier = s.classifier := by
  unfold forwardFrame
  dsimp only
  split
  · exact drop_classifier _ _ _
  · split <;> simp

@[simp] theorem sendTracked_classifier (p : Passage) (copy : LookupCopy) (s : State) :
    (sendTracked p copy s).classifier = s.classifier := by
  unfold sendTracked
  dsimp only
  split <;> simp

@[simp] theorem trackNew_classifier (p : Passage) (copy : LookupCopy) (n : Fin 32) (tag : BitVec 32) (s : State) :
    (trackNew p copy n tag s).classifier = s.classifier := by
  unfold trackNew
  dsimp only
  split
  · exact offer_classifier _ _
  · split <;> simp

@[simp] theorem trackKeyed_classifier (p : Passage) (copy : LookupCopy) (n : Fin 32) (s : State) :
    (trackKeyed p copy n s).classifier = s.classifier := by
  unfold trackKeyed
  dsimp only
  split
  · split <;> simp
  · exact trackNew_classifier _ _ _ _ _

@[simp] theorem trackFrame_classifier (p : Passage) (copy : LookupCopy) (s : State) :
    (trackFrame p copy s).classifier = s.classifier := by
  unfold trackFrame
  dsimp only
  split
  · exact drop_classifier _ _ _
  · split
    · exact drop_classifier _ _ _
    · split
      · exact drop_classifier _ _ _
      · split
        · exact drop_classifier _ _ _
        · split
          · exact drop_classifier _ _ _
          · split <;> simp

@[simp] theorem replyFrame_classifier (p : Passage) (i : Fin 64) (r : OpenRequest) (s : State) :
    (replyFrame p i r s).classifier = s.classifier := by
  unfold replyFrame
  dsimp only
  split
  · exact drop_classifier _ _ _
  · split <;> (simp only [drop_classifier, presentEgress_classifier, State.setSlot_classifier]; split <;> simp)

@[simp] theorem heldOverAfter_classifier (i : Fin 64) (r : OpenRequest) (s : State) :
    (heldOverAfter i r s).classifier = s.classifier := by
  unfold heldOverAfter
  split <;> simp

@[simp] theorem expireWaiting_classifier (i : Fin 64) (r : OpenRequest) (s : State) :
    (expireWaiting i r s).classifier = s.classifier := by
  unfold expireWaiting
  split <;> simp

@[simp] theorem expireHeldOver_classifier (i : Fin 64) (r : OpenRequest) (s : State) :
    (expireHeldOver i r s).classifier = s.classifier := offer_classifier _ _

/-! ## The night engine -/

/-- What keeps a state but for what sleeps keeps the window table. -/
theorem asleep_classifier (h : t.asleep = s.asleep) : t.classifier = s.classifier :=
  show t.asleep.classifier = s.asleep.classifier from congrArg State.classifier h

@[simp] theorem nightFollow_classifier (s : State) : (nightFollow s).classifier = s.classifier :=
  asleep_classifier (nightFollow_asleep s)

@[simp] theorem failSession_classifier (s : State) : (failSession s).classifier = s.classifier := by
  unfold failSession
  split <;> simp

@[simp] theorem placeCall_classifier (n : Nat) (s : State) : (placeCall n s).classifier = s.classifier :=
  (still_classifier (sendOpen_still { s with night := { s.night with attempts := n, backoffTimer := none } })).trans rfl

@[simp] theorem nightCall_classifier (s : State) : (nightCall s).classifier = s.classifier := by
  unfold nightCall
  split <;> simp

@[simp] theorem grantTaken_classifier (w : Byte) (s : State) : (grantTaken w s).classifier = s.classifier := by
  unfold grantTaken
  split <;> rfl

@[simp] theorem removeAcked_classifier (n : Nat) (s : State) : (removeAcked n s).classifier = s.classifier :=
  compareChanged_classifier _ _ _

@[simp] theorem takeAck_classifier (a : Station) (n : Seq) (s : State) : (takeAck a n s).classifier = s.classifier := by
  unfold takeAck
  dsimp only
  split
  · exact offer_classifier _ _
  · split
    · exact (nightFollow_classifier _).trans (removeAcked_classifier _ _)
    · exact removeAcked_classifier _ _

@[simp] theorem ackExpires_classifier (s : State) : (ackExpires s).classifier = s.classifier := by
  unfold ackExpires
  dsimp only
  split <;> simp

@[simp] theorem closeSession_classifier (s : State) : (closeSession s).classifier = s.classifier :=
  show (sendClosed s).classifier = _ from still_classifier (sendClosed_still s)

@[simp] theorem finishSession_classifier (s : State) : (finishSession s).classifier = s.classifier := by
  unfold finishSession
  split <;> simp

@[simp] theorem nightLinkLoss_classifier (s : State) : (nightLinkLoss s).classifier = s.classifier := by
  unfold nightLinkLoss
  split <;> rfl

/-! ## The label engine -/

@[simp] theorem deliveries_classifier (s : State) : (deliveries s).classifier = s.classifier :=
  let ⟨_, h⟩ := deliveries_still s
  (still_classifier h).trans rfl

@[simp] theorem labelRecovery_classifier (s : State) : (labelRecovery s).classifier = s.classifier :=
  (quiet_classifier (labelRecovery_quiet s)).trans rfl

@[simp] theorem takeUpdates_classifier (a : Station) (ws : List LabelWire) (s : State) :
    (takeUpdates a ws s).1.classifier = s.classifier := by
  induction ws generalizing s with
  | nil => rfl
  | cons w ws ih =>
    unfold takeUpdates
    split
    · exact (ih _).trans (offer_classifier _ _)
    · split
      · exact ih _
      · rfl

@[simp] theorem freeLabelBlock_classifier (s : State) : (freeLabelBlock s).classifier = s.classifier :=
  compareChanged_classifier _ _ _

@[simp] theorem giveUp_classifier (u : LabelUpdate) (why : GivenUp) (o : Origin) (s : State) :
    (giveUp u why o s).classifier = s.classifier := by
  unfold giveUp loseOldest
  simp only [offer_classifier]
  split <;> simp

@[simp] theorem returnUpdate_classifier (u : LabelUpdate) (o : Origin) (s : State) :
    (returnUpdate u o s).classifier = s.classifier := by
  unfold returnUpdate
  split <;> simp

@[simp] theorem applyOutcome_classifier (u : LabelUpdate) (x : LabelOutcome) (o : Origin) (s : State) :
    (applyOutcome u x o s).classifier = s.classifier := by
  unfold applyOutcome
  split
  · simp
  · exact giveUp_classifier _ _ _ _
  · split <;> simp

@[simp] theorem takeOutcome_classifier (n : BitVec 24) (x : LabelOutcome) (o : Origin) (s : State) :
    (takeOutcome n x o s).classifier = s.classifier := by
  unfold takeOutcome
  split
  · exact offer_classifier _ _
  · exact (deliveries_classifier _).trans (applyOutcome_classifier _ _ _ _)

/-! ## The schedule -/

@[simp] theorem setProfile_classifier (v : DayNight) (o : LevelOrigin) (s : State) :
    (setProfile v o s).classifier = s.classifier := by
  unfold setProfile
  dsimp only
  split
  · rfl
  · exact foldl_classifier (switchMeter_classifier _ _) _ _

@[simp] theorem setLabelWindow_classifier (v : Gate) (o : LevelOrigin) (s : State) :
    (setLabelWindow v o s).classifier = s.classifier := by
  unfold setLabelWindow
  dsimp only
  split <;> simp

@[simp] theorem setGuestState_classifier (v : Gate) (o : LevelOrigin) (s : State) :
    (setGuestState v o s).classifier = s.classifier := by
  unfold setGuestState
  dsimp only
  split <;> simp

@[simp] theorem act_classifier (action : ScheduleAction) (o : LevelOrigin) (s : State) :
    (act action o s).classifier = s.classifier := by
  cases action <;> simp [act]

@[simp] theorem fireEntries_classifier (s : State) : (fireEntries s).classifier = s.classifier := by
  unfold fireEntries
  split
  · refine foldl_classifier (fun s i => ?_) _ _
    unfold fireEntry
    split <;> simp
  · rfl

@[simp] theorem replay_classifier (s : State) : (replay s).classifier = s.classifier := by
  refine foldl_classifier (fun s k => ?_) _ _
  unfold replayKind
  split <;> simp

@[simp] theorem clockSet_classifier (day second : Nat) (s : State) :
    (clockSet day second s).classifier = s.classifier := by
  unfold clockSet
  dsimp only
  split <;> simp

/-! ## Messages -/

@[simp] theorem nightForeign_classifier (a : Station) (s : State) : (nightForeign a s).classifier = s.classifier :=
  offer_classifier _ _

theorem ifTaken_classifier (m : NightSource) (inRange : Bool) {take : State → State}
    (h : (take s).classifier = s.classifier) : (ifTaken m inRange take s).classifier = s.classifier := by
  unfold ifTaken
  split
  · exact h
  · exact nightForeign_classifier _ _

@[simp] theorem wakeMessage_classifier (m : NightSource) (s : State) : (wakeMessage m s).classifier = s.classifier :=
  ifTaken_classifier m _ (nightCall_classifier s)

@[simp] theorem grantMessage_classifier (m : NightSource) (w : Byte) (day : BitVec 16) (second : BitVec 32)
    (s : State) : (grantMessage m w day second s).classifier = s.classifier := by
  refine ifTaken_classifier m _ ?_
  unfold takeGrant
  split
  · dsimp only
    split <;> simp
  · rfl

@[simp] theorem ackMessage_classifier (m : NightSource) (n : Seq) (s : State) :
    (ackMessage m n s).classifier = s.classifier := ifTaken_classifier m _ (takeAck_classifier _ _ s)

@[simp] theorem labelsMessage_classifier (m : NightSource) (batch : BitVec 32) (ws : List LabelWire) (s : State) :
    (labelsMessage m batch ws s).classifier = s.classifier := by
  refine ifTaken_classifier m _ ?_
  unfold takeLabels
  split
  · simp [still_classifier (sendLabelAck_still _ _ _)]
  · exact nightForeign_classifier _ _

@[simp] theorem finishMessage_classifier (m : NightSource) (s : State) :
    (finishMessage m s).classifier = s.classifier := ifTaken_classifier m _ (finishSession_classifier s)

theorem overUplink_classifier (a : Station) {take : State → State} (h : (take s).classifier = s.classifier) :
    (overUplink a take s).classifier = s.classifier := by
  unfold overUplink
  split
  · rfl
  · split
    · exact drop_classifier _ _ _
    · exact h

@[simp] theorem nightDatagram_classifier (a : Station) (b : NetAddr) (v : Service) (payload : Bytes) (s : State) :
    (nightDatagram a b v payload s).classifier = s.classifier := by
  unfold nightDatagram
  split <;> simp

@[simp] theorem outcomeMessage_classifier (a : Station) (n : BitVec 24) (v : Byte) (s : State) :
    (outcomeMessage a n v s).classifier = s.classifier := by
  unfold outcomeMessage
  split
  · exact drop_classifier _ _ _
  · split <;> simp

theorem overLabel_classifier (a : Station) {take : State → State} (h : (take s).classifier = s.classifier) :
    (overLabel a take s).classifier = s.classifier := by
  unfold overLabel
  split
  · rfl
  · split
    · exact drop_classifier _ _ _
    · split
      · exact drop_classifier _ _ _
      · exact h

@[simp] theorem readyMessage_classifier (n : Byte) (s : State) : (readyMessage n s).classifier = s.classifier :=
  deliveries_classifier _

@[simp] theorem baseStationDatagram_classifier (a : Station) (payload : Bytes) (s : State) :
    (baseStationDatagram a payload s).classifier = s.classifier := by
  unfold baseStationDatagram
  split <;> simp

/-! ## The spool unit -/

@[simp] theorem answerTill_classifier (p : Passage) (copy : LookupCopy) (n : Fin 32) (kind code : Nat)
    (number sequence : Seq) (event : SpoolEvent) (s : State) :
    (answerTill p copy n kind code number sequence event s).classifier = s.classifier :=
  (offer_classifier _ _).trans (originate_egress_classifier _ _ s)

@[simp] theorem append_classifier (n : Fin 32) (number : Seq) (payload : Bytes) (s : State) :
    (append n number payload s).classifier = s.classifier := compareChanged_classifier _ _ _

@[simp] theorem appendNew_classifier (p : Passage) (copy : LookupCopy) (n : Fin 32) (number : Seq) (s : State) :
    (appendNew p copy n number s).classifier = s.classifier := by
  unfold appendNew
  dsimp only
  split <;> simp

@[simp] theorem checkRecord_classifier (p : Passage) (copy : LookupCopy) (n : Fin 32) (s : State) :
    (checkRecord p copy n s).classifier = s.classifier := by
  unfold checkRecord deduplicate
  dsimp only
  split
  · exact answerTill_classifier _ _ _ _ _ _ _ _ _
  · split
    · exact answerTill_classifier _ _ _ _ _ _ _ _ _
    · split
      · exact appendNew_classifier _ _ _ _ _
      · split
        · exact answerTill_classifier _ _ _ _ _ _ _ _ _
        · split <;> simp

@[simp] theorem spoolFrame_classifier (p : Passage) (copy : LookupCopy) (s : State) :
    (spoolFrame p copy s).classifier = s.classifier := by
  unfold spoolFrame
  dsimp only
  split
  · exact drop_classifier _ _ _
  · split
    · exact drop_classifier _ _ _
    · split
      · exact drop_classifier _ _ _
      · split
        · exact drop_classifier _ _ _
        · split
          · exact drop_classifier _ _ _
          · split <;> simp

end Sys2Proof.Machine

/-! SUPPORT. Every command as a change of the window table, and the isolation law (R35) read off the changes. -/

namespace Sys2Proof.Machine

/- The proofs below run one after another: run together, their waiting threads outgrow the memory a check may use. -/
set_option Elab.async false

variable {c : Instr} {s t u : State}

/-! ## What a command can do to the window table -/

/-- What one command can make of the window table. -/
inductive TableChange (c : Classifier) : Classifier → Prop
  | kept : TableChange c c
  /-- R26. -/
  | hit (g : Segment) (copy : LookupCopy) : TableChange c (c.hit g copy)
  /-- R21 to R23: the shadow bank alone is written. -/
  | written (k : BankId) (b : Bank) : k ≠ c.active → TableChange c (c.setBank k b)
  /-- R33: the banks exchange their roles after the isolation check. -/
  | swapped : (c.bank c.shadow).offence = none → TableChange c { c with active := c.shadow }
  /-- R1, R38. -/
  | reset : TableChange c { active := .a, bankA := Bank.reset, bankB := Bank.reset }

/-- The window table of a state becomes that of another by one change. -/
def Retables (s t : State) : Prop := TableChange s.classifier t.classifier

theorem Retables.of_eq (h : t.classifier = s.classifier) : Retables s t := by
  rw [Retables, h]
  exact .kept

theorem Retables.of_from (h : Retables s t) (e : s.classifier = u.classifier) : Retables u t := by
  rwa [Retables, ← e]

theorem Retables.of_to (h : Retables s t) (e : u.classifier = t.classifier) : Retables s u := by
  rwa [Retables, e]

/-- An operation that a command takes only under a condition. -/
theorem Retables.ite {p : Prop} [Decidable p] (h : p → Retables s t) : Retables s (if p then t else s) := by
  split
  · next hp => exact h hp
  · exact .of_eq rfl

/-! ## Isolation (R34, R35) -/

theorem setBank_bank_same (c : Classifier) (k : BankId) (b : Bank) : (c.setBank k b).bank k = b := by
  cases k <;> rfl

theorem setBank_bank_of_ne (c : Classifier) {k k' : BankId} (b : Bank) (h : k' ≠ k) :
    (c.setBank k b).bank k' = c.bank k' := by
  revert h
  cases k <;> cases k' <;> simp [Classifier.bank, Classifier.setBank]

/-- R34: the isolation check does not look at hit counts. -/
theorem hitEntry_offence (b : Bank) (i : Fin 64) : (b.hitEntry i).offence = b.offence := by
  have hentry (j : Fin 64) : (b.hitEntry i).entries[j].offends = b.entries[j].offends := by
    show (b.entries.set i _)[j.val].offends = _
    rw [Vector.getElem_set]
    split
    · next hij =>
      obtain rfl := Fin.ext hij
      rfl
    · rfl
  simp only [Bank.offence, hentry]
  rfl

theorem hitDefault_offence (b : Bank) (g : Segment) : (b.hitDefault g).offence = b.offence := by
  cases g <;> rfl

/-- R26: a lookup's hit is counted in the active bank. -/
theorem hit_activeBank (c : Classifier) (g : Segment) (copy : LookupCopy) : (c.hit g copy).activeBank
    = match copy.index with
      | some i => c.activeBank.hitEntry i
      | none => c.activeBank.hitDefault g := by
  rw [Classifier.activeBank, Classifier.hit_active, Classifier.hit]
  cases copy.index <;> exact setBank_bank_same _ _ _

/-- R35: no change of the window table lets an offence into the active bank. -/
theorem TableChange.keeps_isolation {c d : Classifier} (h : TableChange c d) (hc : c.activeBank.offence = none) :
    d.activeBank.offence = none := by
  cases h with
  | kept => exact hc
  | hit g copy =>
    rw [hit_activeBank]
    split
    · rwa [hitEntry_offence]
    · rwa [hitDefault_offence]
  | written k b hk =>
    rw [Classifier.activeBank, Classifier.setBank_active, setBank_bank_of_ne c b hk.symm]
    exact hc
  | swapped hshadow => exact hshadow
  | reset => exact reset_offence

/-! ## The receive path -/

theorem lookupFrame_retables (p : Passage) (s : State) : Retables s (lookupFrame p s) := by
  have hhit : Retables s (s.lookedUp p) := by
    rw [Retables, still_classifier (lookedUp_still s p)]
    exact .hit _ _
  rw [lookupFrame_eq]
  unfold takeAction
  split
  · exact hhit.of_to (forwardFrame_classifier _ _ _)
  · exact hhit.of_to (trackFrame_classifier _ _ _)
  · exact hhit.of_to (spoolFrame_classifier _ _ _)
  · exact hhit.of_to (drop_classifier _ _ _)

theorem passOn_retables (p : Passage) (s : State) : Retables s (passOn p s) := by
  unfold passOn
  split
  · split
    · exact .of_eq (replyFrame_classifier _ _ _ _)
    · exact lookupFrame_retables p s
  · exact lookupFrame_retables p s

@[simp] theorem joinRequests_classifier (g : Segment) (a : Station) (r : Request) (s : State) :
    (joinRequests g a r s).classifier = s.classifier := by
  unfold joinRequests setAlertDestination
  split
  · split <;> simp
  · exact offer_classifier _ _

@[simp] theorem remoteRequest_classifier (bs : Bytes) (ip : Ipv4) (s : State) :
    (remoteRequest bs ip s).classifier = s.classifier := by
  unfold remoteRequest
  dsimp only
  split <;> simp

theorem deliverLocal_retables (p : Passage) (s : State) : Retables s (deliverLocal p s) := by
  unfold deliverLocal deliverRunning
  dsimp only
  split
  · exact .of_eq (remoteRequest_classifier _ _ _)
  · split
    · split
      · exact .of_eq (by split <;> simp)
      · split
        · exact .of_eq (by split <;> simp)
        · split
          · exact .of_eq (drop_classifier _ _ _)
          · exact passOn_retables p s
    · exact .of_eq (drop_classifier _ _ _)

section
variable {next : State → State} (hnext : ∀ u, u.classifier = s.classifier → Retables s (next u))
include hnext

theorem unknownGuest_retables (a : Station) (b : NetAddr) (n : Nat) : Retables s (unknownGuest a b n next s) := by
  unfold unknownGuest
  dsimp only
  split
  · exact .of_eq (drop_classifier _ _ _)
  · split
    · exact hnext _ rfl
    · split
      · exact .of_eq (drop_classifier _ _ _)
      · exact hnext _ (offer_classifier _ _)

theorem knownGuest_retables (e : GuestEntry) (b : NetAddr) (n : Nat) : Retables s (knownGuest e b n next s) := by
  unfold knownGuest
  dsimp only
  split
  · exact .of_eq (drop_classifier _ _ _)
  · split
    · exact .of_eq (drop_classifier _ _ _)
    · exact hnext _ rfl

theorem guestSource_retables (a : Station) (b : NetAddr) (n : Nat) : Retables s (guestSource a b n next s) := by
  unfold guestSource
  dsimp only
  split
  · exact .of_eq (drop_classifier _ _ _)
  · split
    · exact .of_eq (drop_classifier _ _ _)
    · split
      · exact knownGuest_retables hnext _ _ _
      · exact unknownGuest_retables hnext _ _ _

end

/-- A source check lets no more happen to the window table than the frame's further passage does. -/
theorem sourceCheck_retables {next : Option (Fin 32) → State → State}
    (hnext : ∀ n u, u.classifier = s.classifier → Retables s (next n u)) (g : Segment) (a : Station) (b : NetAddr)
    (n : Nat) : Retables s (sourceCheck g a b n next s) := by
  unfold sourceCheck
  split
  · exact hnext _ _ rfl
  · split
    · split
      · exact hnext _ _ rfl
      · exact .of_eq (drop_classifier _ _ _)
    · exact guestSource_retables (hnext none) _ _ _
    · exact hnext _ _ rfl

theorem sortFrame_retables (g : Segment) (bs : Bytes) (s : State) : Retables s (sortFrame g bs s) := by
  unfold sortFrame ipv4Frame
  dsimp only
  split
  · split
    · exact .of_eq (drop_classifier _ _ _)
    · split
      · exact .of_eq (drop_classifier _ _ _)
      · exact sourceCheck_retables (fun _ u hu => (deliverLocal_retables _ u).of_from hu) _ _ _ _
  · split
    · exact sourceCheck_retables (fun _ u hu => .of_eq ((still_classifier (arpFrame_still _ _ u)).trans hu)) _ _ _ _
    · split
      · exact .of_eq (joinRequests_classifier _ _ _ _)
      · exact .of_eq (drop_classifier _ _ _)

theorem receiveFrame_retables (g : Segment) (fcs : Bool) (bs : Bytes) (s : State) :
    Retables s (receiveFrame g fcs bs s) := by
  unfold receiveFrame
  split
  · exact .of_eq rfl
  · split
    · exact .of_eq (offer_classifier _ _)
    · split
      · exact .of_eq rfl
      · exact (sortFrame_retables _ _ _).of_from (offer_classifier _ _)

/-! ## The lock's commands -/

theorem openCommand_retables {q : Requester} {i : Instr} {code : Nat} {run : State → CmdResult}
    (h : ∀ s, Retables s (run s).state) (s : State) : Retables s (openCommand q i code run s) :=
  ((h _).of_from (takeRequest_classifier i s)).of_to (respond_classifier _ _ _)

theorem lockedCommand_retables {q : Requester} {i : Instr} {code : Nat} {run : State → CmdResult}
    (h : ∀ s, Retables s (run s).state) (s : State) : Retables s (lockedCommand q i code run s) := by
  refine openCommand_retables (fun s => ?_) s
  split
  · exact (h s).of_to rfl
  · exact .of_eq rfl

/-- A lock-requiring command whose run keeps the window table. -/
theorem lockedCommand_kept {q : Requester} {i : Instr} {code : Nat} {run : State → CmdResult}
    (h : ∀ s, (run s).state.classifier = s.classifier) (s : State) : Retables s (lockedCommand q i code run s) :=
  lockedCommand_retables (fun s => .of_eq (h s)) s

section
variable {α : Type} {first : BitVec 32} {entries : List α}

theorem writeSingle_retables {take : α → State → CmdResult} (h : ∀ w, Retables s (take w s).state) :
    Retables s (writeSingle first entries take s).state := by
  unfold writeSingle
  split
  · exact .of_eq rfl
  · split
    · exact .of_eq rfl
    · exact h _

theorem writeMany_retables {low high : Nat} {take : State → CmdResult} (h : Retables s (take s).state) :
    Retables s (writeMany low high first entries take s).state := by
  unfold writeMany
  split
  · exact .of_eq rfl
  · split
    · exact .of_eq rfl
    · exact h

theorem writeNamed_retables {low high : Nat} {fault : Option Nat} {take : State → CmdResult}
    (h : Retables s (take s).state) : Retables s (writeNamed low high first entries fault take s).state := by
  unfold writeNamed
  split
  · exact .of_eq rfl
  · split
    · exact .of_eq rfl
    · split
      · exact .of_eq rfl
      · exact h

end

/-! ## The writes (R21 to R23, R187) -/

theorem writePortsRun_retables (first : BitVec 32) (es : List PortsWrite) (s : State) :
    Retables s (writePortsRun first es s).state := by
  refine writeSingle_retables fun w => .of_eq ?_
  unfold writePortsEntry
  split
  · rfl
  · split
    · rfl
    · split
      · rfl
      · exact deliveries_classifier _

theorem writeOfficeRun_retables (first : BitVec 32) (es : List OfficeStation) (s : State) :
    Retables s (writeOfficeRun first es s).state := by
  refine writeMany_retables (.of_eq ?_)
  dsimp only
  split <;> rfl

/-- R21: a write of window entries reaches the shadow bank alone. -/
theorem writeWindowRun_retables (k : BankId) (first : BitVec 32) (es : List WindowWrite) (s : State) :
    Retables s (writeWindowRun k first es s).state := by
  unfold writeWindowRun
  split
  · exact .of_eq rfl
  · next hk => exact writeNamed_retables (.written k _ hk)

/-- R22: a write of defaults reaches the shadow bank alone. -/
theorem writeDefaultsRun_retables (k : BankId) (first : BitVec 32) (es : List DefaultWrite) (s : State) :
    Retables s (writeDefaultsRun k first es s).state := by
  unfold writeDefaultsRun
  split
  · exact .of_eq rfl
  · next hk => exact writeNamed_retables (.written k _ hk)

/-- R23: a write of an identity reaches the shadow bank alone. -/
theorem writeIdentityRun_retables (first : BitVec 32) (es : List (BitVec 32)) (s : State) :
    Retables s (writeIdentityRun first es s).state := by
  refine writeMany_retables ?_
  dsimp only
  split
  · next hk => exact .written _ _ hk.2
  · exact .of_eq rfl

theorem writeMetersRun_retables (first : BitVec 32) (es : List MeterWrite) (s : State) :
    Retables s (writeMetersRun first es s).state := by
  refine writeMany_retables (.of_eq ?_)
  dsimp only
  split
  · rfl
  · exact foldl_classifier (fun _ _ => setMeter_classifier _ _ _) _ _

theorem writeThresholdsRun_retables (first : BitVec 32) (es : List PairWrite) (s : State) :
    Retables s (writeThresholdsRun first es s).state :=
  writeMany_retables (.of_eq (by simp only [doneClamped]))

theorem writeTillsRun_retables (first : BitVec 32) (es : List TillWrite) (s : State) :
    Retables s (writeTillsRun first es s).state :=
  writeNamed_retables (.of_eq (by simp only [doneClamped]))

theorem writeScheduleRun_retables (first : BitVec 32) (es : List ScheduleWrite) (s : State) :
    Retables s (writeScheduleRun first es s).state := by
  refine writeMany_retables (.of_eq ?_)
  split <;> rfl

/-- R187: what the bytes of a WRITE spell changes the window table as the write of its table does. -/
theorem writeRunOf_retables {q : Requester} {table : Byte} {first : BitVec 32} {count : BitVec 16} {data : Bytes}
    {run : State → CmdResult} (h : writeRunOf q table first count data = some run) (s : State) :
    Retables s (run s).state := by
  unfold writeRunOf at h
  split at h <;> cases h
  · exact writePortsRun_retables _ _ s
  · exact writeOfficeRun_retables _ _ s
  · exact writeWindowRun_retables _ _ _ s
  · exact writeDefaultsRun_retables _ _ _ s
  · exact writeIdentityRun_retables _ _ s
  · exact writeSingle_retables fun _ => .of_eq rfl
  · exact writeMetersRun_retables _ _ s
  · exact writeThresholdsRun_retables _ _ s
  · exact writeSingle_retables fun _ => .of_eq rfl
  · exact writeTillsRun_retables _ _ s
  · exact writeSingle_retables fun _ => .of_eq rfl
  · exact writeSingle_retables fun _ => .of_eq rfl
  · exact writeSingle_retables fun _ => .of_eq rfl
  · exact writeSingle_retables fun _ => .of_eq rfl
  · exact writeScheduleRun_retables _ _ s
  · exact writeSingle_retables fun _ => .of_eq rfl
  · exact writeSingle_retables fun _ => .of_eq rfl
  · exact .of_eq rfl

/-! ## The other commands -/

theorem withCursor_classifier (s : State) (p : Party) (x : Cursor) : (s.withCursor p x).classifier = s.classifier := by
  cases p <;> rfl

theorem readTable_classifier (q : Requester) (table : Byte) (first : BitVec 32) (count : BitVec 16) (s : State) :
    (readTable q table first count s).state.classifier = s.classifier := by
  unfold readTable
  split
  · rfl
  · split
    · rfl
    · exact withCursor_classifier _ _ _

theorem readOn_classifier (q : Requester) (count : BitVec 16) (s : State) :
    (readOn q count s).state.classifier = s.classifier := by
  unfold readOn
  split
  · rfl
  · exact withCursor_classifier _ _ _

/-- R33, R34: SWAP exchanges the banks only when the shadow bank has no offence. -/
theorem swapRun_retables (s : State) : Retables s (swapRun s).state := by
  unfold swapRun
  split
  · exact .of_eq rfl
  · next h => exact .swapped h

theorem openRun_classifier (s : State) : (openRun s).state.classifier = s.classifier := by
  unfold openRun
  split
  · rfl
  · show (if s.clock.set then replay (s.withPart .running) else s.withPart .running).classifier = _
    split
    · exact replay_classifier _
    · rfl

theorem closeRun_classifier (s : State) : (closeRun s).state.classifier = s.classifier := by
  unfold closeRun
  split
  · exact (quiet_classifier (closePart_quiet s)).trans rfl
  · rfl

theorem restartPart_classifier (s : State) : (restartPart s).classifier = s.classifier :=
  (quiet_classifier (restartPart_quiet s)).trans rfl

theorem profileRun_classifier (v : Byte) (s : State) : (profileRun v s).state.classifier = s.classifier := by
  unfold profileRun
  split
  · exact setProfile_classifier _ _ _
  · exact setProfile_classifier _ _ _
  · rfl

theorem labelsRun_classifier (v : Byte) (s : State) : (labelsRun v s).state.classifier = s.classifier := by
  unfold labelsRun
  split
  · exact setLabelWindow_classifier _ _ _
  · rfl

theorem guestRun_classifier (v : Byte) (s : State) : (guestRun v s).state.classifier = s.classifier := by
  unfold guestRun
  split
  · exact setGuestState_classifier _ _ _
  · rfl

theorem callRun_classifier (s : State) : (callRun s).state.classifier = s.classifier := by
  unfold callRun
  split
  · exact nightCall_classifier s
  · rfl

theorem stopRun_classifier (s : State) : (stopRun s).state.classifier = s.classifier := by
  unfold stopRun
  split
  · rfl
  · exact closeSession_classifier s

theorem discardRun_classifier (s : State) : (discardRun s).state.classifier = s.classifier := by
  unfold discardRun
  split
  · exact compareChanged_classifier _ _ _
  · rfl

theorem adjustQueuesRun_classifier (w : QueueLimitsWrite) (s : State) :
    (adjustQueuesRun w s).state.classifier = s.classifier := by
  unfold adjustQueuesRun
  split
  · rfl
  · exact nightFollow_classifier _

theorem barRun_classifier (a : Station) (s : State) : (barRun a s).state.classifier = s.classifier := by
  unfold barRun
  split <;> rfl

theorem unbarRun_classifier (a : Station) (s : State) : (unbarRun a s).state.classifier = s.classifier := by
  unfold unbarRun
  split
  · rfl
  · split <;> rfl

theorem configureRun_classifier (ws : Vector CounterWrite 8) (g : GroupControls) (s : State) :
    (configureRun ws g s).state.classifier = s.classifier := by
  unfold configureRun
  split <;> rfl

theorem startRun_classifier (form : Byte) (s : State) : (startRun form s).state.classifier = s.classifier := by
  unfold startRun
  split <;> rfl

theorem clearRun_classifier (ns : List Byte) (s : State) : (clearRun ns s).state.classifier = s.classifier := by
  unfold clearRun
  split <;> rfl

theorem alertClearRun_classifier (xs : List Byte) (s : State) :
    (alertClearRun xs s).state.classifier = s.classifier := by
  unfold alertClearRun
  split <;> rfl

theorem claimRun_classifier (p : Party) (s : State) : (claimRun p s).state.classifier = s.classifier := by
  unfold claimRun
  split <;> rfl

theorem releaseRun_classifier (p : Party) (s : State) : (releaseRun p s).state.classifier = s.classifier := by
  unfold releaseRun
  split <;> rfl

/-! ## The events -/

theorem afterLinkUp_classifier (g : Segment) (s : State) : (afterLinkUp g s).classifier = s.classifier :=
  asleep_classifier (afterLinkUp_asleep g s)

theorem afterLinkLoss_classifier (g : Segment) (s : State) : (afterLinkLoss g s).classifier = s.classifier := by
  cases g
  case uplink => exact nightLinkLoss_classifier _
  case label => exact labelRecovery_classifier _
  all_goals rfl

theorem meterRelease_classifier (m : Meter) (s : State) : (if (s.meters.get m).hold = [] then s
    else if m = .transfer then nightFollow (releaseMeter m s) else releaseMeter m s).classifier = s.classifier := by
  split
  · rfl
  · split <;> simp

/-- What each command does to the window table. -/
theorem exec_retables (h : exec c s = .next t) : Retables s t := by
  have kept {t : State} (h : t.classifier = s.classifier) : Retables s t := .of_eq h
  cases c <;> cases h
  case deviceReset => exact .reset
  case linkUp g v => exact kept (afterLinkUp_classifier g _)
  case linkLoss g => exact .ite fun _ => kept (afterLinkLoss_classifier g _)
  case frameReceived g fcs bs => exact receiveFrame_retables g fcs bs s
  case egressTransmissionEnd p => exact .ite fun _ => kept rfl
  case uplinkTransmissionEnd => exact .ite fun _ => kept ((nightFollow_classifier _).trans (depart_classifier _))
  case msTickAdvance => exact kept rfl
  case meterRelease m => exact kept (meterRelease_classifier m s)
  case guestAging => exact .ite fun _ => kept rfl
  case secondAdvance => exact .ite fun _ => kept (fireEntries_classifier _)
  case waitingExpiry i => exact kept (by split <;> simp)
  case heldOverExpiry i => exact kept (by split <;> simp)
  case wake m => exact kept (overUplink_classifier _ (wakeMessage_classifier m s))
  case grant m w d x => exact kept (overUplink_classifier _ (grantMessage_classifier m w d x s))
  case ack m n => exact kept (overUplink_classifier _ (ackMessage_classifier m n s))
  case labelsMessage m b ws => exact kept (overUplink_classifier _ (labelsMessage_classifier m b ws s))
  case finish m => exact kept (overUplink_classifier _ (finishMessage_classifier m s))
  case callTimerExpiry => exact .ite fun _ => kept (failSession_classifier _)
  case backoffTimerExpiry => exact .ite fun _ => kept (placeCall_classifier _ s)
  case ackTimerExpiry => exact .ite fun _ => kept (ackExpires_classifier s)
  case settleTimerExpiry => exact .ite fun _ => kept (closeSession_classifier s)
  case ready a n => exact kept (overLabel_classifier _ (readyMessage_classifier n s))
  case outcome a n v => exact kept (overLabel_classifier _ (outcomeMessage_classifier a n v s))
  case pacingTimerExpiry => exact .ite fun _ => kept (deliveries_classifier _)
  case outcomeTimeout n => exact kept (by split <;> simp)
  case alertTimerExpiry => exact .ite fun _ => kept (alertTest_classifier _)
  case leaseExpiry => exact .ite fun _ => kept rfl
  case identify q => exact openCommand_retables (fun _ => .of_eq rfl) s
  case read q x i n => exact openCommand_retables (fun s => .of_eq (readTable_classifier q x i n s)) s
  case readNext q n => exact openCommand_retables (fun s => .of_eq (readOn_classifier q n s)) s
  case write q x i n bs =>
    split
    · next hrun => exact lockedCommand_retables (writeRunOf_retables hrun) s
    · exact openCommand_retables (fun _ => .of_eq rfl) s
  case writePorts q i es => exact lockedCommand_retables (writePortsRun_retables i es) s
  case writeOfficeStations q i es => exact lockedCommand_retables (writeOfficeRun_retables i es) s
  case writeWindow q k i es => exact lockedCommand_retables (writeWindowRun_retables k i es) s
  case writeDefaults q k i es => exact lockedCommand_retables (writeDefaultsRun_retables k i es) s
  case writeBankIdentity q i es => exact lockedCommand_retables (writeIdentityRun_retables i es) s
  case writeUplink => exact lockedCommand_retables (fun _ => writeSingle_retables fun _ => .of_eq rfl) s
  case writeMeters q i es => exact lockedCommand_retables (writeMetersRun_retables i es) s
  case writeThresholds q i es => exact lockedCommand_retables (writeThresholdsRun_retables i es) s
  case writeGuest => exact lockedCommand_retables (fun _ => writeSingle_retables fun _ => .of_eq rfl) s
  case writeTills q i es => exact lockedCommand_retables (writeTillsRun_retables i es) s
  case writeTracker => exact lockedCommand_retables (fun _ => writeSingle_retables fun _ => .of_eq rfl) s
  case writePool => exact lockedCommand_retables (fun _ => writeSingle_retables fun _ => .of_eq rfl) s
  case writeNight => exact lockedCommand_retables (fun _ => writeSingle_retables fun _ => .of_eq rfl) s
  case writeLabel => exact lockedCommand_retables (fun _ => writeSingle_retables fun _ => .of_eq rfl) s
  case writeSchedule q i es => exact lockedCommand_retables (writeScheduleRun_retables i es) s
  case writeAlerts => exact lockedCommand_retables (fun _ => writeSingle_retables fun _ => .of_eq rfl) s
  case writeAgent => exact lockedCommand_retables (fun _ => writeSingle_retables fun _ => .of_eq rfl) s
  case swap q => exact lockedCommand_retables swapRun_retables s
  case openPart q => exact lockedCommand_kept openRun_classifier s
  case closePart q => exact lockedCommand_kept closeRun_classifier s
  case restart q => exact lockedCommand_kept restartPart_classifier s
  case setClock q d x => exact lockedCommand_kept (clockSet_classifier _ _) s
  case profile q v => exact lockedCommand_kept (profileRun_classifier v) s
  case labels q v => exact lockedCommand_kept (labelsRun_classifier v) s
  case guest q v => exact lockedCommand_kept (guestRun_classifier v) s
  case call q => exact lockedCommand_kept callRun_classifier s
  case stop q => exact lockedCommand_kept stopRun_classifier s
  case journalDiscard q => exact lockedCommand_kept discardRun_classifier s
  case adjustQueues q w => exact lockedCommand_kept (adjustQueuesRun_classifier w) s
  case bar q a => exact lockedCommand_kept (barRun_classifier a) s
  case unbar q a => exact lockedCommand_kept (unbarRun_classifier a) s
  case countersConfigure q ws g => exact lockedCommand_kept (configureRun_classifier ws g) s
  case countersStart q => exact lockedCommand_kept (startRun_classifier q.form) s
  case countersClear q ns => exact lockedCommand_kept (clearRun_classifier ns) s
  case alertClear q xs => exact lockedCommand_kept (alertClearRun_classifier xs) s
  case labelClear q => exact lockedCommand_kept (fun _ => rfl) s
  case claim q => exact openCommand_retables (fun s => .of_eq (claimRun_classifier q.party s)) s
  case release q => exact openCommand_retables (fun s => .of_eq (releaseRun_classifier q.party s)) s
  case unknownCommand q code => exact openCommand_retables (fun _ => .of_eq rfl) s

/-- Settles O11: every command changes the window table in one of five ways, and each keeps the active bank free of an
offence. -/
theorem everyStepKeepsTheIsolationLaw : Obligations.EveryStepKeepsTheIsolationLaw := by
  intro s t hlaw h
  unfold step at h
  split at h
  · exact (exec_retables h).keeps_isolation hlaw
  · split at h
    · exact (exec_retables h).keeps_isolation hlaw
    · cases h
      exact hlaw

end Sys2Proof.Machine

/-! SUPPORT. The isolation check (R34), and what a frame received on GUEST leaves alone while the active bank passes it
(R35, R78). -/

namespace Sys2Proof.Machine

/- The proofs below run one after another: run together, their waiting threads outgrow the memory a check may use. -/
set_option Elab.async false

variable {s t u : State}

/-! ## The isolation check (R34) -/

theorem guestForbidden_iff (g : Segment) : guestForbidden g = true ↔ g = .till ∨ g = .label ∨ g = .office := by
  cases g <;> decide

theorem WindowEntry.offends_iff (e : WindowEntry) : e.offends = true ↔ e.enabled = true ∧ e.sources.guest = true
    ∧ ((e.action = .forward ∧ guestForbidden e.destination = true) ∨ e.action = .track ∨ e.action = .spool) := by
  cases ha : e.action <;> simp [WindowEntry.offends, ha, and_assoc]

theorem SegmentDefault.offends_iff (d : SegmentDefault) :
    d.offends = true ↔ d.forwards = true ∧ guestForbidden d.destination = true := Bool.and_eq_true _ _ ▸ Iff.rfl

/-- R34: a bank has no offence when no entry and not its GUEST default offends. -/
theorem offence_eq_none (b : Bank) :
    b.offence = none ↔ (∀ i : Fin 64, b.entries[i].offends = false) ∧ b.defaults.guest.offends = false := by
  unfold Bank.offence
  split
  · next i hi =>
    have hoffends := List.find?_some (p := fun i : Fin 64 => b.entries[i].offends) hi
    exact ⟨nofun, fun ⟨h, _⟩ => Bool.noConfusion ((h i).symm.trans hoffends)⟩
  · next hnone =>
    have hentries := find?_finRange_eq_none.1 hnone
    rw [ite_eq_right_iff, Bool.eq_false_iff]
    exact ⟨fun h => ⟨hentries, fun hd => nomatch h hd⟩, fun ⟨_, hd⟩ h => absurd h hd⟩

/-- R25: an entry that is chosen matches. -/
theorem matches_of_choose {b : Bank} {g : Segment} {ip : Ipv4} {i : Fin 64} (h : b.choose g ip = some i) :
    b.entries[i].matches g ip = true := by
  unfold Bank.choose at h
  split at h
  · next j hj =>
    obtain rfl := Option.some.inj h
    exact (Bool.and_eq_true _ _ ▸ List.find?_some hj).2
  · exact (Bool.and_eq_true _ _ ▸ List.find?_some h).2

/-- R35: with no offence in the active bank no lookup forwards a GUEST frame to TILL, LABEL or OFFICE. -/
theorem guest_not_forwarded {c : Classifier} {ip : Ipv4} (h : c.activeBank.offence = none)
    (hforward : (lookupCopy c .guest ip).action = .forward) :
    guestForbidden (lookupCopy c .guest ip).destination = false := by
  obtain ⟨hentries, hdefault⟩ := (offence_eq_none _).1 h
  rw [← Bool.not_eq_true]
  intro hforbidden
  cases hchoose : c.activeBank.choose .guest ip with
  | some i =>
    rw [lookupCopy_entry hchoose] at hforward hforbidden
    obtain ⟨henabled, hsource, _⟩ := (matches_iff _ _ _).1 (matches_of_choose hchoose)
    have hoffends := (WindowEntry.offends_iff _).2 ⟨henabled, hsource, .inl ⟨hforward, hforbidden⟩⟩
    exact Bool.noConfusion ((hentries i).symm.trans hoffends)
  | none =>
    rw [lookupCopy_default hchoose] at hforward hforbidden
    have hforwards : (c.activeBank.defaults.get .guest).forwards = true := by
      by_contra hdrops
      exact Action.noConfusion ((if_neg hdrops).symm.trans hforward)
    exact Bool.noConfusion (hdefault.symm.trans ((SegmentDefault.offends_iff _).2 ⟨hforwards, hforbidden⟩))

/-! ## What a guest frame leaves alone -/

/-- The blocks of the part that a guest frame never reaches: journal, pool, tills, tracker and the two engines. -/
structure Blocks where
  journal : Journal
  pool : Pool
  tills : Vector TillEntry 32
  tracker : Tracker
  night : Night
  label : LabelEngine

/-- These blocks of a state. -/
def State.blocks (s : State) : Blocks := ⟨s.journal, s.pool, s.tills, s.tracker, s.night, s.label⟩

/-- R78: a state reached without a forwarded frame joining an egress queue and without those blocks. -/
structure Secluded (s t : State) : Prop where
  egress : ∀ p : EgressPort, (t.egress.get p).filter (fun f => f.kind == .forwarded)
    = (s.egress.get p).filter (fun f => f.kind == .forwarded)
  blocks : t.blocks = s.blocks

theorem Secluded.trans (h : Secluded s t) (h' : Secluded t u) : Secluded s u where
  egress p := (h'.egress p).trans (h.egress p)
  blocks := h'.blocks.trans h.blocks

theorem Secluded.of_moves (hm : Moves .own s t) (h : t.blocks = s.blocks) : Secluded s t := ⟨hm.forwarded_egress, h⟩

theorem Secluded.refl (s : State) : Secluded s s := .of_moves (.refl s) rfl

theorem blocks_of_quiet (h : t.quiet = s.quiet) : t.blocks = s.blocks :=
  show t.quiet.blocks = s.quiet.blocks from congrArg State.blocks h

theorem blocks_of_still (h : t.still = s.still) : t.blocks = s.blocks :=
  blocks_of_quiet (quiet_of_still h)

theorem secluded_offer (o : Occurrence) (s : State) : Secluded s (offer o s) :=
  .of_moves (offer_moves_self o s) (blocks_of_still (offer_still o s))

theorem secluded_drop (r : DropReason) (o : Origin) (s : State) : Secluded s (drop r o s) := secluded_offer _ s

theorem secluded_depart (s : State) : Secluded s (depart s) :=
  .of_moves (depart_moves (.refl s)) (blocks_of_still (depart_still s))

theorem secluded_setMeter (i : Meter) (m : ShareMeter) (s : State) : Secluded s (s.setMeter i m) :=
  .of_moves (setMeter_moves (.refl s) i m)
    ((blocks_of_quiet (setMeter_quiet s i m)).trans rfl)

/-- A change of the guest table alone. -/
theorem secluded_withTable (table : List GuestEntry) (s : State) : Secluded s (s.withTable table) :=
  .of_moves (Moves.refl s).keep rfl

theorem secluded_withGuest (a : Station) (f : GuestEntry → GuestEntry) (s : State) : Secluded s (s.withGuest a f) :=
  secluded_withTable _ s

theorem Secluded.of_handsOnNothing (h : HandsOnNothing s t) : Secluded s t :=
  .of_moves h.moves ((blocks_of_still h.still).trans rfl)

/-- R51: a frame presented to an uplink queue joins no egress queue. -/
theorem secluded_presentUplink (q : UplinkQueue) (f : Frame) (s : State) : Secluded s (presentUplink q f s) := by
  unfold presentUplink presentUplinkWith
  split
  · exact secluded_offer _ s
  · split
    · have hjoined : Secluded s (s.joinUplink q f) := ⟨fun _ => rfl, rfl⟩
      exact hjoined.trans (secluded_depart _)
    · exact secluded_offer _ s

/-- R75: the joint test lets a guest frame into the uplink queue GUEST at most. -/
theorem secluded_jointTest (a : Station) (f : Frame) (s : State) : Secluded s (jointTest a f s) := by
  have charged (g : GuestEntry → GuestEntry) (m : ShareMeter) : Secluded s ((s.withGuest a g).setMeter .guest m) :=
    (secluded_withGuest a g s).trans (secluded_setMeter _ _ _)
  unfold jointTest
  dsimp only
  split
  · exact (secluded_setMeter _ _ s).trans (secluded_offer _ _)
  · split
    · exact (charged _ _).trans (secluded_offer _ _)
    · split
      · exact (charged _ _).trans (secluded_presentUplink _ _ _)
      · exact (charged _ _).trans (secluded_offer _ _)

/-! ## A guest frame's passage -/

section
variable {p : Passage} (hp : p.port = .guest)
include hp

/-- R34, R78: a GUEST frame forwarded to UPLINK meets the joint test, and one forwarded to GUEST is dropped. -/
theorem secluded_forwardFrame {copy : LookupCopy} (h : guestForbidden copy.destination = false) (s : State) :
    Secluded s (forwardFrame p copy s) := by
  unfold forwardFrame
  dsimp only
  split
  · exact secluded_drop _ _ s
  · cases hd : copy.destination <;> rw [hd] at h
    case till | label | office => cases h
    case guest =>
      rw [show resolve s (some p.port) .guest _ = .error .guestIsolated from if_pos (congrArg some hp)]
      exact secluded_drop _ _ s
    case uplink =>
      split
      · exact secluded_drop _ _ s
      · unfold deliverForwarded
        rw [hd, hp]
        exact secluded_jointTest _ _ s

theorem secluded_lookupFrame (h : s.classifier.activeBank.offence = none) : Secluded s (lookupFrame p s) := by
  have hcounted : Secluded s { s with classifier := s.classifier.hit p.port (lookupCopy s.classifier p.port p.ip) } :=
    ⟨fun _ => rfl, rfl⟩
  have hlooked : Secluded s (s.lookedUp p) := hcounted.trans (secluded_offer _ _)
  have hport : p.port ≠ .till := by rw [hp]; exact nofun
  rw [lookupFrame_eq]
  refine hlooked.trans ?_
  cases haction : (lookupCopy s.classifier p.port p.ip).action with
  | forward =>
    rw [takeAction_forward haction]
    rw [hp] at haction ⊢
    exact secluded_forwardFrame hp (guest_not_forwarded h haction) _
  | track =>
    rw [takeAction_track haction]
    unfold trackFrame
    dsimp only
    rw [if_pos hport]
    split <;> exact secluded_drop _ _ _
  | spool =>
    rw [takeAction_spool haction, spoolFrame_unsuitable hport]
    exact secluded_drop _ _ _
  | drop =>
    rw [takeAction_drop haction]
    exact secluded_drop _ _ _

theorem secluded_deliverLocal (hrun : s.running = true) (h : s.classifier.activeBank.offence = none) :
    Secluded s (deliverLocal p s) := by
  rw [deliverLocal_guest hp hrun]
  split
  · exact secluded_drop _ _ s
  · exact secluded_lookupFrame hp h

end

/-! ## The source check on GUEST (R71 to R73) -/

/-- What the source check on GUEST leaves for the frame's further passage: the guest table changed, and an Evicted event
offered at most. -/
structure Checked (s u : State) : Prop where
  secluded : Secluded s u
  classifier : u.classifier = s.classifier
  agent : u.agent = s.agent

theorem checked_withTable (table : List GuestEntry) (s : State) : Checked s (s.withTable table) :=
  ⟨secluded_withTable table s, rfl, rfl⟩

theorem Checked.evicted {table : List GuestEntry} (o : Occurrence) (h : Checked s u) :
    Checked s ((offer o u).withTable table) :=
  ⟨(h.secluded.trans (secluded_offer o u)).trans (secluded_withTable table _), (offer_classifier o u).trans h.classifier,
    (still_agent (offer_still o u)).trans h.agent⟩

/-- R71 to R73: a frame stopped at the source check is dropped; any other goes on in a checked state. -/
theorem secluded_guestSource {next : State → State} (hnext : ∀ u, Checked s u → Secluded s (next u)) (a : Station)
    (b : NetAddr) (n : Nat) : Secluded s (guestSource a b n next s) := by
  unfold guestSource
  dsimp only
  split
  · exact secluded_drop _ _ s
  · split
    · exact secluded_drop _ _ s
    · split
      · unfold knownGuest
        dsimp only
        split
        · exact secluded_drop _ _ s
        · split
          · exact secluded_drop _ _ s
          · exact hnext _ (checked_withTable _ s)
      · unfold unknownGuest
        dsimp only
        split
        · exact secluded_drop _ _ s
        · split
          · exact hnext _ (checked_withTable _ s)
          · split
            · exact secluded_drop _ _ s
            · exact hnext _ ((checked_withTable _ s).evicted _)

/-! ## The obligation -/

theorem secluded_sortFrame (hrun : s.running = true) (h : s.classifier.activeBank.offence = none) (bs : Bytes) :
    Secluded s (sortFrame .guest bs s) := by
  unfold sortFrame ipv4Frame
  dsimp only
  split
  · split
    · exact secluded_drop _ _ s
    · split
      · exact secluded_drop _ _ s
      · rw [sourceCheck_guest hrun]
        refine secluded_guestSource (fun u hu => hu.secluded.trans (secluded_deliverLocal rfl ?_ ?_)) _ _ _
        · rw [State.running, hu.agent]
          exact hrun
        · rw [hu.classifier]
          exact h
  · split
    · rw [sourceCheck_guest hrun]
      exact secluded_guestSource (fun u hu => hu.secluded.trans (.of_handsOnNothing (handsOnNothing_arpFrame _ _ u))) _ _ _
    · split
      · exact .of_handsOnNothing (handsOnNothing_joinRequests _ _ _ s)
      · exact secluded_drop _ _ s

theorem secluded_receiveFrame (h : IsolationLaw s) (fcs : Bool) (bs : Bytes) :
    Secluded s (receiveFrame .guest fcs bs s) := by
  cases hrun : s.running with
  | false => exact .of_handsOnNothing (handsOnNothing_receiveFrame hrun .guest fcs bs)
  | true =>
    unfold receiveFrame
    split
    · exact .refl s
    · split
      · exact secluded_offer _ s
      · split
        · exact .refl s
        · refine (secluded_offer _ s).trans (secluded_sortFrame ?_ ?_ bs)
          · rw [State.running, still_agent (offer_still _ s)]
            exact hrun
          · rw [offer_classifier]
            exact h

/-- Settles O20: whatever a guest frame holds, it is dropped, answered, queued as a request, or put to the joint test. -/
theorem guestFramesJoinNoEgressQueue : Obligations.GuestFramesJoinNoEgressQueue := by
  intro fcs bs s t hlaw h
  obtain rfl := Host.Outcome.next.inj h
  have hsecluded := secluded_receiveFrame hlaw fcs bs
  have hblocks := hsecluded.blocks
  exact ⟨hsecluded.egress, congrArg Blocks.journal hblocks, congrArg Blocks.pool hblocks, congrArg Blocks.tills hblocks,
    congrArg Blocks.tracker hblocks, congrArg Blocks.night hblocks, congrArg Blocks.label hblocks⟩

end Sys2Proof.Machine

/-! SUPPORT. SWAP (R33, R34), and the writes of window entries, defaults and the identity of a bank (R20 to R23). -/

namespace Sys2Proof.Machine

/- The proofs below run one after another: run together, their waiting threads outgrow the memory a check may use. -/
set_option Elab.async false

variable {s : State}

/-! ## SWAP (R33, R34) -/

theorem eq_shadow {c : Classifier} {k : BankId} (h : k ≠ c.active) : k = c.shadow := by
  unfold Classifier.shadow
  cases hc : c.active <;> cases k <;> simp_all [BankId.other]

/-- R34: the first offence is the lowest entry that offends. -/
theorem offence_of_entry {b : Bank} {i : Fin 64} (hi : b.entries[i].offends = true)
    (hlow : ∀ j, j < i → b.entries[j].offends = false) : b.offence = some (BitVec.ofNat 32 i.val) := by
  unfold Bank.offence
  rw [find?_finRange_eq_some hi hlow]

/-- R34: with no entry that offends, the first offence is the GUEST default's. -/
theorem offence_of_default {b : Bank} (h : ∀ i : Fin 64, b.entries[i].offends = false)
    (hd : b.defaults.guest.offends = true) : b.offence = some 0xFFFFFFFF := by
  unfold Bank.offence
  rw [find?_finRange_eq_none.2 h, hd]
  rfl

theorem swapRun_refused {index : BitVec 32} (h : (s.classifier.bank s.classifier.shadow).offence = some index) :
    swapRun s = ⟨s, .isolation, [be32 index]⟩ := by
  unfold swapRun
  rw [h]

theorem swapRun_exchanges (h : (s.classifier.bank s.classifier.shadow).offence = none) : swapRun s
    = doneWith (num8 (if s.classifier.shadow = .a then 0 else 1)
        ++ be32 (s.classifier.bank s.classifier.shadow).identity)
      { s with classifier := { s.classifier with active := s.classifier.shadow } } := by
  unfold swapRun
  rw [h]

theorem exec_swap {q : Requester} (hlock : s.holds q.party = true) :
    exec (.swap q) s = .next (respond q 0x05 (swapRun (takeRequest (.swap q) s)).renewed) :=
  congrArg Host.Outcome.next (lockedCommand_of_holds q _ _ _ s hlock)

/-- Settles O53: the check finds the lowest offence of the shadow bank, and SWAP goes by it. -/
theorem swapChecksIsolation : Obligations.SwapChecksIsolation := by
  intro q k shadow offends barred s hlock hk hshadow hbarred hoffends
  obtain rfl : barred = fun g => guestForbidden g = true :=
    funext fun g => propext ((hbarred g).trans (guestForbidden_iff g).symm)
  obtain rfl : offends = fun i => shadow.entries[i].offends = true :=
    funext fun i => propext ((hoffends i).trans (WindowEntry.offends_iff _).symm)
  obtain rfl := eq_shadow hk
  subst hshadow
  simp only [Bool.not_eq_true]
  have hsame : (takeRequest (.swap q) s).classifier = s.classifier := takeRequest_classifier _ s
  rw [exec_swap hlock]
  refine ⟨fun i hi hlow => ?_, fun hnone hforwards hdest => ?_, fun hnone hdefault => ?_⟩
  · rw [swapRun_refused (index := BitVec.ofNat 32 i.val) (by rw [hsame]; exact offence_of_entry hi hlow)]
    rfl
  · have hoffence := offence_of_default hnone ((SegmentDefault.offends_iff _).2 ⟨hforwards, hdest⟩)
    rw [swapRun_refused (index := 0xFFFFFFFF) (by rw [hsame]; exact hoffence)]
    rfl
  · have hdefault : (s.classifier.bank s.classifier.shadow).defaults.guest.offends = false := by
      rw [← Bool.not_eq_true, SegmentDefault.offends_iff]
      rintro ⟨hforwards, hdest⟩
      rcases hdefault with hdrops | hopen
      · exact Bool.noConfusion (hforwards.symm.trans hdrops)
      · exact Bool.noConfusion (hdest.symm.trans hopen)
    rw [swapRun_exchanges (by rw [hsame]; exact (offence_eq_none _).2 ⟨hnone, hdefault⟩), hsame]
    cases s.classifier.shadow <;> rfl

/-! ## A write of one entry -/

/-- R195: an index as its four bytes. -/
theorem num32_toNat (x : BitVec 32) : num32 x.toNat = be32 x := by
  rw [num32, BitVec.ofNat_toNat, BitVec.setWidth_eq]

section
variable {α β : Type} {high : Nat} {first : BitVec 32} {w : α} {entry : α → Option β} {take : State → CmdResult}

theorem writeNamed_past (fault : Option Nat) (h : high < first.toNat) :
    writeNamed 0 high first [w] fault take s = refusedAt .badIndex first.toNat s := by
  unfold writeNamed indexFault
  rw [if_pos (.inr h)]

theorem writeNamed_of_index (fault : Option Nat) (h : first.toNat ≤ high) : writeNamed 0 high first [w] fault take s
    = match fault with
      | some k => refusedAt .badValue (first.toNat + k) s
      | none => take s := by
  have hindex : indexFault 0 high first.toNat [w].length = none := by
    unfold indexFault
    rw [List.length_singleton, if_neg (by omega), if_neg (by omega)]
  unfold writeNamed
  rw [hindex]
  cases fault <;> rfl

/-- R21: an entry without a value at fault is written. -/
theorem writeNamed_taken (h : first.toNat ≤ high) {e : β} (he : entry w = some e) :
    writeNamed 0 high first [w] ([w].findIdx? fun w => (entry w).isNone) take s = take s := by
  rw [writeNamed_of_index _ h, List.findIdx?_singleton, he]
  rfl

/-- R21: an entry with a value at fault is refused with its index. -/
theorem writeNamed_fault (h : first.toNat ≤ high) (he : entry w = none) :
    writeNamed 0 high first [w] ([w].findIdx? fun w => (entry w).isNone) take s
      = refusedAt .badValue first.toNat s := by
  rw [writeNamed_of_index _ h, List.findIdx?_singleton, he]
  rfl

end

/-- One entry written at a place. -/
theorem writeRun_singleton {α : Type} {n : Nat} (v : Vector α n) (i : Fin n) (x : α) :
    writeRun v i.val [x] = v.set i x := by
  ext j hj
  simp only [writeRun, Vector.getElem_ofFn, Fin.getElem_fin, Vector.getElem_set]
  rcases Nat.lt_trichotomy i.val j with hlt | heq | hgt
  · rw [if_pos hlt.le, if_neg (by omega), List.getElem?_eq_none (by simp; omega)]
    rfl
  · subst heq
    simp
  · rw [if_neg (by omega), if_neg (by omega)]

/-! ## The values of a written entry (R20, R22, R196) -/

section
variable {b : Byte}

theorem key_of_mem {x : Key} (h : (b, x) ∈ [(0, Key.destination), (1, .source)]) : keys[b.toNat]? = some x := by
  simp only [List.mem_cons, Prod.mk.injEq, List.not_mem_nil, or_false] at h
  rcases h with ⟨rfl, rfl⟩ | ⟨rfl, rfl⟩ <;> rfl

theorem action_of_mem {x : Action} (h : (b, x) ∈ [(0, Action.forward), (1, .track), (2, .spool), (3, .drop)]) :
    windowActions[b.toNat]? = some x := by
  simp only [List.mem_cons, Prod.mk.injEq, List.not_mem_nil, or_false] at h
  rcases h with ⟨rfl, rfl⟩ | ⟨rfl, rfl⟩ | ⟨rfl, rfl⟩ | ⟨rfl, rfl⟩ <;> rfl

theorem segment_of_mem {x : Segment}
    (h : (b, x) ∈ [(0, Segment.uplink), (1, .till), (2, .label), (3, .guest), (4, .office)]) : segmentOf b = some x := by
  simp only [List.mem_cons, Prod.mk.injEq, List.not_mem_nil, or_false] at h
  rcases h with ⟨rfl, rfl⟩ | ⟨rfl, rfl⟩ | ⟨rfl, rfl⟩ | ⟨rfl, rfl⟩ | ⟨rfl, rfl⟩ <;> rfl

theorem uplinkClass_of_mem {x : UplinkClass} (h : (b, x) ∈ [(0, UplinkClass.urgent), (1, .office)]) :
    uplinkClasses[b.toNat]? = some x := by
  simp only [List.mem_cons, Prod.mk.injEq, List.not_mem_nil, or_false] at h
  rcases h with ⟨rfl, rfl⟩ | ⟨rfl, rfl⟩ <;> rfl

theorem defaultAction_of_mem {x : Bool} (h : (b, x) ∈ [(0, false), (1, true)]) : [false, true][b.toNat]? = some x := by
  simp only [List.mem_cons, Prod.mk.injEq, List.not_mem_nil, or_false] at h
  rcases h with ⟨rfl, rfl⟩ | ⟨rfl, rfl⟩ <;> rfl

/-- R22: UPLINK is segment number 0. -/
theorem eq_zero_of_uplink (h : segmentOf b = some .uplink) : b = 0 := by
  obtain ⟨hlt, hget⟩ := List.getElem?_eq_some_iff.1 h
  have hnodup : segments.Nodup := by decide
  exact BitVec.eq_of_toNat_eq ((hnodup.getElem_inj_iff (hj := show 0 < segments.length by decide)).1 hget)

end

/-- R20, R21: a written entry whose values all have a meaning. -/
theorem windowEntryOf_eq_some {w : WindowWrite} {key : Key} {action : Action} {destination : Segment}
    {uplinkClass : UplinkClass} (hsources : w.sources.toNat < 32) (hkey : keys[w.key.toNat]? = some key)
    (haction : windowActions[w.action.toNat]? = some action) (hdest : segmentOf w.destination = some destination)
    (hclass : uplinkClasses[w.uplinkClass.toNat]? = some uplinkClass)
    (hrange : ∀ low high, w.range = some (low, high) → low.toNat ≤ high.toNat)
    (htrack : action = .track → destination = .uplink) : windowEntryOf w = some {
      enabled := w.enabled, pinned := w.pinned
      sources := {
        uplink := w.sources.getLsbD 0, till := w.sources.getLsbD 1, label := w.sources.getLsbD 2
        guest := w.sources.getLsbD 3, office := w.sources.getLsbD 4 }
      key := key, base := w.base, mask := w.mask, protocol := w.protocol, range := w.range
      action := action, destination := destination, translate := w.translate, uplinkClass := uplinkClass
      mark := w.mark, offset := w.offset, hits := 0 } := by
  have hgood : (match w.range with
      | none => true
      | some (low, high) => decide (low.toNat ≤ high.toNat)) = true := by
    cases hr : w.range with
    | none => rfl
    | some r => exact decide_eq_true (hrange r.1 r.2 hr)
  have hmeets : (action != .track || destination == .uplink) = true := by
    cases action <;> simp_all
  have hbits : sourcesOf w.sources = some ⟨w.sources.getLsbD 0, w.sources.getLsbD 1, w.sources.getLsbD 2,
      w.sources.getLsbD 3, w.sources.getLsbD 4⟩ := if_neg (Nat.not_le.2 hsources)
  unfold windowEntryOf
  rw [hbits, hkey, haction, hdest, hclass]
  exact if_pos (by rw [hmeets, Bool.and_true]; exact hgood)

/-- R21: a written entry with a value at fault. -/
theorem windowEntryOf_eq_none {w : WindowWrite} (h : 32 ≤ w.sources.toNat ∨ 2 ≤ w.key.toNat ∨ 4 ≤ w.action.toNat
      ∨ 5 ≤ w.destination.toNat ∨ 2 ≤ w.uplinkClass.toNat
      ∨ (∃ low high, w.range = some (low, high) ∧ high.toNat < low.toNat) ∨ (w.action = 1 ∧ w.destination ≠ 0)) :
    windowEntryOf w = none := by
  rw [Option.eq_none_iff_forall_ne_some]
  intro e he
  unfold windowEntryOf at he
  simp only [Option.bind_eq_bind, Option.bind_eq_some_iff] at he
  obtain ⟨sources, hsources, key, hkey, action, haction, destination, hdest, uplinkClass, hclass, he⟩ := he
  have hlen {γ : Type} {l : List γ} {n : Nat} {x : γ} (h : l[n]? = some x) : n < l.length :=
    (List.getElem?_eq_some_iff.1 h).1
  have hgood := (Option.ite_none_right_eq_some.1 he).1
  rw [Bool.and_eq_true] at hgood
  rcases h with h | h | h | h | h | ⟨low, high, hr, hlt⟩ | ⟨htrack, hne⟩
  · rw [sourcesOf, if_pos h] at hsources
    cases hsources
  · exact absurd (hlen hkey) (Nat.not_lt.2 h)
  · exact absurd (hlen haction) (Nat.not_lt.2 h)
  · exact absurd (hlen hdest) (Nat.not_lt.2 h)
  · exact absurd (hlen hclass) (Nat.not_lt.2 h)
  · have hle := hgood.1
    rw [hr] at hle
    exact absurd (of_decide_eq_true hle) (Nat.not_le.2 hlt)
  · rw [htrack] at haction
    obtain rfl : Action.track = action := Option.some.inj haction
    obtain rfl : destination = .uplink := by simpa using hgood.2
    exact hne (eq_zero_of_uplink hdest)

/-- R22: a written default whose values all have a meaning. -/
theorem segmentDefaultOf_eq_some {w : DefaultWrite} {forwards : Bool} {destination : Segment} {uplinkClass : UplinkClass}
    (haction : [false, true][w.action.toNat]? = some forwards) (hdest : segmentOf w.destination = some destination)
    (hclass : uplinkClasses[w.uplinkClass.toNat]? = some uplinkClass) :
    segmentDefaultOf w = some ⟨forwards, destination, uplinkClass, 0⟩ := by
  unfold segmentDefaultOf
  rw [haction, hdest, hclass]
  rfl

/-- R22: a written default with a value at fault. -/
theorem segmentDefaultOf_eq_none {w : DefaultWrite}
    (h : 2 ≤ w.action.toNat ∨ 5 ≤ w.destination.toNat ∨ 2 ≤ w.uplinkClass.toNat) : segmentDefaultOf w = none := by
  rw [Option.eq_none_iff_forall_ne_some]
  intro e he
  unfold segmentDefaultOf at he
  simp only [Option.bind_eq_bind, Option.bind_eq_some_iff] at he
  obtain ⟨forwards, haction, destination, hdest, uplinkClass, hclass, _⟩ := he
  have hlen {γ : Type} {l : List γ} {n : Nat} {x : γ} (h : l[n]? = some x) : n < l.length :=
    (List.getElem?_eq_some_iff.1 h).1
  rcases h with h | h | h
  · exact absurd (hlen haction) (Nat.not_lt.2 h)
  · exact absurd (hlen hdest) (Nat.not_lt.2 h)
  · exact absurd (hlen hclass) (Nat.not_lt.2 h)

/-- R22: one default written at a segment's number. -/
theorem writeDefaultsIn_singleton (d : PerSegment SegmentDefault) (g : Segment) (x : SegmentDefault) :
    writeDefaultsIn d (segmentNumber g) [x] = d.set x g := by
  cases g <;> rfl

theorem segmentNumber_of_mem {first : BitVec 32} {g : Segment}
    (h : (first, g) ∈ [(0, Segment.uplink), (1, .till), (2, .label), (3, .guest), (4, .office)]) :
    first.toNat = segmentNumber g ∧ first.toNat ≤ 4 := by
  simp only [List.mem_cons, Prod.mk.injEq, List.not_mem_nil, or_false] at h
  rcases h with ⟨rfl, rfl⟩ | ⟨rfl, rfl⟩ | ⟨rfl, rfl⟩ | ⟨rfl, rfl⟩ | ⟨rfl, rfl⟩ <;> decide

/-! ## The runs of the writes (R21 to R23) -/

section
variable {k : BankId} {first : BitVec 32}

theorem writeWindowRun_active (h : s.classifier.active = k) (ws : List WindowWrite) :
    writeWindowRun k first ws s = refused .state s := if_pos h.symm

theorem writeDefaultsRun_active (h : s.classifier.active = k) (vs : List DefaultWrite) :
    writeDefaultsRun k first vs s = refused .state s := if_pos h.symm

section
variable {w : WindowWrite} (hshadow : s.classifier.active ≠ k)
include hshadow

theorem writeWindowRun_taken {i : Fin 64} {e : WindowEntry} (hfirst : first.toNat = i.val) (he : windowEntryOf w = some e) :
    writeWindowRun k first [w] s = done (s.withBank k
      { s.classifier.bank k with entries := (s.classifier.bank k).entries.set i e }) := by
  unfold writeWindowRun
  rw [if_neg hshadow.symm, writeNamed_taken (by omega) he]
  dsimp only
  rw [hfirst, List.filterMap_cons_some he, List.filterMap_nil, writeRun_singleton]

theorem writeWindowRun_fault (hfirst : first.toNat < 64) (he : windowEntryOf w = none) :
    writeWindowRun k first [w] s = refusedAt .badValue first.toNat s := by
  unfold writeWindowRun
  rw [if_neg hshadow.symm, writeNamed_fault (by omega) he]

theorem writeWindowRun_past (hfirst : 64 ≤ first.toNat) :
    writeWindowRun k first [w] s = refusedAt .badIndex first.toNat s := by
  unfold writeWindowRun
  rw [if_neg hshadow.symm, writeNamed_past _ (by omega)]

end

section
variable {w : DefaultWrite} (hshadow : s.classifier.active ≠ k)
include hshadow

theorem writeDefaultsRun_taken {g : Segment} {x : SegmentDefault} (hfirst : first.toNat = segmentNumber g)
    (hlast : first.toNat ≤ 4) (hx : segmentDefaultOf w = some x) :
    writeDefaultsRun k first [w] s = done (s.withBank k
      { s.classifier.bank k with defaults := (s.classifier.bank k).defaults.set x g }) := by
  unfold writeDefaultsRun
  rw [if_neg hshadow.symm, writeNamed_taken hlast hx]
  dsimp only
  rw [hfirst, List.filterMap_cons_some hx, List.filterMap_nil, writeDefaultsIn_singleton]

theorem writeDefaultsRun_fault (hfirst : first.toNat < 5) (hx : segmentDefaultOf w = none) :
    writeDefaultsRun k first [w] s = refusedAt .badValue first.toNat s := by
  unfold writeDefaultsRun
  rw [if_neg hshadow.symm, writeNamed_fault (by omega) hx]

theorem writeDefaultsRun_past (hfirst : 5 ≤ first.toNat) :
    writeDefaultsRun k first [w] s = refusedAt .badIndex first.toNat s := by
  unfold writeDefaultsRun
  rw [if_neg hshadow.symm, writeNamed_past _ (by omega)]

end

/-- R23: a write of one bank's identity, by the bank it names. -/
theorem writeIdentityRun_one (hfirst : first = if k = .a then 0 else 1) (identity : BitVec 32) :
    writeIdentityRun first [identity] s
      = if k ≠ s.classifier.active then done (s.withBank k { s.classifier.bank k with identity := identity })
        else refused .state s := by
  have hbank : bankOf first.toNat = k := by rw [hfirst]; cases k <;> rfl
  have hindex : indexFault 0 1 first.toNat [identity].length = none := by rw [hfirst]; cases k <;> rfl
  unfold writeIdentityRun writeMany
  rw [hindex, hbank]
  simp only [List.length_singleton, true_and]
  rfl

end

/-! ## The obligation -/

section
variable {q : Requester} (hlock : s.holds q.party = true)
include hlock

theorem exec_writeWindow (k : BankId) (first : BitVec 32) (ws : List WindowWrite) : exec (.writeWindow q k first ws) s
    = .next (respond q 0x04 (writeWindowRun k first ws (takeRequest (.writeWindow q k first ws) s)).renewed) :=
  congrArg Host.Outcome.next (lockedCommand_of_holds q _ _ _ s hlock)

theorem exec_writeDefaults (k : BankId) (first : BitVec 32) (vs : List DefaultWrite) :
    exec (.writeDefaults q k first vs) s
      = .next (respond q 0x04 (writeDefaultsRun k first vs (takeRequest (.writeDefaults q k first vs) s)).renewed) :=
  congrArg Host.Outcome.next (lockedCommand_of_holds q _ _ _ s hlock)

theorem exec_writeBankIdentity (first : BitVec 32) (xs : List (BitVec 32)) : exec (.writeBankIdentity q first xs) s
    = .next (respond q 0x04 (writeIdentityRun first xs (takeRequest (.writeBankIdentity q first xs) s)).renewed) :=
  congrArg Host.Outcome.next (lockedCommand_of_holds q _ _ _ s hlock)

end

/-- A refusal that names an index, answered with the lease renewed. -/
theorem respond_refusedAt (q : Requester) (code : Nat) (status : Status) (first : BitVec 32) (s : State) :
    respond q code (refusedAt status first.toNat s).renewed = answerTo q code status (be32 first) (renewLease s) := by
  rw [← num32_toNat]
  rfl

/-- Settles O49: each write by the run of its table. -/
theorem bankWritesReachTheShadowOnly : Obligations.BankWritesReachTheShadowOnly := by
  intro q k first w v s hlock
  have hw := takeRequest_classifier (.writeWindow q k first [w]) s
  have hv := takeRequest_classifier (.writeDefaults q k first [v]) s
  rw [exec_writeWindow hlock, exec_writeDefaults hlock]
  refine ⟨fun hactive => ⟨?_, ?_⟩,
    fun i key action destination uplinkClass hshadow hfirst hkey haction hdest hclass hsources hrange htrack => ?_,
    fun hshadow hfirst hfault => ?_,
    fun g destination forwards uplinkClass hshadow hfirst haction hdest hclass => ?_,
    fun hshadow hfirst hfault => ?_, fun hshadow => ⟨fun hfirst => ?_, fun hfirst => ?_⟩,
    fun identity hfirst => ⟨fun hshadow => ?_, fun hactive => ?_⟩⟩
  · rw [writeWindowRun_active (by rwa [hw])]
    rfl
  · rw [writeDefaultsRun_active (by rwa [hv])]
    rfl
  · rw [writeWindowRun_taken (by rwa [hw]) hfirst (windowEntryOf_eq_some hsources (key_of_mem hkey)
      (action_of_mem haction) (segment_of_mem hdest) (uplinkClass_of_mem hclass) hrange htrack), State.withBank, hw]
    rfl
  · rw [writeWindowRun_fault (by rwa [hw]) hfirst (windowEntryOf_eq_none hfault), respond_refusedAt]
  · obtain ⟨hnumber, hlast⟩ := segmentNumber_of_mem hfirst
    rw [writeDefaultsRun_taken (by rwa [hv]) hnumber hlast (segmentDefaultOf_eq_some (defaultAction_of_mem haction)
      (segment_of_mem hdest) (uplinkClass_of_mem hclass)), State.withBank, hv]
    rfl
  · rw [writeDefaultsRun_fault (by rwa [hv]) hfirst (segmentDefaultOf_eq_none hfault), respond_refusedAt]
  · rw [writeWindowRun_past (by rwa [hw]) hfirst, respond_refusedAt]
  · rw [writeDefaultsRun_past (by rwa [hv]) hfirst, respond_refusedAt]
  · rw [exec_writeBankIdentity hlock, writeIdentityRun_one hfirst, State.withBank, takeRequest_classifier,
      if_pos hshadow.symm]
    rfl
  · rw [exec_writeBankIdentity hlock, writeIdentityRun_one hfirst, takeRequest_classifier,
      if_neg (not_not_intro hactive.symm)]
    rfl

end Sys2Proof.Machine

/-! SUPPORT. The request tracker on a frame from a till (R30, R43, R86 to R90). -/

namespace Sys2Proof.Machine

/- The proofs below run one after another: run together, their waiting threads outgrow the memory a check may use. -/
set_option Elab.async false

variable {s t u v : State} {p : Passage} {copy : LookupCopy}

/-! ## From the lookup to the action (R25 to R27) -/

theorem running_of_still (h : t.still = s.still) : t.running = s.running := by rw [State.running, still_agent h]; rfl

/-- R25 to R27: what a lookup is in a state that is still the same. -/
theorem lookupFrame_of_still (h : u.still = s.still) (hcopy : copy = lookupCopy s.classifier p.port p.ip) :
    lookupFrame p u = takeAction p copy (u.lookedUp p)
      ∧ (u.lookedUp p).still = ({ s with classifier := s.classifier.hit p.port copy } : State).still := by
  have hclassifier := still_classifier h
  constructor
  · rw [lookupFrame_eq, hclassifier, hcopy]
  · rw [lookedUp_still, hclassifier, ← hcopy]
    exact congrArg (fun x : State => { x with classifier := s.classifier.hit p.port copy }) h

/-! ## The tests of a Track frame (R87) -/

/-- R8, R87: the till of the source check still holds the frame's addresses. -/
theorem tillStillHolds_of_tillOf {n : Fin 32} (h : s.tillOf (sourceStation p.bytes) p.ip.source = some n) :
    tillStillHolds s p n = true := List.find?_some h

theorem tillStillHolds_of_tills (h : t.tills = s.tills) (n : Fin 32) : tillStillHolds t p n = tillStillHolds s p n := by
  simp only [tillStillHolds, h]

/-- R87, test 3: a datagram that carries a tag at the field offset. -/
theorem trackSuitable_iff : trackSuitable p copy = true ↔ p.ip.unfragmented = true ∧ p.ip.protocol = 17
    ∧ p.ip.payloadOffset.isSome = true ∧ copy.offset.toNat + 4 ≤ (udpPayload p.bytes p.ip).length := by
  simp only [trackSuitable, Bool.and_eq_true, beq_iff_eq, decide_eq_true_eq, and_assoc]

/-- R87: a Track frame that passes its first three tests goes on by its key. -/
theorem trackFrame_keyed {n : Fin 32} (httl : 2 ≤ p.ip.ttl.toNat) (hp : p.port = .till) (hrun : s.running = true)
    (hn : p.till = some n) (hholds : tillStillHolds s p n = true) (hsuitable : trackSuitable p copy = true) :
    trackFrame p copy s = trackKeyed p copy n s := by
  unfold trackFrame
  dsimp only
  rw [if_neg (by rw [ttlExpired_iff]; omega), if_neg (not_not_intro hp), if_neg (by simp [hrun]), hn]
  dsimp only
  rw [if_neg (by simp [hholds]), if_neg (by simp [hsuitable])]

/-! ## A repeat and a new request (R88 to R90) -/

section
variable {n : Fin 32} {i : Fin 64}

theorem trackKeyed_repeat {r : OpenRequest}
    (hkey : s.tracker.findKey n (p.ip.sourceService.getD 0) (tagAt (udpPayload p.bytes p.ip) copy.offset) = some i)
    (hr : s.tracker.slots[i] = some r) : trackKeyed p copy n s
      = sendTracked p copy (s.setSlot i (some (r.repeated (s.deadlineIn s.tracker.replyTimeout)))) := by
  unfold trackKeyed
  dsimp only
  rw [hkey]
  dsimp only
  rw [hr]

theorem trackKeyed_new
    (hkey : s.tracker.findKey n (p.ip.sourceService.getD 0) (tagAt (udpPayload p.bytes p.ip) copy.offset) = none) :
    trackKeyed p copy n s = trackNew p copy n (tagAt (udpPayload p.bytes p.ip) copy.offset) s := by
  unfold trackKeyed
  dsimp only
  rw [hkey]

variable {tag : BitVec 32}

/-- R89: a till at its open limit. -/
theorem trackNew_limit (h : s.tills[n].openLimit ≤ s.tracker.openCount n) : trackNew p copy n tag s
    = offer (occur (.tracker .tillLimit) (copyOrigin p.port (sourceStation p.bytes) copy)) s := if_pos h

/-- R90: the lowest free slot takes the entry. -/
theorem trackNew_free (h : s.tracker.openCount n < s.tills[n].openLimit) (hi : s.tracker.slots[i] = none)
    (hlow : ∀ j : Fin 64, j < i → s.tracker.slots[j] ≠ none) : trackNew p copy n tag s = sendTracked p copy
      (offer (occur (.tracker .tracked) (copyOrigin p.port (sourceStation p.bytes) copy))
        (s.setSlot i (some (newRequest s p copy n tag)))) := by
  have hslot : s.tracker.freeSlot = some i := find?_finRange_eq_some (by rw [hi]; rfl) fun j hj => by
    rw [← Bool.not_eq_true, Option.isNone_iff_eq_none]
    exact hlow j hj
  unfold trackNew
  dsimp only
  rw [if_neg (Nat.not_le.2 h), hslot]

/-- R89: with every slot full the frame is untracked. -/
theorem trackNew_full (h : s.tracker.openCount n < s.tills[n].openLimit)
    (hfull : ∀ i : Fin 64, s.tracker.slots[i] ≠ none) : trackNew p copy n tag s = sendTracked p copy
      (offer (occur (.tracker .untracked) (copyOrigin p.port (sourceStation p.bytes) copy)) s) := by
  have hslot : s.tracker.freeSlot = none := find?_finRange_eq_none.2 fun j => by
    rw [← Bool.not_eq_true, Option.isNone_iff_eq_none]
    exact hfull j
  unfold trackNew
  dsimp only
  rw [if_neg (Nat.not_le.2 h), hslot]

end

/-! ## The frame by URGENT (R30) -/

theorem sendTracked_still (p : Passage) (copy : LookupCopy) (s : State) :
    (sendTracked p copy s).still = s.still := by
  unfold sendTracked
  dsimp only
  split
  · exact drop_still _ _ s
  · exact presentUplink_still _ _ s

/-- R30: a frame the tracker lets through joins URGENT, the transmitter busy and room there. -/
theorem sendTracked_joins {a : Station} (hrun : s.running = true) (hhop : s.ports.nextHop = some a)
    (hbusy : s.uplink.transmitting ≠ none) (hlimit : s.uplink.queues.urgent.length < s.uplink.limits.urgent)
    (htotal : queuedTotal s.uplink.queues < 256) : sendTracked p copy s = s.joinUplink .urgent
      (forwardedFrame s p (copySource copy p.ip) (copyDestination copy p.ip) a
        (copyOrigin p.port (sourceStation p.bytes) copy)) := by
  have hresolved : resolve s (some p.port) .uplink p.ip.destination = .ok a := by rw [resolve, hhop]; rfl
  unfold sendTracked
  dsimp only
  rw [hresolved]
  exact presentUplink_busy .urgent _ (.inl hrun) hlimit htotal hbusy

/-! ## The obligation -/

/-- R5 to R10, R87: a Track frame of an enabled till reaches the tracker's fourth test once its hit is counted. -/
theorem exec_frameReceived_keyed {bs : Bytes} {ip : Ipv4} {n : Fin 32} (harrives : s.arrives .till bs ip)
    (hcopy : copy = lookupCopy s.classifier .till ip) (haction : copy.action = .track) (httl : 2 ≤ ip.ttl.toNat)
    (hn : s.tillOf (word48 bs 6) ip.source = some n)
    (hsuitable : trackSuitable ⟨.till, bs, ip, some n⟩ copy = true) :
    ∃ v, exec (.frameReceived .till true bs) s = .next (trackKeyed ⟨.till, bs, ip, some n⟩ copy n v)
      ∧ v.still = ({ s with classifier := s.classifier.hit .till copy } : State).still
      ∧ (s.alerts.destination = none → v.uplink = s.uplink) := by
  obtain ⟨hup, hrun, hmin, hmax, hto, hbroad, htype, hip, hgate⟩ := harrives
  have hstill := offer_still ⟨.received .till, 1, ⟨false, none, .till, some (word48 bs 6)⟩, none⟩ s
  have huplink (hd) := offer_uplink hd ⟨.received .till, 1, ⟨false, none, .till, some (word48 bs 6)⟩, none⟩ (s := s)
  rw [exec_frameReceived hup hmin hmax (.inl hto), sortFrame_ipv4 (hto ▸ hbroad) htype hip]
  generalize offer ⟨.received .till, 1, ⟨false, none, .till, some (word48 bs 6)⟩, none⟩ s = received at hstill huplink
  have hrun' : received.running = true := (running_of_still hstill).trans hrun
  have hgate' : received.isAnyGateway ip.destination = false := by
    rw [← hgate]
    simp only [State.isAnyGateway, State.isGateway, still_ports hstill]
  have hn' : received.tillOf (word48 bs 6) ip.source = some n := by
    rw [← hn]
    simp only [State.tillOf, still_tills hstill]
  obtain ⟨hlookup, hlooked⟩ := lookupFrame_of_still (p := ⟨.till, bs, ip, some n⟩) hstill hcopy
  refine ⟨received.lookedUp ⟨.till, bs, ip, some n⟩, ?_, hlooked, fun hd => ?_⟩
  · rw [sourceCheck_till hrun' hn', deliverLocal_of_no_gateway hrun' hgate',
      passOn_lookup (p := ⟨.till, bs, ip, some n⟩) (.inl nofun), hlookup, takeAction_track haction,
      trackFrame_keyed httl rfl ((running_of_still hlooked).trans hrun) rfl ?_ hsuitable]
    rw [tillStillHolds_of_tills (still_tills hlooked)]
    exact tillStillHolds_of_tillOf (s := s) hn
  · rw [lookedUp_uplink ((still_destination hstill).trans hd), huplink hd]

/-- Settles O22: the tracker's tests decide the entry, and each frame it lets through goes by URGENT. -/
theorem tillRequestIsTracked : Obligations.TillRequestIsTracked := by
  intro bs ip copy n tag sent s harrives hcopy haction httl hn hproto hfrag hpayload hfield htag hsent
  obtain ⟨v, hexec, hstill, huplink⟩ := exec_frameReceived_keyed harrives hcopy haction httl hn
    (trackSuitable_iff.2 ⟨hfrag, hproto, hpayload, hfield⟩)
  generalize hpassage : (⟨.till, bs, ip, some n⟩ : Passage) = p at hexec
  have hip : p.ip = ip := by rw [← hpassage]
  have hbytes : p.bytes = bs := by rw [← hpassage]
  have hport : p.port = .till := by rw [← hpassage]
  have htag' : tagAt (udpPayload p.bytes p.ip) copy.offset = tag := by rw [hbytes, hip, htag]; rfl
  have htracker : v.tracker = s.tracker := (still_tracker hstill).trans rfl
  have hkeyed : v.tracker.findKey n (p.ip.sourceService.getD 0) (tagAt (udpPayload p.bytes p.ip) copy.offset)
      = s.tracker.findKey n (ip.sourceService.getD 0) tag := by rw [htracker, htag', hip]
  have htills : v.tills = s.tills := (still_tills hstill).trans rfl
  have hticks : v.tick = s.tick := (still_tick hstill).trans rfl
  have hdestination : v.alerts.destination = s.alerts.destination := (still_destination hstill).trans rfl
  -- what the tracker leaves, another tracker at most, and the frame it then sends
  have sends (k : Tracker) (w : State) (hw : w.still = ({ v with tracker := k } : State).still)
      (hwuplink : s.alerts.destination = none → w.uplink = v.uplink) : sent (sendTracked p copy w)
      ∧ (sendTracked p copy w).still
        = ({ s with classifier := s.classifier.hit .till copy, tracker := k } : State).still := by
    have hws : w.still = ({ s with classifier := s.classifier.hit .till copy, tracker := k } : State).still :=
      hw.trans (congrArg (fun x : State => { x with tracker := k }) hstill)
    refine ⟨(hsent _).2 fun a hd hhop hbusy hlimit htotal => ?_, (sendTracked_still p copy w).trans hws⟩
    have hsame : w.uplink = s.uplink := (hwuplink hd).trans (huplink hd)
    rw [sendTracked_joins ((running_of_still hws).trans harrives.2.1) ((congrArg _ (still_ports hws)).trans hhop)
      (by rwa [hsame]) (by rwa [hsame]) (by rwa [hsame])]
    simp only [State.joinUplink, hsame, forwardedFrame, addressStations_eq, still_station hws, still_tick hws, hip,
      hbytes, hport, copyOrigin]
    rfl
  refine ⟨_, hexec, fun i hkey hroom hi hlow => ?new, fun i r hkey hr => ?again, fun hkey hlimit => ?limit,
    fun hkey hroom hfull => ?full⟩
  case new =>
    rw [trackKeyed_new (hkeyed.trans hkey), trackNew_free (by rwa [htracker, htills]) (by rwa [htracker])
      (by rwa [htracker]), htag']
    have hoffered := offer_still (occur (.tracker .tracked) (copyOrigin p.port (sourceStation p.bytes) copy))
      (v.setSlot i (some (newRequest v p copy n tag)))
    obtain ⟨hsends, hleft⟩ := sends (v.tracker.setSlot i _) _ hoffered fun hd =>
      offer_uplink (s := v.setSlot i _) (hdestination.trans hd) _
    refine ⟨hsends, hleft.trans ?_⟩
    simp only [Tracker.setSlot, newRequest, copyDestination, htracker, hticks, hip, State.deadlineIn]
    cases copy.translate <;> cases copy.key <;> rfl
  case again =>
    rw [trackKeyed_repeat (hkeyed.trans hkey) (by rwa [htracker])]
    obtain ⟨hsends, hleft⟩ := sends _ (v.setSlot i (some (r.repeated (v.deadlineIn v.tracker.replyTimeout)))) rfl
      fun _ => rfl
    refine ⟨hsends, hleft.trans ?_⟩
    simp only [Tracker.setSlot, OpenRequest.repeated, htracker, hticks, State.deadlineIn]
  case limit =>
    rw [trackKeyed_new (hkeyed.trans hkey), trackNew_limit (by rwa [htracker, htills])]
    exact ⟨fun hd => (offer_uplink (hdestination.trans hd) _).trans (huplink hd), (offer_still _ _).trans hstill⟩
  case full =>
    rw [trackKeyed_new (hkeyed.trans hkey), trackNew_full (by rwa [htracker, htills]) (by rwa [htracker])]
    obtain ⟨hsends, hleft⟩ := sends v.tracker _ (offer_still _ v) fun hd => offer_uplink (hdestination.trans hd) _
    refine ⟨hsends, hleft.trans ?_⟩
    rw [htracker]

end Sys2Proof.Machine

/-! SUPPORT. The share meters and the joint test on a frame presented to them (R59, R60, R75, R76). -/

namespace Sys2Proof.Machine

/- The proofs below run one after another: run together, their waiting threads outgrow the memory a check may use. -/
set_option Elab.async false

variable {s t u x : State}

/-! ## What a meter replaced leaves (R67) -/

theorem running_of_quiet (h : t.quiet = s.quiet) : t.running = s.running := by rw [State.running, quiet_agent h]; rfl

theorem quiet_destination (h : t.quiet = s.quiet) : t.alerts.destination = s.alerts.destination :=
  show t.quiet.alerts.destination = s.quiet.alerts.destination by rw [h]

theorem setMeter_core (hd : s.alerts.destination = none) (i : Meter) (m : ShareMeter) : (s.setMeter i m).core = s.core :=
  (compareChanged_core (s := { s with meters := s.meters.set i m }) hd _ _).trans rfl

theorem setMeter_running (s : State) (i : Meter) (m : ShareMeter) : (s.setMeter i m).running = s.running :=
  (running_of_quiet (setMeter_quiet s i m)).trans rfl

theorem setMeter_destination (s : State) (i : Meter) (m : ShareMeter) :
    (s.setMeter i m).alerts.destination = s.alerts.destination :=
  (quiet_destination (setMeter_quiet s i m)).trans rfl

theorem setMeter_uplink (hd : s.alerts.destination = none) (i : Meter) (m : ShareMeter) :
    (s.setMeter i m).uplink = s.uplink := uplink_of_core (setMeter_core hd i m)

/-! ## A frame that a meter counts as nonconforming (R60) -/

/-- R60, R170: a nonconformance offered last, in a state that is quiet the same as another and has its uplink. -/
theorem counted_nonconformance (name : NonconformingMeter) (o : Origin) (hquiet : u.quiet = x.quiet)
    (hdestination : u.alerts.destination = s.alerts.destination)
    (huplink : s.alerts.destination = none → u.uplink = s.uplink) (ht : t = offer (occur (.nonconformance name) o) u) :
    t.quiet = x.quiet ∧ (∃ v, t = offer ⟨.nonconformance name, 1, o, none⟩ v ∧ v.quiet = t.quiet)
      ∧ (s.alerts.destination = none → t.uplink = s.uplink) := by
  have hoffered : t.quiet = u.quiet := by
    rw [ht]
    exact quiet_of_still (offer_still _ u)
  refine ⟨hoffered.trans hquiet, ⟨u, ht, hoffered.symm⟩, fun hd => ?_⟩
  rw [ht, offer_uplink (hdestination.trans hd), huplink hd]

/-- R51, R59: a frame presented to its uplink queue, in a state that is quiet the same as another and has its uplink. -/
theorem conforming_joins (q : UplinkQueue) (f : Frame) (hquiet : u.quiet = x.quiet) (hrunning : u.running = s.running)
    (huplink : s.alerts.destination = none → u.uplink = s.uplink) : (presentUplink q f u).quiet = x.quiet
      ∧ (s.running = true → s.alerts.destination = none → s.uplink.transmitting ≠ none →
        (s.uplink.queues.get q).length < s.uplink.limits.get q → queuedTotal s.uplink.queues < 256 →
        (presentUplink q f u).uplink
          = { s.uplink with queues := s.uplink.queues.set q (s.uplink.queues.get q ++ [f]) }) := by
  refine ⟨(quiet_of_still (presentUplink_still q f u)).trans hquiet, fun hrun hd hbusy hlimit htotal => ?_⟩
  have hsame := huplink hd
  rw [presentUplink_busy q f (.inl (hrunning.trans hrun)) (by rwa [hsame]) (by rwa [hsame]) (by rwa [hsame]),
    State.joinUplink, hsame]

/-! ## A frame presented to a share meter (R59, R60) -/

theorem untested_eq_false {m : ShareMeter} {action : MeterAction} :
    m.untested action = false ↔ action = .drop ∨ m.hold = [] := by
  cases action <;> simp [ShareMeter.untested]

/-- A share meter refilled to the tick under the profile in use (R59). -/
def State.refilledMeter (s : State) (i : Meter) : ShareMeter := (s.meters.get i).refill (s.profileInUse i) s.tick

section
variable {i : Meter} {q : UplinkQueue} {f : Frame}

theorem presentMeter_conforms (htested : (s.profileInUse i).action = .drop ∨ (s.meters.get i).hold = [])
    (hle : f.bytes.length ≤ (s.refilledMeter i).level) : presentMeter i q f s = presentUplink q f
      (s.setMeter i { s.refilledMeter i with level := (s.refilledMeter i).level - f.bytes.length }) := by
  have htested' : (s.refilledMeter i).untested (s.profileInUse i).action = false := untested_eq_false.2 htested
  exact if_pos (by rw [Bool.and_eq_true, Bool.not_eq_true', decide_eq_true_eq]; exact ⟨htested', hle⟩)

theorem presentMeter_exceeds (h : ¬ ((s.profileInUse i).action = .drop ∨ (s.meters.get i).hold = [])
      ∨ (s.refilledMeter i).level < f.bytes.length) : presentMeter i q f s
    = offer (occur (.nonconformance (meterName i)) f.origin)
        (s.setMeter i ((s.refilledMeter i).holdOrDiscard (s.profileInUse i).action ⟨f, q⟩)) := by
  refine if_neg ?_
  rw [Bool.and_eq_true, Bool.not_eq_true', decide_eq_true_eq]
  rintro ⟨htested, hle⟩
  exact h.elim (fun hn => hn (untested_eq_false (m := s.refilledMeter i).1 htested)) (Nat.not_lt.2 hle)

/-- R60: a meter after a frame it counts as nonconforming. -/
theorem holdOrDiscard_eq (m : ShareMeter) (action : MeterAction) (h : HeldFrame) : m.holdOrDiscard action h
    = { m with hold := if action = .defer ∧ m.hold.length < 16 then m.hold ++ [h] else m.hold } := by
  unfold ShareMeter.holdOrDiscard
  split <;> rfl

end

/-! ## The joint test (R75, R76) -/

/-- The guest table with the one entry of a station changed. -/
theorem updateGuest_middle {before after : List GuestEntry} {e : GuestEntry} {a : Station} (he : e.station = a)
    (hother : ∀ x ∈ before ++ after, x.station ≠ a) (g : GuestEntry → GuestEntry) :
    updateGuest (before ++ e :: after) a g = before ++ g e :: after := by
  have hkeep (l : List GuestEntry) (h : ∀ x ∈ l, x.station ≠ a) :
      l.map (fun e => if e.station = a then g e else e) = l :=
    (List.map_congr_left fun x hx => if_neg (h x hx)).trans (List.map_id l)
  unfold updateGuest
  rw [List.map_append, List.map_cons, if_pos he, hkeep before fun x hx => hother x (List.mem_append_left _ hx),
    hkeep after fun x hx => hother x (List.mem_append_right _ hx)]

section
variable {a : Station} {f : Frame} {e : GuestEntry}

theorem jointTest_unknown (h : s.guestEntry a = none) : jointTest a f s
    = offer (occur (.nonconformance .station) f.origin) (s.setMeter .guest (s.refilledMeter .guest)) := by
  unfold jointTest
  dsimp only
  rw [h]
  rfl

theorem jointTest_station (h : s.guestEntry a = some e)
    (hlt : (e.refill s.guest.settings s.tick).level < f.bytes.length) : jointTest a f s
      = offer (occur (.nonconformance .station) f.origin)
        ((s.withGuest a fun e => e.refill s.guest.settings s.tick).setMeter .guest (s.refilledMeter .guest)) := by
  unfold jointTest
  dsimp only
  rw [h]
  exact if_pos hlt

variable (h : s.guestEntry a = some e) (hcovered : f.bytes.length ≤ (e.refill s.guest.settings s.tick).level)
include h hcovered

theorem jointTest_conforms (htested : (s.profileInUse .guest).action = .drop ∨ s.meters.guest.hold = [])
    (hle : f.bytes.length ≤ (s.refilledMeter .guest).level) : jointTest a f s = presentUplink .guest f
      ((s.withGuest a fun e => { e.refill s.guest.settings s.tick with
          level := (e.refill s.guest.settings s.tick).level - f.bytes.length }).setMeter .guest
        { s.refilledMeter .guest with level := (s.refilledMeter .guest).level - f.bytes.length }) := by
  have htested' : (s.refilledMeter .guest).untested (s.profileInUse .guest).action = false := untested_eq_false.2 htested
  unfold jointTest
  dsimp only
  rw [h]
  refine (if_neg (Nat.not_lt.2 hcovered)).trans (if_pos ?_)
  rw [Bool.and_eq_true, Bool.not_eq_true', decide_eq_true_eq]
  exact ⟨htested', hle⟩

theorem jointTest_exceeds (hnot : ¬ ((s.profileInUse .guest).action = .drop ∨ s.meters.guest.hold = [])
      ∨ (s.refilledMeter .guest).level < f.bytes.length) : jointTest a f s
    = offer (occur (.nonconformance .guest) f.origin)
        ((s.withGuest a fun e => e.refill s.guest.settings s.tick).setMeter .guest
          ((s.refilledMeter .guest).holdOrDiscard (s.profileInUse .guest).action ⟨f, .guest⟩)) := by
  unfold jointTest
  dsimp only
  rw [h]
  refine (if_neg (Nat.not_lt.2 hcovered)).trans (if_neg ?_)
  rw [Bool.and_eq_true, Bool.not_eq_true', decide_eq_true_eq]
  rintro ⟨htested, hle⟩
  exact hnot.elim (fun hn => hn (untested_eq_false (m := s.refilledMeter .guest).1 htested)) (Nat.not_lt.2 hle)

end

end Sys2Proof.Machine

/-! SUPPORT. A release event of a share meter (R61, R77): the run of held frames it releases, what it charges the guests,
and the uplink queues the frames join. -/

namespace Sys2Proof.Machine

/- The proofs below run one after another: run together, their waiting threads outgrow the memory a check may use. -/
set_option Elab.async false

variable {s t u : State}

/-! ## The run released (R61) -/

/-- The counted lengths of some held frames together. -/
def heldBytes (l : List HeldFrame) : Nat := (l.map fun h => h.frame.bytes.length).sum

/-- R61: the longest run at the head that a level covers, and what it leaves of both. -/
theorem releaseSplit_eq (level : Nat) (hold : List HeldFrame) : ∃ k ≤ hold.length,
    releaseSplit level hold = (hold.take k, hold.drop k, level - heldBytes (hold.take k))
      ∧ heldBytes (hold.take k) ≤ level
      ∧ ∀ h, hold[k]? = some h → level < heldBytes (hold.take k) + h.frame.bytes.length := by
  induction hold generalizing level with
  | nil => exact ⟨0, Nat.le_refl _, rfl, Nat.zero_le _, nofun⟩
  | cons h rest ih =>
    unfold releaseSplit
    split
    · next hle =>
      change h.frame.bytes.length ≤ level at hle
      obtain ⟨k, hk, hsplit, hcovered, hnext⟩ := ih (level - h.frame.bytes.length)
      have hsum : heldBytes ((h :: rest).take (k + 1)) = h.frame.bytes.length + heldBytes (rest.take k) := rfl
      refine ⟨k + 1, Nat.succ_le_succ hk, ?_, by omega, fun h' hh' => ?_⟩
      · dsimp only
        rw [hsum, ← Nat.sub_sub]
        exact congrArg (fun r => (h :: r.1, r.2.1, r.2.2)) hsplit
      · have hlt := hnext h' hh'
        omega
    · next hnot =>
      refine ⟨0, Nat.zero_le _, rfl, Nat.zero_le _, fun h' hh' => ?_⟩
      obtain rfl : h = h' := Option.some.inj hh'
      exact (Nat.not_le.1 hnot).trans_eq (Nat.zero_add _).symm

/-! ## The charges (R77) -/

/-- R77: the guest table with a released frame charged to its station's meter, refilled to a tick. -/
def chargedTable (g : GuestSettings) (now : Tick) (table : List GuestEntry) (h : HeldFrame) : List GuestEntry :=
  table.map fun e => if h.frame.origin.station = some e.station then
    { e.refill g now with level := (e.refill g now).level - h.frame.bytes.length } else e

theorem chargeStation_eq (h : HeldFrame) (s : State) : chargeStation h.frame s
    = s.withTable (chargedTable s.guest.settings s.tick s.guest.table h) := by
  unfold chargeStation chargedTable
  split
  · next hnone => simp [hnone, State.withTable]
  · next a ha =>
    simp only [ha, Option.some.injEq, updateGuest, State.withTable, eq_comm (a := a)]
    rfl

/-- The guest unit after the charges of some released frames of a meter (R77). -/
def State.chargedGuest (s : State) (i : Meter) (l : List HeldFrame) : GuestUnit :=
  if i = .guest then { s.guest with table := l.foldl (chargedTable s.guest.settings s.tick) s.guest.table } else s.guest

/-- The state a released frame is presented in: charged, where it is a guest frame (R77). -/
def State.chargedFor (s : State) (i : Meter) (h : HeldFrame) : State := { s with guest := s.chargedGuest i [h] }

theorem releaseOne_eq (i : Meter) (s : State) (h : HeldFrame) :
    releaseOne i s h = presentUplink h.queue h.frame (s.chargedFor i h) := by
  unfold releaseOne State.chargedFor State.chargedGuest
  split
  · rw [chargeStation_eq]
    rfl
  · rfl

theorem releaseOne_quiet (i : Meter) (s : State) (h : HeldFrame) :
    (releaseOne i s h).quiet = (s.chargedFor i h).quiet := by
  rw [releaseOne_eq]
  exact quiet_of_still (presentUplink_still _ _ _)

/-- R77: each released frame is charged once. -/
theorem foldl_releaseOne_quiet (i : Meter) (l : List HeldFrame) (s : State) :
    (l.foldl (releaseOne i) s).quiet = ({ s with guest := s.chargedGuest i l } : State).quiet := by
  induction l generalizing s with
  | nil => simp [State.chargedGuest]
  | cons h l ih =>
    have hone := releaseOne_quiet i s h
    have hguest : (releaseOne i s h).chargedGuest i l = s.chargedGuest i (h :: l) := by
      unfold State.chargedGuest
      rw [quiet_guest hone, quiet_tick hone]
      unfold State.chargedFor State.chargedGuest
      split <;> rfl
    rw [List.foldl_cons, ih, hguest]
    exact congrArg (fun v : State => { v with guest := s.chargedGuest i (h :: l) }) hone

/-! ## The frames released (R61) -/

/-- R51, R61: released frames reach the tails of their queues in order, the transmitter busy and room there. -/
theorem foldl_releaseOne_joins (i : Meter) (l : List HeldFrame) (hrun : s.running = true)
    (hbusy : s.uplink.transmitting ≠ none)
    (hlimit : ∀ q : UplinkQueue,
      (s.uplink.queues.get q).length + l.countP (fun h => decide (h.queue = q)) ≤ s.uplink.limits.get q)
    (htotal : queuedTotal s.uplink.queues + l.length ≤ 256) :
    (l.foldl (releaseOne i) s).egress = s.egress
      ∧ (l.foldl (releaseOne i) s).uplink = { s.uplink with queues := (l.foldl (releaseOne i) s).uplink.queues }
      ∧ ∀ q : UplinkQueue, (l.foldl (releaseOne i) s).uplink.queues.get q
        = s.uplink.queues.get q ++ (l.filter fun h => decide (h.queue = q)).map (·.frame) := by
  induction l generalizing s with
  | nil => exact ⟨rfl, rfl, fun q => (List.append_nil _).symm⟩
  | cons h l ih =>
    have hlimits (q : UplinkQueue) := hlimit q
    simp only [List.countP_cons, decide_eq_true_eq] at hlimits
    rw [List.length_cons] at htotal
    have hone : releaseOne i s h = (s.chargedFor i h).joinUplink h.queue h.frame := by
      have hlt := hlimits h.queue
      rw [if_pos rfl] at hlt
      have hroom : (s.uplink.queues.get h.queue).length < s.uplink.limits.get h.queue := by omega
      have hany : queuedTotal s.uplink.queues < 256 := by omega
      rw [releaseOne_eq]
      exact presentUplink_busy (s := s.chargedFor i h) _ _ (.inl hrun) hroom hany hbusy
    have hqueued : (releaseOne i s h).uplink = { s.uplink with
        queues := s.uplink.queues.set h.queue (s.uplink.queues.get h.queue ++ [h.frame]) } := by rw [hone]; rfl
    have hget (q : UplinkQueue) : (releaseOne i s h).uplink.queues.get q
        = s.uplink.queues.get q ++ if h.queue = q then [h.frame] else [] := by
      rw [hqueued]
      show (s.uplink.queues.set h.queue _).get q = _
      rw [PerQueue.get_set]
      by_cases hq : q = h.queue
      · rw [if_pos hq, if_pos hq.symm, hq]
      · rw [if_neg hq, if_neg (Ne.symm hq), List.append_nil]
    have htotals : queuedTotal (releaseOne i s h).uplink.queues = queuedTotal s.uplink.queues + 1 := by
      have hset := queuedTotal_set s.uplink.queues h.queue (s.uplink.queues.get h.queue ++ [h.frame])
      rw [List.length_append, List.length_singleton] at hset
      rw [hqueued]
      show queuedTotal (s.uplink.queues.set h.queue _) = _
      omega
    have hlimits' (q : UplinkQueue) : ((releaseOne i s h).uplink.queues.get q).length
        + l.countP (fun h => decide (h.queue = q)) ≤ (releaseOne i s h).uplink.limits.get q := by
      have hsame : (releaseOne i s h).uplink.limits = s.uplink.limits := by rw [hone]; rfl
      have hlt := hlimits q
      rw [hget, hsame, List.length_append]
      by_cases hq : h.queue = q
      · rw [if_pos hq] at hlt ⊢
        rw [List.length_singleton]
        omega
      · rw [if_neg hq] at hlt ⊢
        rw [List.length_nil]
        omega
    obtain ⟨hegress, huplink, hqueues⟩ := ih (s := releaseOne i s h) (by rw [hone]; exact hrun)
      (by rw [hone]; exact hbusy) hlimits' (by omega)
    rw [List.foldl_cons]
    refine ⟨hegress.trans (by rw [hone]; rfl), huplink.trans (by rw [hone]; rfl), fun q => ?_⟩
    rw [hqueues, hget, List.append_assoc]
    by_cases hq : h.queue = q
    · rw [if_pos hq, List.filter_cons_of_pos (by simpa using hq)]
      rfl
    · rw [if_neg hq, List.filter_cons_of_neg (by simpa using hq)]
      rfl

/-- R61: a release event as the run it releases from a meter refilled. -/
theorem releaseMeter_eq {i : Meter} (h : (s.meters.get i).hold ≠ []) : releaseMeter i s
    = (releaseSplit (s.refilledMeter i).level (s.meters.get i).hold).1.foldl (releaseOne i)
      (s.setMeter i { s.refilledMeter i with
        level := (releaseSplit (s.refilledMeter i).level (s.meters.get i).hold).2.2
        hold := (releaseSplit (s.refilledMeter i).level (s.meters.get i).hold).2.1 }) := if_neg h

end Sys2Proof.Machine

/-! SUPPORT. A frame forwarded to UPLINK and the meter it is presented to (R29), and what the meters do with it. -/

namespace Sys2Proof.Machine

/- The proofs below run one after another: run together, their waiting threads outgrow the memory a check may use. -/
set_option Elab.async false

variable {s t u checked : State}

/-! ## Frames forwarded to UPLINK (R28, R29) -/

section
variable {p : Passage} {copy : LookupCopy} {station : Station}

theorem deliverForwarded_office (h : copy.destination = .uplink) (hp : p.port = .office) (f : Frame) (s : State) :
    deliverForwarded p copy f s = presentMeter .office (classQueue copy.uplinkClass) f s := by
  unfold deliverForwarded
  rw [h, hp]

theorem deliverForwarded_guest (h : copy.destination = .uplink) (hp : p.port = .guest) (f : Frame) (s : State) :
    deliverForwarded p copy f s = jointTest (sourceStation p.bytes) f s := by
  unfold deliverForwarded
  rw [h, hp]

/-- R28: a frame that a copy forwards to UPLINK goes on by the next-hop station. -/
theorem takeAction_uplink (haction : copy.action = .forward) (hdest : copy.destination = .uplink)
    (httl : 2 ≤ p.ip.ttl.toNat) (hhop : s.ports.nextHop = some station) : takeAction p copy s
      = deliverForwarded p copy (forwardedFrame s p (copySource copy p.ip) (copyDestination copy p.ip) station
        (copyOrigin p.port (sourceStation p.bytes) copy)) s := by
  refine (takeAction_forward haction).trans (forwardFrame_resolved httl ?_)
  rw [hdest, resolve, hhop]
  rfl

end

theorem isAnyGateway_of_still (h : t.still = s.still) (a : NetAddr) : t.isAnyGateway a = s.isAnyGateway a := by
  simp only [State.isAnyGateway, State.isGateway, still_ports h]

/-- R8, R71: a frame on GUEST that the guest table passes reaches the lookup in the state after the check. -/
theorem exec_frameReceived_guest {bs : Bytes} {ip : Ipv4} (harrives : s.arrives .guest bs ip)
    (hpasses : (offer ⟨.received .guest, 1, ⟨false, none, .guest, some (word48 bs 6)⟩, none⟩ s).guestPasses checked
      (word48 bs 6) ip.source bs.length) :
    exec (.frameReceived .guest true bs) s = .next (lookupFrame ⟨.guest, bs, ip, none⟩ checked)
      ∧ checked.ports = s.ports ∧ checked.classifier = s.classifier
      ∧ checked.alerts.destination = s.alerts.destination
      ∧ (s.alerts.destination = none → checked.egress = s.egress ∧ checked.uplink = s.uplink)
      ∧ checked.station = s.station ∧ checked.tick = s.tick := by
  obtain ⟨hup, hrun, hmin, hmax, hto, hbroad, htype, hip, hgate⟩ := harrives
  have hoffered := offer_still ⟨.received .guest, 1, ⟨false, none, .guest, some (word48 bs 6)⟩, none⟩ s
  have hegress (hd) := offer_egress hd ⟨.received .guest, 1, ⟨false, none, .guest, some (word48 bs 6)⟩, none⟩ (s := s)
  have huplink (hd) := offer_uplink hd ⟨.received .guest, 1, ⟨false, none, .guest, some (word48 bs 6)⟩, none⟩ (s := s)
  rw [exec_frameReceived hup hmin hmax (.inl hto), sortFrame_ipv4 (hto ▸ hbroad) htype hip]
  generalize offer ⟨.received .guest, 1, ⟨false, none, .guest, some (word48 bs 6)⟩, none⟩ s = received
    at hoffered hegress huplink hpasses
  have hdestination := still_destination hoffered
  have hstill := (guestPasses_still hpasses).trans (withGuest_still hoffered checked.guest)
  have hrunning : checked.running = true := (running_of_still hstill).trans hrun
  have hgate' : checked.isAnyGateway ip.destination = false := (isAnyGateway_of_still hstill _).trans hgate
  refine ⟨?_, (still_ports hstill).trans rfl, (still_classifier hstill).trans rfl,
    (still_destination hstill).trans rfl, fun hd => ?_, (still_station hstill).trans rfl, (still_tick hstill).trans rfl⟩
  · rw [sourceCheck_guest ((running_of_still hoffered).trans hrun), guestSource_passes hpasses,
      deliverLocal_of_no_gateway (p := ⟨.guest, bs, ip, none⟩) hrunning hgate',
      passOn_lookup (p := ⟨.guest, bs, ip, none⟩) (.inl nofun)]
  · obtain ⟨hegress', huplink'⟩ := guestPasses_queues hpasses (hdestination.trans hd)
    exact ⟨hegress'.trans (hegress hd), huplink'.trans (huplink hd)⟩

/-- R5 to R10: a frame on OFFICE reaches the lookup. -/
theorem exec_frameReceived_office {bs : Bytes} {ip : Ipv4} (harrives : s.arrives .office bs ip) :
    ∃ n v, exec (.frameReceived .office true bs) s = .next (lookupFrame ⟨.office, bs, ip, n⟩ v) ∧ v.still = s.still
      ∧ (s.alerts.destination = none → v.egress = s.egress ∧ v.uplink = s.uplink) := by
  obtain ⟨n, hexec⟩ := exec_frameReceived_lookup harrives (.inl rfl)
  exact ⟨n, _, hexec, offer_still _ s, fun hd => ⟨offer_egress hd _, offer_uplink hd _⟩⟩

/-- R29: the frame a lookup forwards to UPLINK, and the state in which it is presented to its meter. -/
theorem lookupFrame_uplink {p : Passage} {copy : LookupCopy} {station : Station} {metered : Frame → State → State}
    (hcopy : copy = lookupCopy s.classifier p.port p.ip) (haction : copy.action = .forward)
    (hdest : copy.destination = .uplink) (httl : 2 ≤ p.ip.ttl.toNat) (hhop : s.ports.nextHop = some station)
    (hstill : t.still = s.still) (hmetered : ∀ f u, deliverForwarded p copy f u = metered f u) :
    ∃ f u, lookupFrame p t = metered f u
      ∧ u.still = ({ s with classifier := s.classifier.hit p.port copy } : State).still
      ∧ (t.alerts.destination = none → u.egress = t.egress ∧ u.uplink = t.uplink)
      ∧ f.kind = .forwarded ∧ f.entryTick = s.tick ∧ f.origin = copyOrigin p.port (sourceStation p.bytes) copy
      ∧ f.bytes = be48 station ++ be48 s.station
        ++ (rewriteBytes p.bytes p.ip (copySource copy p.ip) (copyDestination copy p.ip)).drop 12 := by
  obtain ⟨hlookup, hlooked⟩ := lookupFrame_of_still hstill hcopy
  have hstation : (t.lookedUp p).station = s.station := (still_station hlooked).trans rfl
  rw [hlookup, takeAction_uplink haction hdest httl (((congrArg _ (still_ports hlooked)).trans rfl).trans hhop),
    hmetered]
  exact ⟨_, _, rfl, hlooked, fun hd => ⟨lookedUp_egress hd p, lookedUp_uplink hd p⟩, rfl,
    (still_tick hlooked).trans rfl, rfl, (addressStations_eq _ _ _).trans (by rw [hstation])⟩

/-! ## What a share meter does with a frame (R59, R60) -/

theorem presentMeter_counts {i : Meter} {q : UplinkQueue} {f : Frame}
    (h : ¬ ((s.profileInUse i).action = .drop ∨ (s.meters.get i).hold = [])
      ∨ (s.refilledMeter i).level < f.bytes.length)
    {m : ShareMeter} (hm : (s.refilledMeter i).holdOrDiscard (s.profileInUse i).action ⟨f, q⟩ = m) :
    ∃ t, presentMeter i q f s = t ∧ t.quiet = ({ s with meters := s.meters.set i m } : State).quiet
      ∧ (∃ u, t = offer ⟨.nonconformance (meterName i), 1, f.origin, none⟩ u ∧ u.quiet = t.quiet)
      ∧ (s.alerts.destination = none → t.uplink = s.uplink) := by
  subst hm
  exact ⟨_, rfl, counted_nonconformance _ _ (setMeter_quiet s i _) (setMeter_destination s i _)
    (fun hd => setMeter_uplink hd i _) (presentMeter_exceeds h)⟩

/-! ## What the joint test does with a guest frame (R75, R76) -/

/-- The state with the one entry of a station changed. -/
theorem withGuest_middle {before after : List GuestEntry} {e : GuestEntry} {a : Station}
    (htable : s.guest.table = before ++ e :: after) (he : e.station = a)
    (hother : ∀ x ∈ before ++ after, x.station ≠ a) (g : GuestEntry → GuestEntry) :
    s.withGuest a g = { s with guest := { s.guest with table := before ++ g e :: after } } := by
  rw [State.withGuest, htable, updateGuest_middle he hother]

/-- R75: a nonconformance of the joint test, in a state whose guest table the test has refilled. -/
theorem jointTest_counts {a : Station} {f : Frame} {m : ShareMeter} {name : NonconformingMeter} {g : GuestUnit}
    (h : jointTest a f s
      = offer (occur (.nonconformance name) f.origin) (({ s with guest := g } : State).setMeter .guest m)) :
    ∃ t, jointTest a f s = t
      ∧ t.quiet = ({ s with meters := { s.meters with guest := m }, guest := g } : State).quiet
      ∧ (∃ u, t = offer ⟨.nonconformance name, 1, f.origin, none⟩ u ∧ u.quiet = t.quiet)
      ∧ (s.alerts.destination = none → t.uplink = s.uplink) :=
  ⟨_, rfl, counted_nonconformance _ _ (setMeter_quiet { s with guest := g } .guest m)
    (setMeter_destination { s with guest := g } .guest m)
    (fun hd => setMeter_uplink (s := { s with guest := g }) hd .guest m) h⟩

/-! ## What a release event does (R61, R77) -/

/-- R61, R77: the state after a release event, but for the sends of the night engine. -/
theorem releaseMeter_releases {i : Meter} (hhold : (s.meters.get i).hold ≠ []) :
    ∃ k ≤ (s.meters.get i).hold.length, heldBytes ((s.meters.get i).hold.take k) ≤ (s.refilledMeter i).level
      ∧ (∀ h, (s.meters.get i).hold[k]? = some h →
        (s.refilledMeter i).level < heldBytes ((s.meters.get i).hold.take k) + h.frame.bytes.length)
      ∧ ∃ m : ShareMeter, m = { s.refilledMeter i with
          level := (s.refilledMeter i).level - heldBytes ((s.meters.get i).hold.take k)
          hold := (s.meters.get i).hold.drop k }
        ∧ releaseMeter i s = ((s.meters.get i).hold.take k).foldl (releaseOne i) (s.setMeter i m)
        ∧ (releaseMeter i s).quiet = ({ s with
          meters := s.meters.set i m, guest := s.chargedGuest i ((s.meters.get i).hold.take k) } : State).quiet := by
  obtain ⟨k, hk, hsplit, hcovered, hnext⟩ := releaseSplit_eq (s.refilledMeter i).level (s.meters.get i).hold
  refine ⟨k, hk, hcovered, hnext, _, rfl, ?_⟩
  have hrelease := releaseMeter_eq hhold
  rw [hsplit] at hrelease
  refine ⟨hrelease, ?_⟩
  have hset := setMeter_quiet s i { s.refilledMeter i with
    level := (s.refilledMeter i).level - heldBytes ((s.meters.get i).hold.take k)
    hold := (s.meters.get i).hold.drop k }
  rw [hrelease]
  dsimp only
  generalize s.setMeter i _ = v at hset
  have hcharged : v.chargedGuest i ((s.meters.get i).hold.take k)
      = s.chargedGuest i ((s.meters.get i).hold.take k) := by
    rw [State.chargedGuest, quiet_guest hset, quiet_tick hset]
    rfl
  rw [foldl_releaseOne_quiet, hcharged]
  exact congrArg (fun x : State => { x with guest := s.chargedGuest i ((s.meters.get i).hold.take k) }) hset

/-- R61, R131: a release event is followed by the sends of the night engine only where it is TRANSFER's in DRAINING. -/
theorem exec_meterRelease {i : Meter} (hhold : (s.meters.get i).hold ≠ [])
    (hnight : (releaseMeter i s).night = s.night) : exec (.meterRelease i) s = .next
      (if i = .transfer ∧ s.night.state = .draining then nightFollow (releaseMeter i s) else releaseMeter i s) := by
  refine congrArg Host.Outcome.next ((if_neg hhold).trans ?_)
  by_cases htransfer : i = .transfer
  · rw [if_pos htransfer]
    by_cases hdraining : s.night.state = .draining
    · rw [if_pos ⟨htransfer, hdraining⟩]
    · rw [if_neg fun h => hdraining h.2, nightFollow_of_not_draining (by rwa [hnight])]
  · rw [if_neg htransfer, if_neg fun h => htransfer h.1]

/-! ## The obligation -/

/-- Settles O30: meters, joint test and release by their definitions, and a forwarded frame by the way to its meter. -/
theorem metersPassHoldAndRelease : Obligations.MetersPassHoldAndRelease := by
  refine ⟨?present, ?forward, ?joint, ?release⟩
  case present =>
    intro i q f m refilled p tested name s hname hm hp hrefilled htested
    obtain rfl : name = meterName i := by rw [hname]; cases i <;> rfl
    subst hm hp
    obtain rfl : refilled = s.refilledMeter i := hrefilled
    refine ⟨fun ht hle => ?conforms, fun haction hlt => presentMeter_counts (.inr hlt) ?drop,
      fun haction hnot => presentMeter_counts (hnot.imp_left (mt htested.2)) ?defer⟩
    case conforms =>
      rw [presentMeter_conforms (htested.1 ht) hle]
      exact ⟨_, rfl, conforming_joins q f (setMeter_quiet s i _) (setMeter_running s i _)
        fun hd => setMeter_uplink hd i _⟩
    case drop => rw [haction, holdOrDiscard_eq, if_neg fun h => nomatch h.1]
    case defer =>
      rw [haction, holdOrDiscard_eq]
      simp only [true_and]
      rfl
  case forward =>
    intro port bs ip copy newSource newDestination station metered checked s harrives hcopy haction hdest httl hhop
      hport hdestination hsource
    obtain rfl : copySource copy ip = newSource := hsource.symm
    obtain rfl : copyDestination copy ip = newDestination := hdestination.symm
    rcases hport with ⟨rfl, rfl, rfl⟩ | ⟨rfl, rfl, hpasses⟩
    · obtain ⟨n, v, hexec, hstill, hqueues⟩ := exec_frameReceived_office harrives
      obtain ⟨f, u, hlookup, hlooked, hkept, hframe⟩ := lookupFrame_uplink (p := ⟨.office, bs, ip, n⟩) hcopy haction
        hdest httl hhop hstill fun f u => deliverForwarded_office hdest rfl f u
      refine ⟨f, u, hexec.trans (congrArg _ hlookup), hlooked, fun hd => ?_, hframe⟩
      obtain ⟨hegress, huplink⟩ := hkept ((still_destination hstill).trans hd)
      exact ⟨hegress.trans (hqueues hd).1, huplink.trans (hqueues hd).2⟩
    · obtain ⟨hexec, hports, hclassifier, hdestination, hqueues, hstation, htick⟩ :=
        exec_frameReceived_guest harrives hpasses
      rw [← hclassifier] at hcopy ⊢
      rw [← hports] at hhop
      obtain ⟨f, u, hlookup, hlooked, hkept, hframe⟩ := lookupFrame_uplink (p := ⟨.guest, bs, ip, none⟩) hcopy haction
        hdest httl hhop rfl fun f u => deliverForwarded_guest hdest rfl f u
      rw [hstation, htick] at hframe
      refine ⟨f, u, hexec.trans (congrArg _ hlookup), hlooked, fun hd => ?_, hframe⟩
      obtain ⟨hegress, huplink⟩ := hkept (hdestination.trans hd)
      exact ⟨hegress.trans (hqueues hd).1, huplink.trans (hqueues hd).2⟩
  case joint =>
    intro a f m p refilled tested s hp hm hrefilled htested
    subst hp
    obtain rfl : m = s.refilledMeter .guest := hm
    obtain rfl : refilled = fun e => e.refill s.guest.settings s.tick := funext hrefilled
    refine ⟨fun hnone => jointTest_counts (jointTest_unknown (guestEntry_none hnone)),
      fun before after e htable he hother => ?_⟩
    have hentry := guestEntry_some htable he fun x hx => hother x (List.mem_append_left _ hx)
    have hmiddle := withGuest_middle htable he hother
    refine ⟨fun hlt => jointTest_counts ?station, fun hcovered ht hle => ?conforms,
      fun hcovered hnot => jointTest_counts ?exceeds⟩
    case station => rw [jointTest_station hentry hlt, hmiddle]
    case conforms =>
      rw [jointTest_conforms hentry hcovered (htested.1 ht) hle, hmiddle]
      have hjoins (g : GuestUnit) (m : ShareMeter) := conforming_joins (s := s) .guest f
        (setMeter_quiet { s with guest := g } .guest m) (setMeter_running { s with guest := g } .guest m)
        fun hd => setMeter_uplink (s := { s with guest := g }) hd .guest m
      exact ⟨_, rfl, hjoins _ _⟩
    case exceeds =>
      rw [jointTest_exceeds hentry hcovered (hnot.imp_left (mt htested.2)), hmiddle, holdOrDiscard_eq]
  case release =>
    intro i level charge s hlevel hcharge
    obtain rfl : level = (s.refilledMeter i).level := hlevel
    obtain rfl : charge = chargedTable s.guest.settings s.tick := funext fun table => funext (hcharge table)
    refine ⟨fun hnone => congrArg Host.Outcome.next (if_pos hnone), fun hhold => ?_⟩
    obtain ⟨k, hk, hcovered, hnext, m, hm, hfold, hquiet⟩ := releaseMeter_releases hhold
    have hmeters : (releaseMeter i s).meters = s.meters.set i m := (quiet_meters hquiet).trans rfl
    have hguest : (releaseMeter i s).guest = s.chargedGuest i ((s.meters.get i).hold.take k) :=
      (quiet_guest hquiet).trans rfl
    refine ⟨releaseMeter i s, k, heldBytes ((s.meters.get i).hold.take k),
      exec_meterRelease hhold ((quiet_night hquiet).trans rfl), hk, rfl, hcovered, hnext, hmeters.trans (hm ▸ rfl),
      hguest, by rw [hmeters, hguest, hquiet], fun hrun hd hbusy hlimit htotal => ?_⟩
    have hset := setMeter_uplink hd i m
    have hegress : (s.setMeter i m).egress = s.egress := egress_of_core (setMeter_core hd i m)
    have hjoins := foldl_releaseOne_joins i ((s.meters.get i).hold.take k) ((setMeter_running s i m).trans hrun)
      (by rwa [hset]) (by rwa [hset]) (by rwa [hset, List.length_take_of_le hk])
    rwa [← hfold, hset, hegress] at hjoins

end Sys2Proof.Machine

/-! SUPPORT. Replies to open requests (R44, R91, R92). -/

namespace Sys2Proof.Machine

/- The proofs below run one after another: run together, their waiting threads outgrow the memory a check may use. -/
set_option Elab.async false

variable {s t : State} {p : Passage} {i : Fin 64} {r : OpenRequest}

/-! ## The entry a frame is a reply to (R91) -/

theorem findSome?_finRange_eq_some {α : Type} {n : Nat} {f : Fin n → Option α} {i : Fin n} {x : α} (h : f i = some x)
    (hlow : ∀ j, j < i → f j = none) : (List.finRange n).findSome? f = some x := by
  rw [List.findSome?_eq_some_iff]
  refine ⟨(List.finRange n).take i, i, (List.finRange n).drop (i + 1), ?cut, h, fun j hj => hlow j ?before⟩
  case cut =>
    have hcut := List.take_append_drop i.val (List.finRange n)
    rw [List.drop_eq_getElem_cons (by simp)] at hcut
    simpa using hcut.symm
  case before =>
    obtain ⟨k, hk, rfl⟩ := List.mem_take_iff_getElem.1 hj
    simpa [Fin.lt_def] using (lt_min_iff.1 hk).1

/-- R91: of the entries a frame is a reply to, the one of the lowest slot. -/
theorem matchReply_some (hi : s.tracker.slots[i] = some r) (hr : isReply s p r = true)
    (hlow : ∀ (j : Fin 64) (r' : OpenRequest), j < i → s.tracker.slots[j] = some r' → isReply s p r' = false) :
    matchReply s p = some (i, r) := by
  refine findSome?_finRange_eq_some (i := i) (by rw [hi]; exact if_pos hr) fun j hj => ?_
  split
  · next r' hr' => rw [hlow j r' hj hr']; rfl
  · rfl

theorem isReply_of_still (h : t.still = s.still) (p : Passage) : isReply t p = isReply s p := by
  funext r
  simp only [isReply, still_tills h]

/-- What a match depends on. -/
theorem matchReply_of_still (h : t.still = s.still) (p : Passage) : matchReply t p = matchReply s p := by
  unfold matchReply
  rw [isReply_of_still h, still_tracker h]

theorem passOn_reply (hp : p.port = .uplink) (h : matchReply s p = some (i, r)) : passOn p s = replyFrame p i r s := by
  unfold passOn
  rw [if_pos hp, h]

/-- R5 to R10: a frame that arrives on UPLINK meets the reply match. -/
theorem exec_frameReceived_uplink {bs : Bytes} {ip : Ipv4} (harrives : s.arrives .uplink bs ip) :
    exec (.frameReceived .uplink true bs) s = .next (passOn ⟨.uplink, bs, ip, none⟩
      (offer ⟨.received .uplink, 1, ⟨false, none, .uplink, some (word48 bs 6)⟩, none⟩ s)) := by
  obtain ⟨hup, hrun, hmin, hmax, hto, hbroad, htype, hip, hgate⟩ := harrives
  have hstill := offer_still ⟨.received .uplink, 1, ⟨false, none, .uplink, some (word48 bs 6)⟩, none⟩ s
  rw [exec_frameReceived hup hmin hmax (.inl hto), sortFrame_ipv4 (hto ▸ hbroad) htype hip, sourceCheck_uplink]
  exact congrArg _ (deliverLocal_of_no_gateway ((running_of_still hstill).trans hrun)
    ((isAnyGateway_of_still hstill _).trans hgate))

/-! ## A matched reply (R92) -/

/-- R92: the state with the entry of a reply freed, a late one counted. -/
def State.replied (s : State) (p : Passage) (i : Fin 64) (r : OpenRequest) : State :=
  (if r.state = .heldOver then
    offer (occur (.tracker .late) ⟨r.mark, r.windowIndex, p.port, some (sourceStation p.bytes)⟩) s else s).setSlot i none

theorem replied_still (s : State) (p : Passage) (i : Fin 64) (r : OpenRequest) : (s.replied p i r).still
    = ({ s with tracker := { s.tracker with slots := s.tracker.slots.set i none } } : State).still := by
  unfold State.replied
  split
  · have hstill := offer_still (occur (.tracker .late) ⟨r.mark, r.windowIndex, p.port, some (sourceStation p.bytes)⟩) s
    rw [State.setSlot, still_tracker hstill]
    exact congrArg (fun x : State => { x with tracker := s.tracker.setSlot i none }) hstill
  · rfl

theorem replied_egress (hd : s.alerts.destination = none) (p : Passage) (i : Fin 64) (r : OpenRequest) :
    (s.replied p i r).egress = s.egress := by
  unfold State.replied
  split
  · exact offer_egress hd _
  · rfl

theorem replyFrame_expired (httl : p.ip.ttl.toNat ≤ 1) (i : Fin 64) (r : OpenRequest) (s : State) :
    replyFrame p i r s = drop .ttlExpired (receivedOrigin p.port (sourceStation p.bytes)) s :=
  if_pos ((ttlExpired_iff _).2 httl)

/-- R92: a matched reply with a TTL above 1 frees its entry, then resolves to its till. -/
theorem replyFrame_live (httl : 2 ≤ p.ip.ttl.toNat) (i : Fin 64) (r : OpenRequest) (s : State) : replyFrame p i r s
    = match resolve (s.replied p i r) (some p.port) .till p.ip.destination with
      | .error e => drop e (receivedOrigin p.port (sourceStation p.bytes)) (s.replied p i r)
      | .ok station => presentEgress .till (forwardedFrame (s.replied p i r) p (some r.originalAddress) none station
          (receivedOrigin p.port (sourceStation p.bytes))) (s.replied p i r) :=
  if_neg (by rw [ttlExpired_iff]; omega)

/-- R92: a matched reply leaves its entry freed, whatever becomes of the frame. -/
theorem replyFrame_still (httl : 2 ≤ p.ip.ttl.toNat) (i : Fin 64) (r : OpenRequest) (s : State) :
    (replyFrame p i r s).still = (s.replied p i r).still := by
  rw [replyFrame_live httl]
  split
  · exact drop_still _ _ _
  · exact presentEgress_still _ _ _

/-- R44, R92: a matched reply whose till resolves joins the TILL egress queue, from the address the till sent to. -/
theorem replyFrame_joins {e : TillEntry} (httl : 2 ≤ p.ip.ttl.toNat) (hrun : s.running = true)
    (hd : s.alerts.destination = none) (hup : s.up .till = true) (hroom : s.egress.till.length < 64)
    (he : s.tillAt p.ip.destination = some e) : (replyFrame p i r s).egress = { s.egress with
      till := s.egress.till ++ [forwardedFrame s p (some r.originalAddress) none e.station
        (receivedOrigin p.port (sourceStation p.bytes))] } := by
  have hstill := replied_still s p i r
  have hresolved : resolve (s.replied p i r) (some p.port) .till p.ip.destination = .ok e.station := by
    have hfound : resolve s (some p.port) .till p.ip.destination = .ok e.station := by rw [resolve_till hup, he]; rfl
    exact (resolve_of_still hstill _ _ _).trans hfound
  have hframe : forwardedFrame (s.replied p i r) p = forwardedFrame s p := by
    funext a b c o
    simp only [forwardedFrame, still_station hstill, still_tick hstill]
  rw [replyFrame_live httl, hresolved]
  dsimp only
  rw [hframe, presentEgress_room, ← replied_egress hd p i r]
  · rfl
  · exact .inl ((running_of_still hstill).trans hrun)
  · rw [State.up, still_links hstill]; exact hup
  · rw [replied_egress hd]; exact hroom

/-! ## A frame that is no reply -/

/-- R28 to R32: what the action of a copy leaves as it was for a frame received on UPLINK. -/
theorem takeAction_still_of_uplink (hp : p.port = .uplink) (copy : LookupCopy) (s : State) :
    (takeAction p copy s).still = s.still := by
  have hdrop (reason : DropReason) (origin : Origin) := drop_still reason origin s
  cases haction : copy.action with
  | forward =>
    rw [takeAction_forward haction]
    unfold forwardFrame
    dsimp only
    split
    · exact hdrop _ _
    · split
      · exact hdrop _ _
      · exact deliverForwarded_still (by rw [hp]; decide) (.inr (by rw [hp]; decide)) _ _
  | track =>
    rw [takeAction_track haction]
    rcases Nat.lt_or_ge p.ip.ttl.toNat 2 with httl | httl
    · rw [trackFrame_expired (Nat.le_of_lt_succ httl)]; exact hdrop _ _
    · rw [trackFrame_unsuitable httl (by rw [hp]; decide)]; exact hdrop _ _
  | spool => rw [takeAction_spool haction, spoolFrame_unsuitable (by rw [hp]; decide)]; exact hdrop _ _
  | drop => rw [takeAction_drop haction]; exact hdrop _ _

/-- R25 to R32: a frame received on UPLINK that is looked up changes the hit count of its copy. -/
theorem lookupFrame_still_of_uplink (hp : p.port = .uplink) (h : t.still = s.still) : (lookupFrame p t).still
    = ({ s with classifier := s.classifier.hit p.port (lookupCopy s.classifier p.port p.ip) } : State).still := by
  obtain ⟨hlookup, hlooked⟩ := lookupFrame_of_still (p := p) h rfl
  rw [hlookup, takeAction_still_of_uplink hp]
  exact hlooked

/-! ## The obligation -/

/-- Settles O23: the reply match decides whether the frame goes to the tracker or to the lookup. -/
theorem matchedReplyFreesItsRequest : Obligations.MatchedReplyFreesItsRequest := by
  intro bs ip reply s harrives hreply
  have hstill := offer_still ⟨.received .uplink, 1, ⟨false, none, .uplink, some (word48 bs 6)⟩, none⟩ s
  have hegress (hd) := offer_egress hd ⟨.received .uplink, 1, ⟨false, none, .uplink, some (word48 bs 6)⟩, none⟩ (s := s)
  have hexec := exec_frameReceived_uplink harrives
  generalize offer ⟨.received .uplink, 1, ⟨false, none, .uplink, some (word48 bs 6)⟩, none⟩ s = v
    at hstill hegress hexec
  have hreply_iff (r : OpenRequest) : reply r ↔ isReply s ⟨.uplink, bs, ip, none⟩ r = true :=
    (hreply r).trans (isReply_iff (s := s) (p := ⟨.uplink, bs, ip, none⟩) r).symm
  have hnot {r : OpenRequest} (h : ¬ reply r) : isReply s ⟨.uplink, bs, ip, none⟩ r = false := by
    rwa [hreply_iff, Bool.not_eq_true] at h
  have hmatched := matchReply_of_still hstill ⟨.uplink, bs, ip, none⟩
  refine ⟨fun i r hi hr hlow => ?reply, fun hnone => ?lookup⟩
  case reply =>
    rw [matchReply_some hi ((hreply_iff r).1 hr) fun j r' hj hr' => hnot (hlow j r' hj hr')] at hmatched
    rw [passOn_reply rfl hmatched] at hexec
    refine ⟨fun httl => ⟨_, hexec, ?_⟩, fun httl => ⟨_, hexec, ?_, fun e hd hup hroom he => ?_⟩⟩
    · rw [replyFrame_expired httl]
      exact (drop_still _ _ _).trans hstill
    · rw [replyFrame_still httl, replied_still, still_tracker hstill]
      exact congrArg (fun x : State => { x with tracker := s.tracker.setSlot i none }) hstill
    · have hdv : v.alerts.destination = none := (still_destination hstill).trans hd
      have hup' : v.up .till = true := by rw [State.up, still_links hstill]; exact hup
      have he' : v.tillAt ip.destination = some e := by rw [State.tillAt, still_tills hstill]; exact he
      rw [← hegress hd] at hroom ⊢
      refine ⟨_, replyFrame_joins httl ((running_of_still hstill).trans harrives.2.1) hdv hup' hroom he', rfl,
        still_tick hstill, ?_⟩
      rw [← still_station hstill]
      exact addressStations_eq _ _ _
  case lookup =>
    rw [matchReply_none fun i r hr => hnot (hnone i r hr)] at hmatched
    rw [passOn_lookup (.inr hmatched)] at hexec
    have hleft := lookupFrame_still_of_uplink (p := ⟨.uplink, bs, ip, none⟩) rfl hstill
    exact ⟨_, hexec, (still_tracker hleft).trans rfl, (still_classifier hleft).trans rfl⟩

end Sys2Proof.Machine

/-! SUPPORT. The bytes of a rewritten frame (R39 to R42, R45, R46, R193): the bytes before the fields that the rewrite writes,
those fields, and the rest; and the rewrite of a frame whose TTL is lowered (R41). -/

namespace Sys2Proof.Machine

/- The proofs below run one after another: run together, their waiting threads outgrow the memory a check may use. -/
set_option Elab.async false

variable {bs front rest : Bytes} {ip : Ipv4} {source destination : Option NetAddr}

/-! ## Bytes and fields (R1) -/

theorem be16_append (a b : Byte) : be16 (a ++ b) = [a, b] := by
  simp only [be16, List.cons.injEq, and_true]
  exact ⟨BitVec.extractLsb'_append_eq_left, BitVec.extractLsb'_append_eq_right⟩

theorem be32_append (a b : BitVec 16) : be32 (a ++ b) = be16 a ++ be16 b := by
  rw [be32, BitVec.extractLsb'_append_eq_left, BitVec.extractLsb'_append_eq_right]

theorem drop_eq_byteAt {i : Nat} (h : i + 1 ≤ bs.length) : bs.drop i = [byteAt bs i] ++ bs.drop (i + 1) := by
  rw [List.drop_eq_getElem_cons h, byteAt, List.getD_eq_getElem _ _ h]
  rfl

theorem drop_eq_word16 {i : Nat} (h : i + 2 ≤ bs.length) : bs.drop i = be16 (word16 bs i) ++ bs.drop (i + 2) := by
  rw [word16, be16_append, drop_eq_byteAt (by omega), drop_eq_byteAt (i := i + 1) (by omega)]
  rfl

theorem drop_eq_word32 {i : Nat} (h : i + 4 ≤ bs.length) : bs.drop i = be32 (word32 bs i) ++ bs.drop (i + 4) := by
  rw [word32, be32_append, drop_eq_word16 (by omega), drop_eq_word16 (i := i + 2) (by omega), List.append_assoc]

theorem byteAt_append_left {n : Nat} (h : n < front.length) (bs : Bytes) : byteAt (front ++ bs) n = byteAt front n := by
  simp [byteAt, List.getElem?_append_left h]

/-! ## Bytes replaced -/

section
variable {new : Bytes} {i : Nat}

theorem length_patch (h : i + new.length ≤ bs.length) : (patch bs i new).length = bs.length := by
  simp only [patch, List.length_append, List.length_take, List.length_drop]
  omega

theorem take_patch {n : Nat} (hn : n ≤ i) (h : i ≤ bs.length) : (patch bs i new).take n = bs.take n := by
  rw [patch, List.append_assoc, List.take_append_of_le_length (by rw [List.length_take]; omega), List.take_take,
    min_eq_left hn]

theorem byteAt_patch {k : Nat} (h : i + new.length ≤ bs.length) (hk : k < i ∨ i + new.length ≤ k) :
    byteAt (patch bs i new) k = byteAt bs k := by
  have hfront : (bs.take i).length = i := List.length_take_of_le (by omega)
  rcases hk with hk | hk
  · rw [patch, List.append_assoc, byteAt_append_left (by omega)]
    simp [byteAt, hk]
  · obtain ⟨j, rfl⟩ := Nat.exists_eq_add_of_le hk
    rw [patch, byteAt_append (n := i + new.length) (by rw [List.length_append, hfront])]
    simp [byteAt]

/-- A patch after the first `n` bytes. -/
theorem patch_append_right {n : Nat} (h : front.length = n) : patch (front ++ bs) (n + i) new = front ++ patch bs i new := by
  subst h
  simp [patch, Nat.add_assoc, List.take_length_add_append, List.drop_length_add_append]

/-- A patch inside the middle of a run of bytes. -/
theorem take_drop_patch {n m : Nat} (h : i + new.length ≤ m) (hm : n + m ≤ bs.length) :
    ((patch bs (n + i) new).drop n).take m = patch ((bs.drop n).take m) i new := by
  obtain ⟨a, b, rfl, ha⟩ : ∃ a b, bs = a ++ b ∧ a.length = n :=
    ⟨_, _, (List.take_append_drop n bs).symm, List.length_take_of_le (by omega)⟩
  rw [patch_append_right ha, List.drop_left' ha, List.drop_left' ha]
  rw [List.length_append] at hm
  obtain ⟨c, d, rfl, hc⟩ : ∃ c d, b = c ++ d ∧ c.length = m :=
    ⟨_, _, (List.take_append_drop m b).symm, List.length_take_of_le (by omega)⟩
  rw [List.take_left' hc]
  have hpatch : patch (c ++ d) i new = patch c i new ++ d := by
    rw [patch, List.take_append_of_le_length (by omega), List.drop_append_of_le_length (by omega), patch]
    simp only [List.append_assoc]
  rw [hpatch, List.take_left' (by rw [length_patch (by omega), hc])]

/-- A field replaced by itself. -/
theorem patch_word16 (h : i + 2 ≤ bs.length) : patch bs i (be16 (word16 bs i)) = bs := by
  rw [patch, length_be16, List.append_assoc, ← drop_eq_word16 h, List.take_append_drop]

end

/-! ## The fields that the rewrite writes (R193) -/

/-- R193: a frame, or its header alone, as the bytes before the TTL, the fields from the TTL to the destination address, and
the rest. -/
def frameOf (front : Bytes) (ttl protocol : Byte) (checksum : BitVec 16) (source destination : NetAddr)
    (rest : Bytes) : Bytes :=
  front ++ ([ttl, protocol] ++ (be16 checksum ++ (be32 source ++ (be32 destination ++ rest))))

/-- R193: every frame long enough for an IPv4 header has these fields. -/
theorem eq_frameOf (h : 34 ≤ bs.length) : bs = frameOf (bs.take 22) (byteAt bs 22) (byteAt bs 23) (word16 bs 24)
    (word32 bs 26) (word32 bs 30) (bs.drop 34) := by
  rw [frameOf, ← drop_eq_word32 (by omega), ← drop_eq_word32 (by omega), ← drop_eq_word16 (by omega)]
  have hfields : bs.drop 22 = [byteAt bs 22, byteAt bs 23] ++ bs.drop 24 := by
    rw [drop_eq_byteAt (by omega), drop_eq_byteAt (i := 23) (by omega)]
    rfl
  rw [← hfields, List.take_append_drop]

theorem length_frameOf (front : Bytes) (ttl protocol : Byte) (c : BitVec 16) (a d : NetAddr) (rest : Bytes) :
    (frameOf front ttl protocol c a d rest).length = front.length + 12 + rest.length := by
  simp only [frameOf, List.length_append, length_be16, length_be32, List.length_cons, List.length_nil]
  omega

theorem frameOf_append (front : Bytes) (ttl protocol : Byte) (c : BitVec 16) (a d : NetAddr) (rest : Bytes) :
    frameOf front ttl protocol c a d rest = frameOf front ttl protocol c a d [] ++ rest := by
  simp only [frameOf, List.append_assoc, List.nil_append]

section
variable {ttl protocol : Byte} {c : BitVec 16} {a d : NetAddr} (hfront : front.length = 22)
include hfront

theorem byteAt_frameOf_front {i : Nat} (h : i < 22) : byteAt (frameOf front ttl protocol c a d rest) i = byteAt front i := by
  unfold frameOf
  exact byteAt_append_left (by omega) _

theorem byteAt_frameOf_ttl : byteAt (frameOf front ttl protocol c a d rest) 22 = ttl := by
  unfold frameOf
  exact byteAt_append hfront _ 0

theorem byteAt_frameOf_protocol : byteAt (frameOf front ttl protocol c a d rest) 23 = protocol := by
  unfold frameOf
  exact byteAt_append hfront _ 1

theorem word16_frameOf_checksum : word16 (frameOf front ttl protocol c a d rest) 24 = c :=
  (word16_append hfront _ 2).trans (halves16 c)

theorem word32_frameOf_source : word32 (frameOf front ttl protocol c a d rest) 26 = a :=
  (word32_append hfront _ 4).trans (word32_be32 a [])

theorem word32_frameOf_destination : word32 (frameOf front ttl protocol c a d rest) 30 = d :=
  (word32_append hfront _ 8).trans (word32_be32 d [])

theorem length_frameOf_nil : (frameOf front ttl protocol c a d []).length = 34 := by rw [length_frameOf, hfront]; rfl

theorem drop_frameOf (i : Nat) : (frameOf front ttl protocol c a d rest).drop (34 + i) = rest.drop i := by
  rw [frameOf_append, ← length_frameOf_nil hfront (ttl := ttl) (protocol := protocol) (c := c) (a := a) (d := d),
    List.drop_length_add_append]

/-- R193: the header is these fields between the bytes before them and the options. -/
theorem header_frameOf {n : Nat} (hn : 20 ≤ n) : ((frameOf front ttl protocol c a d rest).drop 14).take n
    = frameOf (front.drop 14) ttl protocol c a d (rest.take (n - 20)) := by
  obtain ⟨k, rfl⟩ := Nat.exists_eq_add_of_le hn
  have hlen : (frameOf (front.drop 14) ttl protocol c a d []).length = 20 := by
    rw [length_frameOf, List.length_drop, hfront]; rfl
  have hdrop : (frameOf front ttl protocol c a d rest).drop 14 = frameOf (front.drop 14) ttl protocol c a d rest :=
    List.drop_append_of_le_length (by omega)
  rw [hdrop, frameOf_append, ← hlen, List.take_length_add_append, Nat.add_sub_cancel_left, ← frameOf_append]

/-! ## Fields written -/

theorem patch_frameOf_ttl (x : Byte) :
    patch (frameOf front ttl protocol c a d rest) 22 [x] = frameOf front x protocol c a d rest :=
  patch_append (old := [ttl]) hfront rfl

theorem patch_frameOf_checksum (x : BitVec 16) :
    patch (frameOf front ttl protocol c a d rest) 24 (be16 x) = frameOf front ttl protocol x a d rest := by
  simp only [frameOf, ← List.append_assoc front]
  exact patch_append (by simp [hfront]) rfl

theorem patch_frameOf_source (x : NetAddr) :
    patch (frameOf front ttl protocol c a d rest) 26 (be32 x) = frameOf front ttl protocol c x d rest := by
  have heq (y : NetAddr) : frameOf front ttl protocol c y d rest
      = (front ++ ([ttl, protocol] ++ be16 c)) ++ (be32 y ++ (be32 d ++ rest)) := by
    simp only [frameOf, List.append_assoc]
  rw [heq, heq]
  exact patch_append (by simp [hfront]) rfl

theorem patch_frameOf_destination (x : NetAddr) :
    patch (frameOf front ttl protocol c a d rest) 30 (be32 x) = frameOf front ttl protocol c a x rest := by
  have heq (y : NetAddr) : frameOf front ttl protocol c a y rest
      = (front ++ ([ttl, protocol] ++ (be16 c ++ be32 a))) ++ (be32 y ++ rest) := by
    simp only [frameOf, List.append_assoc]
  rw [heq, heq]
  exact patch_append (by simp [hfront]) rfl

theorem patch_frameOf_rest (i : Nat) (new : Bytes) : patch (frameOf front ttl protocol c a d rest) (34 + i) new
    = frameOf front ttl protocol c a d (patch rest i new) := by
  rw [frameOf_append, patch_append_right (length_frameOf_nil hfront), ← frameOf_append]

end

/-! ## A frame with a good header (R7) -/

theorem headerGood_iff (bs : Bytes) : headerGood bs = true ↔ (byteAt bs 14).toNat / 16 = 4
    ∧ 20 ≤ (ipv4Fields bs).headerLength ∧ (ipv4Fields bs).headerLength ≤ (ipv4Fields bs).totalLength
    ∧ (ipv4Fields bs).totalLength ≤ bs.length - 14
    ∧ onesSum (wordsOf ((bs.drop 14).take (ipv4Fields bs).headerLength)) = 0xFFFF := by
  simp only [headerGood, ipv4Fields, Bool.and_eq_true, beq_iff_eq, decide_eq_true_eq, and_assoc]

theorem parseIpv4_eq_some : parseIpv4 bs = some ip ↔ headerGood bs = true ∧ ipv4Fields bs = ip := by
  simp only [parseIpv4, Option.ite_none_right_eq_some, Option.some.injEq]

/-- R7: which frames have a transport checksum, and where it lies. -/
theorem transportChecksum_eq_some {c : BitVec 16} : (ipv4Fields bs).transportChecksum = some c
    ↔ (ipv4Fields bs).fragmentOffset = 0
      ∧ (((ipv4Fields bs).protocol = 6 ∧ (ipv4Fields bs).headerLength + 20 ≤ (ipv4Fields bs).totalLength
          ∧ word16 bs ((ipv4Fields bs).transportAt + 16) = c)
        ∨ ((ipv4Fields bs).protocol = 17 ∧ (ipv4Fields bs).headerLength + 8 ≤ (ipv4Fields bs).totalLength
          ∧ word16 bs ((ipv4Fields bs).transportAt + 6) = c)) := by
  simp only [ipv4Fields, Ipv4.transportAt]
  by_cases htcp : byteAt bs 23 = 6#8
  · simp [htcp, and_assoc]
  · by_cases hudp : byteAt bs 23 = 17#8
    · simp [hudp, and_assoc]
    · simp [htcp, hudp]

/-- R7: a transport checksum lies within the total length. -/
theorem transportChecksum_inside {c : BitVec 16} (h : (ipv4Fields bs).transportChecksum = some c) :
    (ipv4Fields bs).headerLength + (transportChecksumOffset (ipv4Fields bs) + 2) ≤ (ipv4Fields bs).totalLength := by
  unfold transportChecksumOffset
  rcases (transportChecksum_eq_some.1 h).2 with ⟨hp, hlen, -⟩ | ⟨hp, hlen, -⟩
  · rw [if_neg (by rw [hp]; decide)]
    omega
  · rw [if_pos hp]
    omega

/-! ## The rewrite (R39 to R46) -/

/-- R46: what a rewrite leaves after the addresses: the transport checksum adjusted when an address was rewritten. -/
def rewrittenRest (ip : Ipv4) (source destination : Option NetAddr) (rest : Bytes) : Bytes :=
  match ip.transportChecksum with
  | some c =>
    if source.isSome || destination.isSome then
      patch rest (ip.headerLength - 20 + transportChecksumOffset ip)
        (be16 (transportChecksumAfter ip c source destination))
    else rest
  | none => rest

/-- R41, R42, R45: a frame rewritten, field by field. -/
theorem rewriteBytes_frameOf (hfront : front.length = 22) (hheader : 20 ≤ ip.headerLength) (ttl protocol : Byte)
    (c : BitVec 16) (a d : NetAddr) : rewriteBytes (frameOf front ttl protocol c a d rest) ip source destination
      = frameOf front (ip.ttl - 1) protocol (headerChecksumAfter ip source destination) (source.getD a)
        (destination.getD d) (rewrittenRest ip source destination rest) := by
  have hat : ip.transportAt + transportChecksumOffset ip
      = 34 + (ip.headerLength - 20 + transportChecksumOffset ip) := by
    unfold Ipv4.transportAt
    omega
  unfold rewriteBytes rewrittenRest
  dsimp only
  rw [patch_frameOf_ttl hfront, patch_frameOf_checksum hfront, hat]
  cases source <;> cases destination <;> cases ip.transportChecksum <;>
    simp only [patch_frameOf_source hfront, patch_frameOf_destination hfront, patch_frameOf_rest hfront,
      Option.getD_none, Option.getD_some, Option.isSome_none, Option.isSome_some, Bool.or_self, Bool.or_true,
      Bool.true_or, Bool.false_eq_true, if_true, if_false]

section
variable (hip : parseIpv4 bs = some ip)
include hip

/-- R7: the lengths of a frame with a good header. -/
theorem parseIpv4_lengths : 20 ≤ ip.headerLength ∧ ip.headerLength ≤ ip.totalLength ∧ 14 + ip.totalLength ≤ bs.length := by
  obtain ⟨hgood, rfl⟩ := parseIpv4_eq_some.1 hip
  obtain ⟨-, hmin, hheader, htotal, -⟩ := (headerGood_iff bs).1 hgood
  omega

/-- R7, R193: a frame with a good header, field by field. -/
theorem eq_frameOf_of_parseIpv4 :
    bs = frameOf (bs.take 22) ip.ttl ip.protocol ip.checksum ip.source ip.destination (bs.drop 34) := by
  have hlengths := parseIpv4_lengths hip
  obtain ⟨-, rfl⟩ := parseIpv4_eq_some.1 hip
  exact eq_frameOf (by omega)

/-- R41, R42, R45: the same frame rewritten, field by field. -/
theorem rewriteBytes_eq_frameOf (source destination : Option NetAddr) : rewriteBytes bs ip source destination
    = frameOf (bs.take 22) (ip.ttl - 1) ip.protocol (headerChecksumAfter ip source destination)
      (source.getD ip.source) (destination.getD ip.destination) (rewrittenRest ip source destination (bs.drop 34)) := by
  obtain ⟨hheader, hlength⟩ := parseIpv4_lengths hip
  conv_lhs => rw [eq_frameOf_of_parseIpv4 hip]
  exact rewriteBytes_frameOf (List.length_take_of_le (by omega)) hheader ..

end

/-! ## The obligation -/

/-- R1: two bytes as one number. -/
theorem ofNat_eq_append {n : Nat} (a b : Byte) (h : a.toNat = n) : BitVec.ofNat 16 (256 * n + b.toNat) = a ++ b := by
  subst h
  apply BitVec.eq_of_toNat_eq
  rw [BitVec.toNat_append, ← Nat.shiftLeft_add_eq_or_of_lt b.isLt, BitVec.toNat_ofNat, Nat.shiftLeft_eq]
  omega

/-- R41: with no address rewritten the rewrite writes the TTL and the header checksum. -/
theorem rewriteBytes_none_none (bs : Bytes) (ip : Ipv4) : rewriteBytes bs ip none none
    = patch (patch bs 22 [ip.ttl - 1]) 24 (be16 (headerChecksumAfter ip none none)) := by
  unfold rewriteBytes
  cases ip.transportChecksum <;> rfl

/-- Settles O26: the fields of a rewritten frame, and the two patches of a frame with no address rewritten. -/
theorem rewriteLowersTheTtlByOne : Obligations.RewriteLowersTheTtlByOne := by
  intro bs ip source destination words hip httl hnone hsome
  have hlengths := parseIpv4_lengths hip
  have hfront : (bs.take 22).length = 22 := List.length_take_of_le (by omega)
  have hlowered : (ip.ttl - 1).toNat = ip.ttl.toNat - 1 := by bv_omega
  have hwords : rewrittenWords ip source destination = words ip.destination destination ++ words ip.source source := by
    unfold rewrittenWords
    cases source <;> cases destination <;> simp only [hnone, hsome] <;> rfl
  rw [rewriteBytes_eq_frameOf hip, byteAt_frameOf_ttl hfront, byteAt_frameOf_protocol hfront,
    word16_frameOf_checksum hfront]
  obtain ⟨-, rfl⟩ := parseIpv4_eq_some.1 hip
  refine ⟨hlowered, rfl, ?checksum, fun k httl' hhigh hlow => ?others⟩
  case checksum => rw [headerChecksumAfter, hwords, ofNat_eq_append _ _ rfl, ofNat_eq_append _ _ hlowered]; rfl
  case others =>
    have hfirst : 22 + [(ipv4Fields bs).ttl - 1].length ≤ bs.length := by simp only [List.length_singleton]; omega
    rw [rewriteBytes_none_none, byteAt_patch (by rw [length_patch hfirst, length_be16]; omega)
      (by rw [length_be16]; omega), byteAt_patch hfirst (by simp only [List.length_singleton]; omega)]

end Sys2Proof.Machine

/-! SUPPORT. One's-complement arithmetic modulo 65,535 (R7, R45), and the checksums of a rewritten frame (R45, R46). -/

namespace Sys2Proof.Machine

/- The proofs below run one after another: run together, their waiting threads outgrow the memory a check may use. -/
set_option Elab.async false

variable {bs datagram : Bytes} {ip : Ipv4} {source destination : Option NetAddr}

/-! ## Words modulo 65,535 (R45)

The end-around carry makes a sum of words a sum modulo 65,535, in which 0x0000 and 0xFFFF are the same. A sum with a word that
is not 0 is never 0x0000, so the residue decides whether it is 0xFFFF. -/

/-- A word modulo 65,535. -/
def residue (x : BitVec 16) : ZMod 65535 := x.toNat

theorem residue_eq_zero {x : BitVec 16} : residue x = 0 ↔ x = 0 ∨ x = 0xFFFF := by
  rw [residue, ZMod.natCast_eq_zero_iff]
  constructor
  · rintro ⟨k, hk⟩
    bv_omega
  · rintro (rfl | rfl) <;> decide

theorem residue_not (x : BitVec 16) : residue (~~~x) = -residue x := by
  have hsum : (~~~x).toNat + x.toNat = 65535 := by
    rw [BitVec.toNat_not]
    omega
  rw [eq_neg_iff_add_eq_zero, residue, residue, ← Nat.cast_add, hsum]
  exact ZMod.natCast_self 65535

theorem onesAdd_toNat (a b : BitVec 16) : (onesAdd a b).toNat = a.toNat + b.toNat
    ∨ (onesAdd a b).toNat + 65535 = a.toNat + b.toNat ∧ onesAdd a b ≠ 0 := by
  unfold onesAdd
  split <;> bv_omega

theorem residue_onesAdd (a b : BitVec 16) : residue (onesAdd a b) = residue a + residue b := by
  simp only [residue, ← Nat.cast_add]
  rcases onesAdd_toNat a b with h | ⟨h, -⟩
  · rw [h]
  · rw [← h, Nat.cast_add, ZMod.natCast_self, add_zero]

theorem onesAdd_eq_zero {a b : BitVec 16} : onesAdd a b = 0 ↔ a = 0 ∧ b = 0 := by
  rcases onesAdd_toNat a b with h | ⟨h, hne⟩
  · bv_omega
  · refine iff_of_false hne ?_
    rintro ⟨rfl, rfl⟩
    simp at h

theorem residue_foldl_onesAdd (words : List (BitVec 16)) (x : BitVec 16) :
    residue (words.foldl onesAdd x) = residue x + (words.map residue).sum := by
  induction words generalizing x with
  | nil => simp
  | cons w words ih => rw [List.foldl_cons, ih, residue_onesAdd, List.map_cons, List.sum_cons, add_assoc]

theorem foldl_onesAdd_eq_zero {words : List (BitVec 16)} {x : BitVec 16} (h : words.foldl onesAdd x = 0) :
    x = 0 ∧ ∀ w ∈ words, w = 0 := by
  induction words generalizing x with
  | nil => exact ⟨h, nofun⟩
  | cons w words ih =>
    obtain ⟨hadd, hwords⟩ := ih h
    obtain ⟨hx, hw⟩ := onesAdd_eq_zero.1 hadd
    exact ⟨hx, List.forall_mem_cons.2 ⟨hw, hwords⟩⟩

/-- R7: the test of a checksum, as a sum modulo 65,535. -/
theorem onesSum_eq_ones {words : List (BitVec 16)} {w : BitVec 16} (hw : w ∈ words) (hne : w ≠ 0) :
    onesSum words = 0xFFFF ↔ (words.map residue).sum = 0 := by
  have hresidue : residue (onesSum words) = (words.map residue).sum := by
    rw [onesSum, residue_foldl_onesAdd, residue_eq_zero.2 (.inl rfl), zero_add]
  have hnonzero : onesSum words ≠ 0 := fun h => hne ((foldl_onesAdd_eq_zero h).2 w hw)
  rw [← hresidue, residue_eq_zero, or_iff_right hnonzero]

/-- R45: the incremental update takes the old words out of a checksum and the new ones into it. -/
theorem residue_checksumUpdate (old : BitVec 16) (changed : List (BitVec 16 × BitVec 16)) :
    residue (checksumUpdate old changed) = residue old + (changed.map fun w => residue w.1 - residue w.2).sum := by
  have hfold (x : BitVec 16) : residue (changed.foldl (fun acc w => onesAdd (onesAdd acc (~~~ w.1)) w.2) x)
      = residue x - (changed.map fun w => residue w.1 - residue w.2).sum := by
    induction changed generalizing x with
    | nil => simp
    | cons w changed ih =>
      rw [List.foldl_cons, ih, residue_onesAdd, residue_onesAdd, residue_not, List.map_cons, List.sum_cons]
      ring
  rw [checksumUpdate, residue_not, hfold, residue_not]
  ring

/-! ## Bytes modulo 65,535 (R7) -/

/-- The words of a run of bytes, summed modulo 65,535. -/
def bytesResidue (bs : Bytes) : ZMod 65535 := ((wordsOf bs).map residue).sum

theorem bytesResidue_append (h : Even front.length) (bs : Bytes) :
    bytesResidue (front ++ bs) = bytesResidue front + bytesResidue bs := by
  induction front using wordsOf.induct with
  | case1 => simp [bytesResidue, wordsOf]
  | case2 a => exact absurd h (by simp)
  | case3 a b front ih =>
    have hrest := ih (by simpa [Nat.even_add_one] using h)
    simp only [bytesResidue, List.cons_append, wordsOf, List.map_cons, List.sum_cons] at hrest ⊢
    rw [hrest, add_assoc]

theorem bytesResidue_pair (a b : Byte) : bytesResidue [a, b] = residue (a ++ b) := by
  simp [bytesResidue, wordsOf]

theorem bytesResidue_be16 (x : BitVec 16) : bytesResidue (be16 x) = residue x := by
  rw [be16, bytesResidue_pair, halves16]

theorem bytesResidue_be32 (x : BitVec 32) :
    bytesResidue (be32 x) = residue (x.extractLsb' 16 16) + residue (x.extractLsb' 0 16) := by
  rw [be32, bytesResidue_append ⟨1, rfl⟩, bytesResidue_be16, bytesResidue_be16]

theorem append_ne_zero {a b : Byte} (h : a ≠ 0 ∨ b ≠ 0) : (a ++ b : BitVec 16) ≠ 0 := by
  intro hab
  have hbytes : [a, b] = [0, 0] := (be16_append a b).symm.trans (congrArg be16 hab)
  simp only [List.cons.injEq, and_true] at hbytes
  exact h.elim (· hbytes.1) (· hbytes.2)

theorem exists_wordsOf_ne_zero {b : Byte} (hb : b ∈ bs) (hne : b ≠ 0) : ∃ w ∈ wordsOf bs, w ≠ 0 := by
  induction bs using wordsOf.induct with
  | case1 => cases hb
  | case2 a =>
    obtain rfl := List.mem_singleton.1 hb
    exact ⟨_, List.mem_cons_self, append_ne_zero (.inl hne)⟩
  | case3 a c bs ih =>
    rcases List.mem_cons.1 hb with rfl | hb
    · exact ⟨_, List.mem_cons_self, append_ne_zero (.inl hne)⟩
    · rcases List.mem_cons.1 hb with rfl | hb
      · exact ⟨_, List.mem_cons_self, append_ne_zero (.inr hne)⟩
      · obtain ⟨w, hw, hwne⟩ := ih hb
        exact ⟨w, List.mem_cons_of_mem _ hw, hwne⟩

/-- R7: the test of a checksum over bytes that are not all 0. -/
theorem onesSum_wordsOf_eq_ones {b : Byte} (hb : b ∈ bs) (hne : b ≠ 0) :
    onesSum (wordsOf bs) = 0xFFFF ↔ bytesResidue bs = 0 := by
  obtain ⟨w, hw, hwne⟩ := exists_wordsOf_ne_zero hb hne
  exact onesSum_eq_ones hw hwne

/-- R45: a field replaced. -/
theorem bytesResidue_patch {i : Nat} (hi : Even i) (h : i + 2 ≤ bs.length) (x : BitVec 16) :
    bytesResidue (patch bs i (be16 x)) = bytesResidue bs - residue (word16 bs i) + residue x := by
  have hlen : (bs.take i).length = i := List.length_take_of_le (by omega)
  have heven : Even (bs.take i).length := by rwa [hlen]
  have hsplit : bytesResidue bs
      = bytesResidue (bs.take i) + (residue (word16 bs i) + bytesResidue (bs.drop (i + 2))) := by
    conv_lhs => rw [← List.take_append_drop i bs, drop_eq_word16 h]
    rw [bytesResidue_append heven, bytesResidue_append ⟨1, rfl⟩, bytesResidue_be16]
  rw [patch, length_be16, List.append_assoc, bytesResidue_append heven, bytesResidue_append ⟨1, rfl⟩,
    bytesResidue_be16, hsplit]
  ring

theorem bytesResidue_frameOf {front : Bytes} (h : Even front.length) (ttl protocol : Byte) (c : BitVec 16)
    (a d : NetAddr) (rest : Bytes) : bytesResidue (frameOf front ttl protocol c a d rest) = bytesResidue front
      + (residue (ttl ++ protocol) + (residue c + (bytesResidue (be32 a) + (bytesResidue (be32 d) + bytesResidue rest)))) := by
  rw [frameOf, bytesResidue_append h, bytesResidue_append ⟨1, rfl⟩, bytesResidue_append ⟨1, rfl⟩,
    bytesResidue_append ⟨2, rfl⟩, bytesResidue_append ⟨2, rfl⟩, bytesResidue_pair, bytesResidue_be16]

/-- R45: what the words of the rewritten addresses take out of a checksum and into it. -/
theorem rewrittenWords_residue (ip : Ipv4) (source destination : Option NetAddr) :
    ((rewrittenWords ip source destination).map fun w => residue w.1 - residue w.2).sum
      = (bytesResidue (be32 ip.source) - bytesResidue (be32 (source.getD ip.source)))
        + (bytesResidue (be32 ip.destination) - bytesResidue (be32 (destination.getD ip.destination))) := by
  have hwords (old new : NetAddr) : ((addressWords old new).map fun w => residue w.1 - residue w.2).sum
      = bytesResidue (be32 old) - bytesResidue (be32 new) := by
    simp only [addressWords, List.map_cons, List.map_nil, List.sum_cons, List.sum_nil, bytesResidue_be32]
    ring
  unfold rewrittenWords
  cases source <;> cases destination <;>
    simp only [List.map_append, List.sum_append, List.map_nil, List.sum_nil, hwords, Option.getD_none, Option.getD_some,
      sub_self, zero_add, add_zero]
  ring

/-! ## The header of a rewritten frame (R41, R45) -/

section
variable (hip : parseIpv4 bs = some ip)
include hip

theorem byteAt_rewriteBytes_front (source destination : Option NetAddr) {i : Nat} (h : i < 22) :
    byteAt (rewriteBytes bs ip source destination) i = byteAt bs i := by
  have hlengths := parseIpv4_lengths hip
  have hfront : (bs.take 22).length = 22 := List.length_take_of_le (by omega)
  rw [rewriteBytes_eq_frameOf hip, byteAt_frameOf_front hfront h]
  conv_rhs => rw [eq_frameOf_of_parseIpv4 hip, byteAt_frameOf_front hfront h]

/-- R42: the fields of a rewritten frame. -/
theorem ipv4Fields_rewriteBytes (source destination : Option NetAddr) {ip' : Ipv4}
    (hip' : ipv4Fields (rewriteBytes bs ip source destination) = ip') :
    ip'.headerLength = ip.headerLength ∧ ip'.totalLength = ip.totalLength ∧ ip'.protocol = ip.protocol
      ∧ ip'.fragmentOffset = ip.fragmentOffset ∧ ip'.source = source.getD ip.source
      ∧ ip'.destination = destination.getD ip.destination := by
  have hlengths := parseIpv4_lengths hip
  have hfront : (bs.take 22).length = 22 := List.length_take_of_le (by omega)
  have hbyte {i : Nat} (h : i < 22) := byteAt_rewriteBytes_front hip source destination h
  have hword {i : Nat} (h : i < 21) : word16 (rewriteBytes bs ip source destination) i = word16 bs i := by
    rw [word16, word16, hbyte (by omega), hbyte (by omega)]
  obtain ⟨-, hfields⟩ := parseIpv4_eq_some.1 hip
  subst hip'
  refine ⟨?_, ?_, ?_, ?_, ?_, ?_⟩
  · exact (congrArg (fun b : Byte => 4 * (b.toNat % 16)) (hbyte (i := 14) (by omega))).trans
      (congrArg Ipv4.headerLength hfields)
  · exact (congrArg BitVec.toNat (hword (i := 16) (by omega))).trans (congrArg Ipv4.totalLength hfields)
  · exact (congrArg (byteAt · 23) (rewriteBytes_eq_frameOf hip ..)).trans (byteAt_frameOf_protocol hfront)
  · exact (congrArg (fun w : BitVec 16 => w.toNat % 8192) (hword (i := 20) (by omega))).trans
      (congrArg Ipv4.fragmentOffset hfields)
  · exact (congrArg (word32 · 26) (rewriteBytes_eq_frameOf hip ..)).trans (word32_frameOf_source hfront)
  · exact (congrArg (word32 · 30) (rewriteBytes_eq_frameOf hip ..)).trans (word32_frameOf_destination hfront)

/-- R46: the bytes after the addresses keep their number, and the options stay. -/
theorem rewrittenRest_keeps (source destination : Option NetAddr) :
    (rewrittenRest ip source destination (bs.drop 34)).length = (bs.drop 34).length
      ∧ (rewrittenRest ip source destination (bs.drop 34)).take (ip.headerLength - 20)
        = (bs.drop 34).take (ip.headerLength - 20) := by
  obtain ⟨hheader, htotal, hlength⟩ := parseIpv4_lengths hip
  unfold rewrittenRest
  split
  · next c hc =>
    obtain ⟨-, rfl⟩ := parseIpv4_eq_some.1 hip
    have hinside := transportChecksum_inside hc
    have hdrop : (bs.drop 34).length = bs.length - 34 := List.length_drop
    split
    · exact ⟨length_patch (by rw [length_be16]; omega), take_patch (by omega) (by omega)⟩
    · exact ⟨rfl, rfl⟩
  · exact ⟨rfl, rfl⟩

theorem length_rewriteBytes (source destination : Option NetAddr) :
    (rewriteBytes bs ip source destination).length = bs.length := by
  have hlengths := parseIpv4_lengths hip
  rw [rewriteBytes_eq_frameOf hip, length_frameOf, (rewrittenRest_keeps hip source destination).1, List.length_take,
    List.length_drop]
  omega

/-- R41, R45: the rewrite keeps the header's sum: the TTL lowered and the addresses rewritten are made up for in its
checksum. -/
theorem header_rewriteBytes_residue (source destination : Option NetAddr) :
    bytesResidue (((rewriteBytes bs ip source destination).drop 14).take ip.headerLength)
      = bytesResidue ((bs.drop 14).take ip.headerLength) := by
  obtain ⟨hheader, htotal, hlength⟩ := parseIpv4_lengths hip
  have hfront : (bs.take 22).length = 22 := List.length_take_of_le (by omega)
  have heven : Even ((bs.take 22).drop 14).length := ⟨4, by rw [List.length_drop, hfront]⟩
  rw [rewriteBytes_eq_frameOf hip, header_frameOf hfront hheader, (rewrittenRest_keeps hip source destination).2,
    bytesResidue_frameOf heven, headerChecksumAfter, residue_checksumUpdate, List.map_cons, List.sum_cons,
    rewrittenWords_residue]
  conv_rhs => rw [eq_frameOf_of_parseIpv4 hip, header_frameOf hfront hheader, bytesResidue_frameOf heven]
  ring

/-- R45: a header that passed the tests of R7 passes them after the rewrite. -/
theorem headerGood_rewriteBytes (source destination : Option NetAddr) :
    headerGood (rewriteBytes bs ip source destination) = true := by
  obtain ⟨hheader', htotal', -⟩ := ipv4Fields_rewriteBytes hip source destination rfl
  obtain ⟨hgood, hfields⟩ := parseIpv4_eq_some.1 hip
  obtain ⟨hversion, hmin, hheader, htotal, hsum⟩ := (headerGood_iff bs).1 hgood
  have hbyte := byteAt_rewriteBytes_front hip source destination (i := 14) (by omega)
  rw [hfields] at hmin hheader htotal hsum
  -- the version makes the first byte of both headers other than 0
  have hfirst {x : Bytes} (hx : byteAt x 14 = byteAt bs 14) (hlen : x.length = bs.length) :
      byteAt bs 14 ∈ (x.drop 14).take ip.headerLength := by
    obtain ⟨n, hn⟩ := Nat.exists_eq_add_of_le' (show 1 ≤ ip.headerLength by omega)
    rw [drop_eq_byteAt (by omega), hx, hn]
    exact List.mem_cons_self
  have hne : byteAt bs 14 ≠ 0 := by
    intro h
    rw [h] at hversion
    exact absurd hversion (by decide)
  have hlen := length_rewriteBytes hip source destination
  rw [headerGood_iff, hheader', htotal', hbyte, hlen]
  refine ⟨hversion, hmin, hheader, htotal, ?_⟩
  rw [onesSum_wordsOf_eq_ones (hfirst hbyte hlen) hne, header_rewriteBytes_residue hip]
  exact (onesSum_wordsOf_eq_ones (hfirst rfl rfl) hne).1 hsum

/-! ## The UDP datagram of a rewritten frame (R46) -/

/-- R7: a UDP checksum is the fourth word of its datagram. -/
theorem udpChecksum_eq_some {c : BitVec 16} (hp : ip.protocol = 17) : ip.transportChecksum = some c
    ↔ ip.fragmentOffset = 0 ∧ ip.headerLength + 8 ≤ ip.totalLength ∧ word16 bs (ip.transportAt + 6) = c := by
  obtain ⟨-, rfl⟩ := parseIpv4_eq_some.1 hip
  simp [transportChecksum_eq_some, hp]

end

/-- R46: the UDP checksum of a rewritten datagram, an address rewritten or not. -/
theorem transportChecksumAfter_udp (hp : ip.protocol = 17) {c : BitVec 16} (source destination : Option NetAddr) :
    (c = 0 → transportChecksumAfter ip c source destination = 0)
      ∧ (c ≠ 0 → transportChecksumAfter ip c source destination ≠ 0
        ∧ residue (transportChecksumAfter ip c source destination)
          = residue (checksumUpdate c (rewrittenWords ip source destination))) := by
  unfold transportChecksumAfter
  dsimp only
  rw [if_pos hp]
  refine ⟨fun hc => if_pos hc, fun hc => ?_⟩
  rw [if_neg hc]
  split
  · next hzero => exact ⟨by decide, by rw [hzero, residue_eq_zero.2 (.inl rfl), residue_eq_zero.2 (.inr rfl)]⟩
  · next hnonzero => exact ⟨hnonzero, rfl⟩

/-- R46: with no address rewritten the UDP checksum stays. -/
theorem transportChecksumAfter_none_none (hp : ip.protocol = 17) (c : BitVec 16) :
    transportChecksumAfter ip c none none = c := by
  have hupdate : checksumUpdate c (rewrittenWords ip none none) = c := BitVec.not_not
  unfold transportChecksumAfter
  dsimp only
  rw [hupdate, if_pos hp]
  split
  · next hc => exact hc.symm
  · rfl

theorem word16_take_drop {n m i : Nat} (h : i + 2 ≤ m) : word16 ((bs.drop n).take m) i = word16 bs (n + i) := by
  have hbyte {k : Nat} (hk : k < m) : byteAt ((bs.drop n).take m) k = byteAt bs (n + k) := by
    simp [byteAt, List.getElem?_take_of_lt hk]
  rw [word16, word16, hbyte (by omega), hbyte (by omega), Nat.add_assoc]

theorem word16_patch {i : Nat} (h : i ≤ bs.length) (x : BitVec 16) : word16 (patch bs i (be16 x)) i = x := by
  rw [patch, List.append_assoc]
  exact (word16_append (List.length_take_of_le h) _ 0).trans (word16_be16 x _)

/-- R7: the test of a UDP checksum, as a sum modulo 65,535: the pseudo-header's protocol is not 0. -/
theorem udpChecksumCorrect_iff (a d : NetAddr) (datagram : Bytes) : udpChecksumCorrect a d datagram = true
    ↔ bytesResidue (be32 a) + (bytesResidue (be32 d)
      + (bytesResidue ([0, 17] ++ num16 datagram.length) + bytesResidue datagram)) = 0 := by
  have hwords : udpWords a d datagram
      = wordsOf (be32 a ++ (be32 d ++ (([0, 17] ++ num16 datagram.length) ++ datagram))) := by
    simp only [udpWords, List.append_assoc]
  have hprotocol : (17 : Byte) ∈ be32 a ++ (be32 d ++ (([0, 17] ++ num16 datagram.length) ++ datagram)) := by
    simp only [List.mem_append, List.mem_cons, true_or, or_true]
  rw [udpChecksumCorrect, beq_iff_eq, hwords, onesSum_wordsOf_eq_ones hprotocol (by decide),
    bytesResidue_append ⟨2, rfl⟩, bytesResidue_append ⟨2, rfl⟩, bytesResidue_append ⟨2, rfl⟩]

/-- R46: a datagram with its checksum and the addresses of its pseudo-header rewritten. -/
theorem udpChecksumCorrect_rewritten (hp : ip.protocol = 17) {c : BitVec 16} (hc : c ≠ 0)
    (hlen : 8 ≤ datagram.length) (hword : word16 datagram 6 = c)
    (hcorrect : udpChecksumCorrect ip.source ip.destination datagram = true) :
    udpChecksumCorrect (source.getD ip.source) (destination.getD ip.destination)
      (patch datagram 6 (be16 (transportChecksumAfter ip c source destination))) = true := by
  have hinside : 6 + (be16 (transportChecksumAfter ip c source destination)).length ≤ datagram.length := hlen
  obtain ⟨-, hafter⟩ := (transportChecksumAfter_udp hp source destination).2 hc
  rw [udpChecksumCorrect_iff] at hcorrect ⊢
  rw [length_patch hinside, bytesResidue_patch ⟨3, rfl⟩ hlen, hword, hafter, residue_checksumUpdate,
    rewrittenWords_residue]
  linear_combination hcorrect

section
variable (hip : parseIpv4 bs = some ip) (hp : ip.protocol = 17) {c : BitVec 16} (hc : ip.transportChecksum = some c)
include hip hp hc

/-- R7: a datagram with a UDP checksum holds its UDP header. -/
theorem udpBytes_checksum : 8 ≤ (udpBytes bs ip).length ∧ word16 (udpBytes bs ip) 6 = c := by
  obtain ⟨hheader, htotal, hlength⟩ := parseIpv4_lengths hip
  obtain ⟨-, hinside, hword⟩ := (udpChecksum_eq_some hip hp).1 hc
  refine ⟨?_, (word16_take_drop (by omega)).trans hword⟩
  rw [udpBytes, List.length_take, List.length_drop, Ipv4.transportAt]
  omega

theorem rewrittenRest_udp (source destination : Option NetAddr) :
    rewrittenRest ip source destination (bs.drop 34) = patch (bs.drop 34) (ip.headerLength - 20 + 6)
      (be16 (transportChecksumAfter ip c source destination)) := by
  obtain ⟨hheader, htotal, hlength⟩ := parseIpv4_lengths hip
  obtain ⟨-, hinside, hword⟩ := (udpChecksum_eq_some hip hp).1 hc
  unfold rewrittenRest transportChecksumOffset
  rw [hc, if_pos hp]
  dsimp only
  split
  · rfl
  · next hnone =>
    obtain ⟨rfl, rfl⟩ : source = none ∧ destination = none := by simpa using hnone
    have hfield : word16 (bs.drop 34) (ip.headerLength - 20 + 6) = c := by
      rw [← hword, ← List.take_length (l := bs.drop 34), word16_take_drop (by rw [List.length_drop]; omega),
        Ipv4.transportAt]
      congr 1
      omega
    rw [transportChecksumAfter_none_none hp, ← hfield, patch_word16 (by rw [List.length_drop]; omega)]

/-- R46: the datagram of a rewritten frame has its checksum adjusted and nothing else changed. -/
theorem udpBytes_rewriteBytes (source destination : Option NetAddr) {ip' : Ipv4}
    (hip' : ipv4Fields (rewriteBytes bs ip source destination) = ip') :
    udpBytes (rewriteBytes bs ip source destination) ip'
      = patch (udpBytes bs ip) 6 (be16 (transportChecksumAfter ip c source destination)) := by
  obtain ⟨hheader', htotal', -⟩ := ipv4Fields_rewriteBytes hip source destination hip'
  obtain ⟨hheader, htotal, hlength⟩ := parseIpv4_lengths hip
  obtain ⟨-, hinside, -⟩ := (udpChecksum_eq_some hip hp).1 hc
  have hfront : (bs.take 22).length = 22 := List.length_take_of_le (by omega)
  have hat : 14 + ip.headerLength = 34 + (ip.headerLength - 20) := by omega
  unfold udpBytes Ipv4.transportAt
  rw [hheader', htotal', rewriteBytes_eq_frameOf hip, hat, drop_frameOf hfront, rewrittenRest_udp hip hp hc,
    take_drop_patch (by rw [length_be16]; omega) (by rw [List.length_drop]; omega), List.drop_drop]

end

/-! ## The obligation -/

/-- Settles O27: the header's sum and the UDP datagram's are the same after the rewrite, modulo 65,535. -/
theorem rewriteKeepsTheChecksumsGood : Obligations.RewriteKeepsTheChecksumsGood := by
  intro bs ip source destination hip _
  obtain ⟨ip', hfields⟩ : ∃ ip', ipv4Fields (rewriteBytes bs ip source destination) = ip' := ⟨_, rfl⟩
  obtain ⟨hheader, htotal, hprotocol, hfragment, hsource, hdestination⟩ :=
    ipv4Fields_rewriteBytes hip source destination hfields
  have hip' := parseIpv4_eq_some.2 ⟨headerGood_rewriteBytes hip source destination, hfields⟩
  refine ⟨ip', hip', length_rewriteBytes hip source destination, hheader, htotal, hprotocol, hsource, hdestination,
    fun c hp hc => ?_⟩
  obtain ⟨hfirst, hinside, -⟩ := (udpChecksum_eq_some hip hp).1 hc
  obtain ⟨hlen, hword⟩ := udpBytes_checksum hip hp hc
  have hdatagram := udpBytes_rewriteBytes hip hp hc source destination hfields
  obtain ⟨hzero, hnonzero⟩ := transportChecksumAfter_udp hp (c := c) source destination
  refine ⟨transportChecksumAfter ip c source destination, (udpChecksum_eq_some hip' (hprotocol.trans hp)).2
    ⟨hfragment.trans hfirst, by omega, ?field⟩, hzero, fun hne hcorrect => ⟨(hnonzero hne).1, ?correct⟩⟩
  case field =>
    have hread := word16_patch (bs := udpBytes bs ip) (i := 6) (by omega)
      (transportChecksumAfter ip c source destination)
    rw [← hdatagram] at hread
    exact (word16_take_drop (by omega)).symm.trans hread
  case correct =>
    rw [hdatagram, hsource, hdestination]
    exact udpChecksumCorrect_rewritten hp hne hlen hword hcorrect

end Sys2Proof.Machine

/-! SUPPORT. What every step keeps of the meters and the counters, said as one relation between two states: the meter law
(R59), and the counts of counters that are frozen (R171, R174). Here the operations that every block shares. -/

namespace Sys2Proof.Machine

/- The proofs below run one after another: run together, their waiting threads outgrow the memory a check may use. -/
set_option Elab.async false

variable {s t u : State}

/-! ## The relation -/

/-- Every counter's value and overflow flag (R171, R173). -/
def CounterUnit.tally (c : CounterUnit) : Vector (BitVec 32 × Bool) 8 := c.counters.map fun x => (x.value, x.overflow)

/-- R171, R174: counters that are frozen stay frozen, with their values and overflow flags. -/
def KeepsFreeze (s t : State) : Prop :=
  s.counters.frozen = true → t.counters.frozen = true ∧ t.counters.tally = s.counters.tally

/-- What a step keeps of the meters and of frozen counters. -/
structure Keeps (s t : State) : Prop where
  law : MeterLaw s → MeterLaw t
  freeze : KeepsFreeze s t

/-- What the relation speaks of: the share meters with the profile in use, the guest unit and the counters. -/
structure Gauges where
  meters : Meters
  profile : DayNight
  guest : GuestUnit
  counters : CounterUnit

/-- The gauges of a state. -/
def State.gauges (s : State) : Gauges where
  meters := s.meters
  profile := s.levels.profile.value
  guest := s.guest
  counters := s.counters

theorem KeepsFreeze.of_counters (h : t.counters = s.counters) : KeepsFreeze s t := by
  intro hfrozen
  rw [h]
  exact ⟨hfrozen, rfl⟩

theorem KeepsFreeze.trans (h : KeepsFreeze s t) (h' : KeepsFreeze t u) : KeepsFreeze s u := fun hfrozen =>
  let ⟨hf, ht⟩ := h hfrozen
  let ⟨hf', ht'⟩ := h' hf
  ⟨hf', ht'.trans ht⟩

/-- R59: the meter law speaks of the meters, the profile in use and the guest unit alone. -/
theorem MeterLaw.of_parts (h : MeterLaw s) (hm : t.meters = s.meters)
    (hp : t.levels.profile.value = s.levels.profile.value) (hg : t.guest = s.guest) : MeterLaw t := by
  simpa only [MeterLaw, State.profileInUse, hm, hp, hg] using h

theorem MeterLaw.of_quiet (h : MeterLaw s) (e : t.quiet = s.quiet) : MeterLaw t :=
  h.of_parts (quiet_meters e) (by rw [quiet_levels e]) (quiet_guest e)

theorem Keeps.refl (s : State) : Keeps s s := ⟨id, .of_counters rfl⟩

theorem Keeps.trans (h : Keeps s t) (h' : Keeps t u) : Keeps s u := ⟨h'.law ∘ h.law, h.freeze.trans h'.freeze⟩

theorem Keeps.of_gauges (h : t.gauges = s.gauges) : Keeps s t where
  law hl := hl.of_parts (congrArg Gauges.meters h) (congrArg Gauges.profile h) (congrArg Gauges.guest h)
  freeze := .of_counters (congrArg Gauges.counters h)

/-- The relation goes on through what leaves the gauges as they were. -/
theorem Keeps.keep (h : Keeps s t) (e : u.gauges = t.gauges := by unfold State.gauges; rfl) : Keeps s u :=
  h.trans (.of_gauges e)

/-- The relation goes on through another guest table whose levels are within the depth (R59). -/
theorem Keeps.table (h : Keeps s t) {table : List GuestEntry}
    (ht : (∀ e ∈ t.guest.table, e.level ≤ t.guest.settings.depth) → ∀ e ∈ table, e.level ≤ t.guest.settings.depth) :
    Keeps s (t.withTable table) :=
  h.trans ⟨fun hl => ⟨hl.1, ht hl.2⟩, .of_counters rfl⟩

/-- A fold of operations that keep. -/
theorem foldl_keeps {α : Type} {f : State → α → State} (hf : ∀ s a, Keeps s (f s a)) (l : List α) (h : Keeps s t) :
    Keeps s (l.foldl f t) := by
  induction l generalizing t with
  | nil => exact h
  | cons a l ih => exact ih (h.trans (hf t a))

/-! ## Events, queues and alerts -/

/-- R171: frozen counters accept no event. -/
theorem countEvent_of_frozen (o : Occurrence) (h : s.counters.frozen = true) : countEvent o s = s := by
  have hone (i : Fin 8) : countOne o s i = s := if_neg (by simp [CounterUnit.accepts, h])
  unfold countEvent
  generalize List.finRange 8 = l
  induction l with
  | nil => rfl
  | cons i l ih => rw [List.foldl_cons, hone, ih]

theorem countEvent_keeps (o : Occurrence) (s : State) : Keeps s (countEvent o s) where
  law h := h.of_quiet (quiet_of_still (countEvent_still o s))
  freeze h := by rw [countEvent_of_frozen o h]; exact ⟨h, rfl⟩

section
variable {offer : Occurrence → State → State} (ho : ∀ o s, Keeps s (offer o s))
include ho

theorem presentEgressWith_keeps (p : EgressPort) (f : Frame) (s : State) : Keeps s (presentEgressWith offer p f s) := by
  unfold presentEgressWith
  split
  · exact ho _ _
  · split
    · exact ho _ _
    · split
      · exact (Keeps.refl s).keep
      · exact ho _ _

theorem departWith_keeps (s : State) : Keeps s (departWith offer s) := by
  unfold departWith
  split
  · split
    · exact .refl s
    · split
      · exact .refl s
      · next q _ _ f rest _ =>
        have htaken : Keeps s (offer (occur (.departure q) f.origin) (s.takeOff q f rest)) :=
          (Keeps.refl s).keep.trans (ho _ _)
        dsimp only
        split
        · exact htaken.trans (ho _ _)
        · exact htaken
  · exact .refl s

theorem presentUplinkWith_keeps (q : UplinkQueue) (f : Frame) (s : State) :
    Keeps s (presentUplinkWith offer q f s) := by
  unfold presentUplinkWith
  split
  · exact ho _ _
  · split
    · exact (Keeps.refl s).keep.trans (departWith_keeps ho _)
    · exact ho _ _

theorem presentOnWith_keeps (port : Segment) (f : Frame) (s : State) : Keeps s (presentOnWith offer port f s) := by
  cases port
  case uplink => exact presentUplinkWith_keeps ho .urgent f s
  all_goals exact presentEgressWith_keeps ho _ f s

end

/-- R174: a send event freezes counters, and thaws none. -/
theorem alertTest_keeps (s : State) : Keeps s (alertTest s) where
  law h := h.of_quiet (quiet_of_still (alertTest_still s))
  freeze := by
    unfold alertTest
    split
    · exact .of_counters rfl
    · split
      · refine KeepsFreeze.trans (fun hfrozen => ?_) (presentOnWith_keeps countEvent_keeps _ _ _).freeze
        dsimp only
        split
        · exact ⟨by rw [CounterUnit.counterAlert, hfrozen]; rfl, rfl⟩
        · exact ⟨hfrozen, rfl⟩
      · exact .of_counters rfl

theorem offer_keeps (h : Keeps s t) (o : Occurrence) : Keeps s (offer o t) :=
  (h.trans (countEvent_keeps o t)).trans (alertTest_keeps _)

theorem offer_keeps_self (o : Occurrence) (s : State) : Keeps s (offer o s) := offer_keeps (.refl s) o

theorem drop_keeps (h : Keeps s t) (r : DropReason) (o : Origin) : Keeps s (drop r o t) := offer_keeps h _

theorem raise_keeps (h : Keeps s t) (x : AlertSource) : Keeps s (raise x t) := h.keep.trans (alertTest_keeps _)

theorem presentEgress_keeps (h : Keeps s t) (p : EgressPort) (f : Frame) : Keeps s (presentEgress p f t) :=
  h.trans (presentEgressWith_keeps offer_keeps_self p f t)

theorem presentUplink_keeps (h : Keeps s t) (q : UplinkQueue) (f : Frame) : Keeps s (presentUplink q f t) :=
  h.trans (presentUplinkWith_keeps offer_keeps_self q f t)

theorem presentOn_keeps (h : Keeps s t) (port : Segment) (f : Frame) : Keeps s (presentOn port f t) :=
  h.trans (presentOnWith_keeps offer_keeps_self port f t)

theorem depart_keeps (h : Keeps s t) : Keeps s (depart t) := h.trans (departWith_keeps offer_keeps_self t)

/-! ## Comparisons and datagrams -/

theorem comparePair_keeps (h : Keeps s t) (i : PairId) : Keeps s (comparePair i t) := by
  have hcompared : Keeps s { t with thresholds := t.thresholds.set i ((t.thresholds.get i).compared (t.watched i)) } :=
    h.keep
  unfold comparePair
  dsimp only
  split
  · refine raise_keeps ?_ _
    split
    · exact raise_keeps hcompared _
    · exact hcompared
  · split
    · exact raise_keeps hcompared _
    · exact hcompared

theorem compareChanged_keeps (h : Keeps s t) (i : PairId) (before : Nat) : Keeps s (compareChanged i before t) := by
  unfold compareChanged
  split
  · exact h
  · exact comparePair_keeps h i

theorem originate_keeps (h : Keeps s t) (d : Datagram) {present : Frame → State → State}
    (hp : ∀ f s, Keeps s (present f s)) : Keeps s (originate d present t) := by
  unfold originate
  split
  · exact offer_keeps h _
  · exact h.keep.trans (hp _ _)

theorem originateEgress_keeps (h : Keeps s t) (d : Datagram) (p : EgressPort) :
    Keeps s (originate d (presentEgress p) t) := originate_keeps h d fun f s => presentEgress_keeps (.refl s) p f

theorem originateUplink_keeps (h : Keeps s t) (d : Datagram) (q : UplinkQueue) :
    Keeps s (originate d (presentUplink q) t) := originate_keeps h d fun f s => presentUplink_keeps (.refl s) q f

/-! ## Meters (R58 to R64, R75 to R77) -/

/-- R59: a level within the depth of the profile that a level setting puts in use. -/
def ShareMeter.within (m : ShareMeter) (v : DayNight) : Prop := m.level ≤ (m.profile v).depth

theorem Meters.get_set (v : Meters) (i j : Meter) (m : ShareMeter) :
    (v.set i m).get j = if j = i then m else v.get j := by
  cases i <;> cases j <;> rfl

/-- R59: the meter law says of each share meter that it is within its depth, and the like of each guest. -/
theorem meterLaw_iff : MeterLaw s ↔ (∀ i, (s.meters.get i).within s.levels.profile.value)
    ∧ ∀ e ∈ s.guest.table, e.level ≤ s.guest.settings.depth := Iff.rfl

theorem setMeter_freeze (s : State) (i : Meter) (m : ShareMeter) : KeepsFreeze s (s.setMeter i m) :=
  KeepsFreeze.trans (t := { s with meters := s.meters.set i m }) (.of_counters rfl)
    (compareChanged_keeps (.refl _) _ _).freeze

/-- R59: a meter may be replaced by one whose level is within its depth, or is where the level replaced was. -/
theorem setMeter_keeps (h : Keeps s t) (i : Meter) {m : ShareMeter}
    (hm : (t.meters.get i).within t.levels.profile.value → m.within t.levels.profile.value) :
    Keeps s (t.setMeter i m) := by
  refine h.trans ⟨fun hl => ?_, setMeter_freeze t i m⟩
  obtain ⟨hmeters, hguests⟩ := meterLaw_iff.1 hl
  refine MeterLaw.of_quiet (s := { t with meters := t.meters.set i m }) (meterLaw_iff.2 ⟨fun j => ?_, hguests⟩)
    (setMeter_quiet t i m)
  dsimp only
  rw [Meters.get_set]
  split
  · exact hm (hmeters i)
  · exact hmeters j

theorem refillLevel_le (rate depth level : Nat) (now last : Tick) : refillLevel rate depth level now last ≤ depth :=
  Nat.min_le_left _ _

theorem refill_within (m : ShareMeter) (v : DayNight) (now : Tick) : (m.refill (m.profile v) now).within v := by
  cases v <;> exact refillLevel_le _ _ _ _ _

/-- R59: a refilled meter with a level no higher is within its depth. -/
theorem refill_lowered_within {m : ShareMeter} {v : DayNight} {now : Tick} {level : Nat} {hold : List HeldFrame}
    (h : level ≤ (m.refill (m.profile v) now).level) :
    ({ m.refill (m.profile v) now with level := level, hold := hold } : ShareMeter).within v := by
  have hw := refill_within m v now
  cases v <;> exact h.trans hw

theorem holdOrDiscard_within {m : ShareMeter} {v : DayNight} (h : m.within v) (action : MeterAction) (x : HeldFrame) :
    (m.holdOrDiscard action x).within v := by
  unfold ShareMeter.holdOrDiscard
  split
  · cases v <;> exact h
  · exact h

theorem guest_refill_le (e : GuestEntry) (g : GuestSettings) (now : Tick) : (e.refill g now).level ≤ g.depth :=
  refillLevel_le _ _ _ _ _

/-- A station's entry replaced by one within the depth leaves every entry within it. -/
theorem updateGuest_le {table : List GuestEntry} {a : Station} {f : GuestEntry → GuestEntry} {depth : Nat}
    (hf : ∀ e, e.level ≤ depth → (f e).level ≤ depth) (h : ∀ e ∈ table, e.level ≤ depth) :
    ∀ e ∈ updateGuest table a f, e.level ≤ depth := by
  intro e he
  obtain ⟨x, hx, rfl⟩ := List.mem_map.1 he
  split
  · exact hf x (h x hx)
  · exact h x hx

theorem withGuest_keeps (h : Keeps s t) (a : Station) {f : GuestEntry → GuestEntry}
    (hf : ∀ e, e.level ≤ t.guest.settings.depth → (f e).level ≤ t.guest.settings.depth) : Keeps s (t.withGuest a f) :=
  h.table (updateGuest_le hf)

theorem presentMeter_keeps (h : Keeps s t) (i : Meter) (q : UplinkQueue) (f : Frame) :
    Keeps s (presentMeter i q f t) := by
  unfold presentMeter
  dsimp only
  split
  · exact presentUplink_keeps (setMeter_keeps h i fun _ => refill_lowered_within (Nat.sub_le _ _)) _ _
  · exact offer_keeps (setMeter_keeps h i fun _ => holdOrDiscard_within (refill_within _ _ _) _ _) _

theorem chargeStation_keeps (h : Keeps s t) (f : Frame) : Keeps s (chargeStation f t) := by
  unfold chargeStation
  split
  · exact h
  · exact withGuest_keeps h _ fun e _ => (Nat.sub_le _ _).trans (guest_refill_le e _ _)

theorem releaseOne_keeps (i : Meter) (s : State) (x : HeldFrame) : Keeps s (releaseOne i s x) := by
  refine presentUplink_keeps ?_ _ _
  split
  · exact chargeStation_keeps (.refl s) _
  · exact .refl s

theorem releaseMeter_keeps (h : Keeps s t) (i : Meter) : Keeps s (releaseMeter i t) := by
  unfold releaseMeter
  split
  · exact h
  · refine foldl_keeps (releaseOne_keeps i) _ (setMeter_keeps h i fun _ => refill_lowered_within ?_)
    obtain ⟨k, -, hsplit, -⟩ := releaseSplit_eq (t.refilledMeter i).level (t.refilledMeter i).hold
    exact (congrArg (fun r => r.2.2) hsplit).trans_le (Nat.sub_le _ _)

theorem jointTest_keeps (h : Keeps s t) (a : Station) (f : Frame) : Keeps s (jointTest a f t) := by
  have hrefilled : Keeps s (t.withGuest a fun e => e.refill t.guest.settings t.tick) :=
    withGuest_keeps h a fun e _ => guest_refill_le e _ _
  unfold jointTest
  dsimp only
  split
  · exact offer_keeps (setMeter_keeps h .guest fun _ => refill_within _ _ _) _
  · split
    · exact offer_keeps (setMeter_keeps hrefilled .guest fun _ => refill_within _ _ _) _
    · split
      · refine presentUplink_keeps (setMeter_keeps (withGuest_keeps h a fun e _ => ?_) .guest fun _ =>
          refill_lowered_within (Nat.sub_le _ _)) _ _
        exact (Nat.sub_le _ _).trans (guest_refill_le e _ _)
      · exact offer_keeps (setMeter_keeps hrefilled .guest fun _ => holdOrDiscard_within (refill_within _ _ _) _ _) _

theorem restartMeter_keeps (s : State) (i : Meter) : Keeps s (restartMeter s i) :=
  setMeter_keeps (.refl s) i fun _ => by
    unfold ShareMeter.within State.profileInUse
    cases s.levels.profile.value <;> exact Nat.le_refl _

/-! ## A change of profile (R63) -/

/-- R63: a share meter of a state after a change of the profile level setting. -/
def State.switchedMeter (s : State) (old new : DayNight) (i : Meter) : ShareMeter :=
  (s.meters.get i).changeProfile ((s.meters.get i).profile old) ((s.meters.get i).profile new) s.tick

/-- R63: the three meters after a change of the profile level setting. -/
def State.switchedMeters (s : State) (old new : DayNight) : Meters :=
  ⟨s.switchedMeter old new .guest, s.switchedMeter old new .office, s.switchedMeter old new .transfer⟩

theorem switchedMeters_get (s : State) (old new : DayNight) (i : Meter) :
    (s.switchedMeters old new).get i = s.switchedMeter old new i := by cases i <;> rfl

/-- R63: one meter switched beside others that are. -/
theorem switchMeter_quiet {m : Meters} {old new : DayNight} (h : t.quiet = ({ s with meters := m } : State).quiet)
    {i : Meter} (hi : m.get i = s.meters.get i) :
    (switchMeter old new t i).quiet = ({ s with meters := m.set i (s.switchedMeter old new i) } : State).quiet := by
  have hmeters : t.meters = m := (quiet_meters h).trans rfl
  have hmeter : t.switchedMeter old new i = s.switchedMeter old new i := by
    unfold State.switchedMeter
    rw [hmeters, hi, quiet_tick h]
  change (t.setMeter i (t.switchedMeter old new i)).quiet = _
  rw [setMeter_quiet, hmeter, hmeters]
  exact congrArg (fun x : State => { x with meters := m.set i (s.switchedMeter old new i) }) h

theorem switchProfile_quiet (old new : DayNight) (s : State) :
    (switchProfile old new s).quiet = ({ s with meters := s.switchedMeters old new } : State).quiet :=
  switchMeter_quiet (switchMeter_quiet (switchMeter_quiet (i := .guest) (m := s.meters) rfl rfl)
    (i := .office) rfl) (i := .transfer) rfl

theorem switchProfile_freeze (old new : DayNight) (s : State) : KeepsFreeze s (switchProfile old new s) :=
  ((setMeter_freeze s .guest _).trans (setMeter_freeze _ .office _)).trans (setMeter_freeze _ .transfer _)

/-- R63: a meter switched to a profile is within its depth. -/
theorem switchedMeter_within (s : State) (old new : DayNight) (i : Meter) :
    (s.switchedMeter old new i).within new := by
  cases new <;> exact Nat.min_le_right _ _

/-- R63: after the switch to the profile in use every meter is within its depth. -/
theorem switchProfile_law (old : DayNight) (h : ∀ e ∈ s.guest.table, e.level ≤ s.guest.settings.depth) :
    MeterLaw (switchProfile old s.levels.profile.value s) := by
  refine MeterLaw.of_quiet (s := { s with meters := s.switchedMeters old s.levels.profile.value })
    (meterLaw_iff.2 ⟨fun i => ?_, h⟩) (switchProfile_quiet _ _ s)
  dsimp only
  rw [switchedMeters_get]
  exact switchedMeter_within s old _ i

theorem setProfile_keeps (h : Keeps s t) (v : DayNight) (o : LevelOrigin) : Keeps s (setProfile v o t) := by
  unfold setProfile
  dsimp only
  split
  · next hsame => exact h.keep (by simp only [State.gauges, hsame])
  · refine h.trans ⟨fun hl => ?_, switchProfile_freeze _ v { t with levels := { t.levels with profile := ⟨v, o⟩ } }⟩
    exact switchProfile_law (s := { t with levels := { t.levels with profile := ⟨v, o⟩ } }) _ hl.2

end Sys2Proof.Machine

/-! SUPPORT. What every engine keeps of the meters and of frozen counters (R59, R171): forwarding, tracker, night engine,
label engine, schedule, messages, spool unit and receive path. -/

namespace Sys2Proof.Machine

/- The proofs below run one after another: run together, their waiting threads outgrow the memory a check may use. -/
set_option Elab.async false

variable {s t : State}

/-! ## Forwarding and the request tracker (R28 to R30, R87 to R95) -/

theorem deliverForwarded_keeps (h : Keeps s t) (p : Passage) (copy : LookupCopy) (f : Frame) :
    Keeps s (deliverForwarded p copy f t) := by
  unfold deliverForwarded
  split
  case h_5 =>
    split
    · exact jointTest_keeps h _ _
    · exact presentMeter_keeps h _ _ _
    · exact presentUplink_keeps h _ _
  all_goals exact presentEgress_keeps h _ _

theorem forwardFrame_keeps (h : Keeps s t) (p : Passage) (copy : LookupCopy) : Keeps s (forwardFrame p copy t) := by
  unfold forwardFrame
  dsimp only
  split
  · exact drop_keeps h _ _
  · split
    · exact drop_keeps h _ _
    · exact deliverForwarded_keeps h _ _ _

theorem sendTracked_keeps (h : Keeps s t) (p : Passage) (copy : LookupCopy) : Keeps s (sendTracked p copy t) := by
  unfold sendTracked
  dsimp only
  split
  · exact drop_keeps h _ _
  · exact presentUplink_keeps h _ _

theorem trackNew_keeps (h : Keeps s t) (p : Passage) (copy : LookupCopy) (n : Fin 32) (tag : BitVec 32) :
    Keeps s (trackNew p copy n tag t) := by
  unfold trackNew
  dsimp only
  split
  · exact offer_keeps h _
  · split
    · exact sendTracked_keeps (offer_keeps h _) _ _
    · exact sendTracked_keeps (offer_keeps h.keep _) _ _

theorem trackKeyed_keeps (h : Keeps s t) (p : Passage) (copy : LookupCopy) (n : Fin 32) :
    Keeps s (trackKeyed p copy n t) := by
  unfold trackKeyed
  dsimp only
  split
  · split
    · exact sendTracked_keeps h.keep _ _
    · exact trackNew_keeps h _ _ _ _
  · exact trackNew_keeps h _ _ _ _

/-- R87: each test of a Track frame drops it, and the last lets it through. -/
theorem trackFrame_keeps (h : Keeps s t) (p : Passage) (copy : LookupCopy) : Keeps s (trackFrame p copy t) := by
  have hdrop (r : DropReason) : Keeps s (drop r (copyOrigin p.port (sourceStation p.bytes) copy) t) := drop_keeps h r _
  unfold trackFrame
  dsimp only
  repeat' split
  case h_2.isFalse.isFalse => exact trackKeyed_keeps h _ _ _
  all_goals exact hdrop _

theorem replyFrame_keeps (h : Keeps s t) (p : Passage) (i : Fin 64) (r : OpenRequest) :
    Keeps s (replyFrame p i r t) := by
  have hfreed (o : Occurrence) : Keeps s ((if r.state = .heldOver then offer o t else t).setSlot i none) := by
    split
    · exact (offer_keeps h o).keep
    · exact h.keep
  unfold replyFrame
  dsimp only
  split
  · exact drop_keeps h _ _
  · split
    · exact drop_keeps (hfreed _) _ _
    · exact presentEgress_keeps (hfreed _) _ _

theorem heldOverAfter_keeps (h : Keeps s t) (i : Fin 64) (r : OpenRequest) : Keeps s (heldOverAfter i r t) := by
  unfold heldOverAfter
  split
  · exact offer_keeps h.keep _
  · exact h.keep

theorem expireWaiting_keeps (i : Fin 64) (r : OpenRequest) (s : State) : Keeps s (expireWaiting i r s) := by
  unfold expireWaiting
  split
  · exact heldOverAfter_keeps (offer_keeps (originateEgress_keeps (.refl s) _ _) _) _ _
  · exact offer_keeps (Keeps.refl s).keep _

theorem expireHeldOver_keeps (i : Fin 64) (r : OpenRequest) (s : State) : Keeps s (expireHeldOver i r s) :=
  offer_keeps (Keeps.refl s).keep _

/-! ## The night engine (R121 to R140) -/

theorem sendNight_keeps (h : Keeps s t) (kind : Nat) (fields : Bytes) : Keeps s (sendNight kind fields t) :=
  originateUplink_keeps h _ _

theorem failSession_keeps (h : Keeps s t) : Keeps s (failSession t) := by
  unfold failSession
  split
  · exact h.keep
  · exact raise_keeps h.keep _

theorem placeCall_keeps (h : Keeps s t) (attempts : Nat) : Keeps s (placeCall attempts t) :=
  (originateUplink_keeps (t := { t with night := { t.night with attempts := attempts, backoffTimer := none } })
    h.keep _ .transfer).keep

theorem nightCall_keeps (h : Keeps s t) : Keeps s (nightCall t) := by
  unfold nightCall
  split
  · exact placeCall_keeps h _
  · exact h

theorem sendRecords_keeps (h : Keeps s t) : Keeps s (sendRecords t) :=
  originate_keeps (offer_keeps h.keep _) _ fun f s => presentMeter_keeps (.refl s) _ _ f

theorem sendWhile_keeps (n : Nat) (h : Keeps s t) : Keeps s (sendWhile n t) := by
  induction n generalizing t with
  | zero => exact h
  | succ n ih =>
    unfold sendWhile
    split
    · exact ih (sendRecords_keeps h)
    · exact h

theorem completionTest_keeps (h : Keeps s t) : Keeps s (completionTest t) := by
  unfold completionTest
  split
  · exact (sendNight_keeps h 3 _).keep
  · exact h

theorem nightFollow_keeps (h : Keeps s t) : Keeps s (nightFollow t) := completionTest_keeps (sendWhile_keeps _ h)

theorem grantTaken_keeps (h : Keeps s t) (window : Byte) : Keeps s (grantTaken window t) := by
  unfold grantTaken
  split
  · exact h.keep
  · exact h.keep
  · exact h

theorem removeAcked_keeps (h : Keeps s t) (n : Nat) : Keeps s (removeAcked n t) := compareChanged_keeps h.keep _ _

theorem takeAck_keeps (h : Keeps s t) (a : Station) (sequence : Seq) : Keeps s (takeAck a sequence t) := by
  unfold takeAck
  dsimp only
  split
  · exact offer_keeps h _
  · split
    · exact nightFollow_keeps (removeAcked_keeps h _).keep
    · exact removeAcked_keeps h _

theorem ackExpires_keeps (s : State) : Keeps s (ackExpires s) := by
  unfold ackExpires
  dsimp only
  split
  · exact nightFollow_keeps (Keeps.refl s).keep
  · exact failSession_keeps (Keeps.refl s).keep

theorem closeSession_keeps (h : Keeps s t) : Keeps s (closeSession t) := (sendNight_keeps h 5 []).keep

theorem finishSession_keeps (h : Keeps s t) : Keeps s (finishSession t) := by
  unfold finishSession
  split
  · exact closeSession_keeps h
  · exact h

/-! ## The label engine (R137 to R154) -/

theorem takeUpdates_keeps (a : Station) (ws : List LabelWire) (h : Keeps s t) : Keeps s (takeUpdates a ws t).1 := by
  induction ws generalizing t with
  | nil => exact h
  | cons w ws ih =>
    unfold takeUpdates
    split
    · exact ih (offer_keeps h.keep _)
    · split
      · exact ih h.keep
      · exact h

theorem deliverWhile_keeps (n : Nat) (h : Keeps s t) : Keeps s (deliverWhile n t) := by
  induction n generalizing t with
  | zero => exact h
  | succ n ih =>
    unfold deliverWhile
    split
    · split
      · exact ih (originateEgress_keeps h.keep _ _)
      · exact h
    · exact h

theorem deliveries_keeps (h : Keeps s t) : Keeps s (deliveries t) := deliverWhile_keeps 16 h

theorem freeLabelBlock_keeps (h : Keeps s t) : Keeps s (freeLabelBlock t) := compareChanged_keeps h.keep _ _

theorem loseOldest_keeps (h : Keeps s t) : Keeps s (loseOldest t) := by
  unfold loseOldest
  split
  · exact h
  · exact raise_keeps (offer_keeps h.keep _) _

theorem giveUp_keeps (h : Keeps s t) (u : LabelUpdate) (why : GivenUp) (o : Origin) : Keeps s (giveUp u why o t) :=
  offer_keeps (loseOldest_keeps (freeLabelBlock_keeps h)).keep _

theorem returnUpdate_keeps (h : Keeps s t) (u : LabelUpdate) (o : Origin) : Keeps s (returnUpdate u o t) := by
  unfold returnUpdate
  split
  · exact offer_keeps (freeLabelBlock_keeps h) _
  · exact h.keep

theorem applyOutcome_keeps (h : Keeps s t) (u : LabelUpdate) (x : LabelOutcome) (o : Origin) :
    Keeps s (applyOutcome u x o t) := by
  unfold applyOutcome
  split
  · exact offer_keeps (freeLabelBlock_keeps h) _
  · exact giveUp_keeps h _ _ _
  · split
    · exact giveUp_keeps h _ _ _
    · exact returnUpdate_keeps h _ _

theorem takeOutcome_keeps (h : Keeps s t) (number : BitVec 24) (x : LabelOutcome) (o : Origin) :
    Keeps s (takeOutcome number x o t) := by
  unfold takeOutcome
  split
  · exact offer_keeps h _
  · exact deliveries_keeps (applyOutcome_keeps h.keep _ _ _)

theorem labelRecovery_keeps (h : Keeps s t) : Keeps s (labelRecovery t) :=
  foldl_keeps (fun s o => offer_keeps_self o s) _ (compareChanged_keeps h.keep _ _)

/-! ## Clock and schedule (R159 to R166) -/

theorem setLabelWindow_keeps (h : Keeps s t) (v : Gate) (o : LevelOrigin) : Keeps s (setLabelWindow v o t) := by
  unfold setLabelWindow
  dsimp only
  split
  · exact deliveries_keeps h.keep
  · exact h.keep

/-- R79: the guest table emptied and the GUEST hold queue with it leave no level out of its depth. -/
theorem closeGuest_keeps (h : Keeps s t) : Keeps s (closeGuest t) := by
  refine h.trans ⟨fun hl => meterLaw_iff.2 ⟨fun i => ?_, nofun⟩, .of_counters rfl⟩
  cases i with
  | guest => exact hl.1 .guest
  | office => exact hl.1 .office
  | transfer => exact hl.1 .transfer

theorem setGuestState_keeps (h : Keeps s t) (v : Gate) (o : LevelOrigin) : Keeps s (setGuestState v o t) := by
  unfold setGuestState
  dsimp only
  split
  · exact closeGuest_keeps h.keep
  · exact h.keep

theorem act_keeps (h : Keeps s t) (action : ScheduleAction) (o : LevelOrigin) : Keeps s (act action o t) := by
  cases action with
  | dayProfile => exact setProfile_keeps h _ _
  | nightProfile => exact setProfile_keeps h _ _
  | labelsOpen => exact setLabelWindow_keeps h _ _
  | labelsClosed => exact setLabelWindow_keeps h _ _
  | guestOpen => exact setGuestState_keeps h _ _
  | guestClosed => exact setGuestState_keeps h _ _
  | call => exact nightCall_keeps h

theorem fireEntry_keeps (v : Vector ScheduleEntry 16) (second : Nat) (s : State) (i : Fin 16) :
    Keeps s (fireEntry v second s i) := by
  unfold fireEntry
  split
  · exact act_keeps (.refl s) _ _
  · exact .refl s

theorem fireEntries_keeps (h : Keeps s t) : Keeps s (fireEntries t) := by
  unfold fireEntries
  split
  · exact foldl_keeps (fireEntry_keeps _ _) _ h
  · exact h

theorem replayKind_keeps (s : State) (k : LevelKind) : Keeps s (replayKind s k) := by
  unfold replayKind
  split
  · exact .refl s
  · exact act_keeps (.refl s) _ _

theorem replay_keeps (h : Keeps s t) : Keeps s (replay t) := foldl_keeps replayKind_keeps _ h

theorem clockSet_keeps (h : Keeps s t) (day second : Nat) : Keeps s (clockSet day second t) := by
  unfold clockSet
  dsimp only
  split
  · exact replay_keeps h.keep
  · exact h.keep

/-! ## Messages (R120, R146) -/

theorem ifTaken_keeps (h : Keeps s t) (m : NightSource) (inRange : Bool) {take : State → State}
    (ht : Keeps s (take t)) : Keeps s (ifTaken m inRange take t) := by
  unfold ifTaken
  split
  · exact ht
  · exact offer_keeps h _

theorem wakeMessage_keeps (h : Keeps s t) (m : NightSource) : Keeps s (wakeMessage m t) :=
  ifTaken_keeps h _ _ (nightCall_keeps h)

theorem takeGrant_keeps (h : Keeps s t) (window : Byte) (day : BitVec 16) (second : BitVec 32) :
    Keeps s (takeGrant window day second t) := by
  unfold takeGrant
  dsimp only
  split
  · refine nightFollow_keeps ?_
    split
    · exact clockSet_keeps (grantTaken_keeps h _) _ _
    · exact grantTaken_keeps h _
  · exact h

theorem grantMessage_keeps (h : Keeps s t) (m : NightSource) (window : Byte) (day : BitVec 16) (second : BitVec 32) :
    Keeps s (grantMessage m window day second t) := ifTaken_keeps h _ _ (takeGrant_keeps h _ _ _)

theorem ackMessage_keeps (h : Keeps s t) (m : NightSource) (sequence : Seq) : Keeps s (ackMessage m sequence t) :=
  ifTaken_keeps h _ _ (takeAck_keeps h _ _)

theorem takeLabels_keeps (h : Keeps s t) (a : Station) (batch : BitVec 32) (ws : List LabelWire) :
    Keeps s (takeLabels a batch ws t) := by
  unfold takeLabels
  dsimp only
  split
  · exact deliveries_keeps (sendNight_keeps (compareChanged_keeps (takeUpdates_keeps a ws h) _ _) 4 _)
  · exact offer_keeps h _

theorem labelsMessage_keeps (h : Keeps s t) (m : NightSource) (batch : BitVec 32) (ws : List LabelWire) :
    Keeps s (labelsMessage m batch ws t) := ifTaken_keeps h _ _ (takeLabels_keeps h _ _ _)

theorem finishMessage_keeps (h : Keeps s t) (m : NightSource) : Keeps s (finishMessage m t) :=
  ifTaken_keeps h _ _ (finishSession_keeps h)

theorem overUplink_keeps (a : Station) {take : State → State} (ht : Keeps s (take s)) :
    Keeps s (overUplink a take s) := by
  unfold overUplink
  split
  · exact .refl s
  · split
    · exact drop_keeps (.refl s) _ _
    · exact ht

theorem overLabel_keeps (a : Station) {take : State → State} (ht : Keeps s (take s)) :
    Keeps s (overLabel a take s) := by
  unfold overLabel
  split
  · exact .refl s
  · split
    · exact drop_keeps (.refl s) _ _
    · split
      · exact drop_keeps (.refl s) _ _
      · exact ht

theorem nightDatagram_keeps (h : Keeps s t) (a : Station) (b : NetAddr) (v : Service) (payload : Bytes) :
    Keeps s (nightDatagram a b v payload t) := by
  unfold nightDatagram
  split
  · exact wakeMessage_keeps h _
  · exact grantMessage_keeps h _ _ _ _
  · exact ackMessage_keeps h _ _
  · exact labelsMessage_keeps h _ _ _
  · exact finishMessage_keeps h _
  · exact offer_keeps h _

theorem takeReady_keeps (h : Keeps s t) (slots : Byte) : Keeps s (takeReady slots t) := deliveries_keeps h.keep

theorem outcomeMessage_keeps (h : Keeps s t) (a : Station) (number : BitVec 24) (value : Byte) :
    Keeps s (outcomeMessage a number value t) := by
  unfold outcomeMessage
  split
  · exact drop_keeps h _ _
  · split
    · exact drop_keeps h _ _
    · exact takeOutcome_keeps h _ _ _

theorem baseStationDatagram_keeps (h : Keeps s t) (a : Station) (payload : Bytes) :
    Keeps s (baseStationDatagram a payload t) := by
  unfold baseStationDatagram
  split
  · exact takeReady_keeps h _
  · exact outcomeMessage_keeps h _ _ _
  · exact drop_keeps h _ _

/-! ## The spool unit (R101 to R107) -/

theorem answerTill_keeps (h : Keeps s t) (p : Passage) (copy : LookupCopy) (n : Fin 32) (kind code : Nat)
    (number sequence : Seq) (event : SpoolEvent) : Keeps s (answerTill p copy n kind code number sequence event t) :=
  offer_keeps (originateEgress_keeps h _ _) _

theorem appendNew_keeps (h : Keeps s t) (p : Passage) (copy : LookupCopy) (n : Fin 32) (number : Seq) :
    Keeps s (appendNew p copy n number t) := by
  unfold appendNew
  dsimp only
  split
  · exact nightFollow_keeps (answerTill_keeps (compareChanged_keeps h.keep _ _) _ _ _ _ _ _ _ _)
  · exact answerTill_keeps h _ _ _ _ _ _ _ _

theorem deduplicate_keeps (h : Keeps s t) (p : Passage) (copy : LookupCopy) (n : Fin 32) (number : Seq) :
    Keeps s (deduplicate p copy n number t) := by
  unfold deduplicate
  dsimp only
  split
  · exact appendNew_keeps h _ _ _ _
  · split
    · exact answerTill_keeps h _ _ _ _ _ _ _ _
    · split
      · exact appendNew_keeps h _ _ _ _
      · exact appendNew_keeps (offer_keeps h _) _ _ _ _

theorem checkRecord_keeps (h : Keeps s t) (p : Passage) (copy : LookupCopy) (n : Fin 32) :
    Keeps s (checkRecord p copy n t) := by
  unfold checkRecord
  dsimp only
  split
  · exact answerTill_keeps h _ _ _ _ _ _ _ _
  · split
    · exact answerTill_keeps h _ _ _ _ _ _ _ _
    · exact deduplicate_keeps h _ _ _ _

/-- R101: each test of a Spool frame drops it, and the last lets it through. -/
theorem spoolFrame_keeps (h : Keeps s t) (p : Passage) (copy : LookupCopy) : Keeps s (spoolFrame p copy t) := by
  have hdrop (r : DropReason) : Keeps s (drop r (copyOrigin p.port (sourceStation p.bytes) copy) t) := drop_keeps h r _
  unfold spoolFrame
  dsimp only
  repeat' split
  case h_2.isFalse.isFalse.isFalse => exact checkRecord_keeps h _ _ _
  all_goals exact hdrop _

/-! ## The source check (R8, R9, R71 to R73) -/

theorem without_le {table : List GuestEntry} {depth : Nat} (h : ∀ e ∈ table, e.level ≤ depth) (a : Station) :
    ∀ e ∈ without table a, e.level ≤ depth := fun e he => h e (List.mem_of_mem_filter he)

theorem cons_without_le {table : List GuestEntry} {depth : Nat} (h : ∀ e ∈ table, e.level ≤ depth) {x : GuestEntry}
    (hx : x.level ≤ depth) (a : Station) : ∀ e ∈ x :: without table a, e.level ≤ depth :=
  List.forall_mem_cons.2 ⟨hx, without_le h a⟩

/-- R73: a station is admitted with its meter full. -/
theorem admitGuest_keeps (h : Keeps s t) (a : Station) (b : NetAddr) (n : Nat) : Keeps s (admitGuest a b n t) :=
  h.table fun ht => List.forall_mem_cons.2 ⟨Nat.le_refl _, ht⟩

section
variable {next : State → State} (hn : ∀ t, Keeps s t → Keeps s (next t))
include hn

theorem unknownGuest_keeps (a : Station) (b : NetAddr) (n : Nat) : Keeps s (unknownGuest a b n next s) := by
  unfold unknownGuest
  dsimp only
  split
  · exact drop_keeps (.refl s) _ _
  · split
    · exact hn _ (admitGuest_keeps (.refl s) _ _ _)
    · split
      · exact drop_keeps (.refl s) _ _
      · exact hn _ (admitGuest_keeps (offer_keeps ((Keeps.refl s).table fun ht => without_le ht _) _) _ _ _)

/-- R72: a known station's entry moves to the head with the level it had. -/
theorem knownGuest_keeps {e : GuestEntry} (he : e ∈ s.guest.table) (b : NetAddr) (n : Nat) :
    Keeps s (knownGuest e b n next s) := by
  unfold knownGuest
  dsimp only
  split
  · exact drop_keeps (.refl s) _ _
  · split
    · exact drop_keeps (.refl s) _ _
    · exact hn _ ((Keeps.refl s).table fun ht => cons_without_le ht (x := e.passed b n s.tick) (ht e he) _)

theorem guestSource_keeps (a : Station) (b : NetAddr) (n : Nat) : Keeps s (guestSource a b n next s) := by
  unfold guestSource
  dsimp only
  split
  · exact drop_keeps (.refl s) _ _
  · split
    · exact drop_keeps (.refl s) _ _
    · split
      · next he => exact knownGuest_keeps hn (List.mem_of_find?_eq_some he) _ _
      · exact unknownGuest_keeps hn _ _ _

end

theorem sourceCheck_keeps {next : Option (Fin 32) → State → State} (hn : ∀ n t, Keeps s t → Keeps s (next n t))
    (port : Segment) (a : Station) (b : NetAddr) (n : Nat) : Keeps s (sourceCheck port a b n next s) := by
  unfold sourceCheck
  split
  · exact hn _ _ (.refl s)
  · split
    · split
      · exact hn _ _ (.refl s)
      · exact drop_keeps (.refl s) _ _
    · exact guestSource_keeps (hn none) _ _ _
    · exact hn _ _ (.refl s)

/-! ## The receive path (R5 to R12, R25, R91) -/

theorem arpFrame_keeps (h : Keeps s t) (port : Segment) (bs : Bytes) : Keeps s (arpFrame port bs t) := by
  unfold arpFrame
  split
  · exact presentOn_keeps h _ _
  · exact drop_keeps h _ _

theorem joinRequests_keeps (h : Keeps s t) (port : Segment) (a : Station) (r : Request) :
    Keeps s (joinRequests port a r t) := by
  unfold joinRequests setAlertDestination
  split
  · split
    · exact h.keep.trans (alertTest_keeps _)
    · exact h.keep
  · exact offer_keeps h _

theorem remoteRequest_keeps (h : Keeps s t) (bs : Bytes) (ip : Ipv4) : Keeps s (remoteRequest bs ip t) := by
  unfold remoteRequest
  dsimp only
  split
  · exact joinRequests_keeps h _ _ _
  · exact drop_keeps h _ _

theorem lookupFrame_keeps (h : Keeps s t) (p : Passage) : Keeps s (lookupFrame p t) := by
  have hlooked (o : Occurrence) :
      Keeps s (offer o { t with classifier := t.classifier.hit p.port (lookupCopy t.classifier p.port p.ip) }) :=
    offer_keeps h.keep o
  unfold lookupFrame
  dsimp only
  split
  · exact forwardFrame_keeps (hlooked _) _ _
  · exact trackFrame_keeps (hlooked _) _ _
  · exact spoolFrame_keeps (hlooked _) _ _
  · exact drop_keeps (hlooked _) _ _

theorem passOn_keeps (h : Keeps s t) (p : Passage) : Keeps s (passOn p t) := by
  unfold passOn
  split
  · split
    · exact replyFrame_keeps h _ _ _
    · exact lookupFrame_keeps h _
  · exact lookupFrame_keeps h _

theorem deliverRunning_keeps (h : Keeps s t) (p : Passage) : Keeps s (deliverRunning p t) := by
  unfold deliverRunning
  dsimp only
  split
  · split
    · exact nightDatagram_keeps h _ _ _ _
    · exact drop_keeps h _ _
  · split
    · split
      · exact baseStationDatagram_keeps h _ _
      · exact drop_keeps h _ _
    · split
      · exact drop_keeps h _ _
      · exact passOn_keeps h _

theorem deliverLocal_keeps (h : Keeps s t) (p : Passage) : Keeps s (deliverLocal p t) := by
  unfold deliverLocal
  split
  · exact remoteRequest_keeps h _ _
  · split
    · exact deliverRunning_keeps h _
    · exact drop_keeps h _ _

theorem ipv4Frame_keeps (port : Segment) (bs : Bytes) (s : State) : Keeps s (ipv4Frame port bs s) := by
  unfold ipv4Frame
  split
  · exact drop_keeps (.refl s) _ _
  · exact sourceCheck_keeps (fun _ _ h => deliverLocal_keeps h _) _ _ _ _

theorem sortFrame_keeps (port : Segment) (bs : Bytes) (s : State) : Keeps s (sortFrame port bs s) := by
  unfold sortFrame
  dsimp only
  split
  · split
    · exact drop_keeps (.refl s) _ _
    · exact ipv4Frame_keeps _ _ s
  · split
    · exact sourceCheck_keeps (fun _ _ h => arpFrame_keeps h _ _) _ _ _ _
    · split
      · exact joinRequests_keeps (.refl s) _ _ _
      · exact drop_keeps (.refl s) _ _

theorem receiveFrame_keeps (port : Segment) (fcs : Bool) (bs : Bytes) (s : State) :
    Keeps s (receiveFrame port fcs bs s) := by
  unfold receiveFrame
  split
  · exact .refl s
  · split
    · exact offer_keeps_self _ s
    · split
      · exact .refl s
      · exact (offer_keeps_self _ s).trans (sortFrame_keeps _ _ _)

end Sys2Proof.Machine

/-! SUPPORT. What every command keeps of the meters and of frozen counters (R59, R171), and the meter law as what every step
keeps. -/

namespace Sys2Proof.Machine

/- The proofs below run one after another: run together, their waiting threads outgrow the memory a check may use. -/
set_option Elab.async false

variable {c : Instr} {s t : State}

/-! ## The command event (R183, R184, R188) -/

theorem takeRequest_keepsGauges (h : Keeps s t) (i : Instr) : Keeps s (takeRequest i t) :=
  h.keep (takeRequest_keeps State.gauges (fun _ _ => rfl) i t)

theorem sendPart_keeps (h : Keeps s t) (q : Requester) (message : Bytes) : Keeps s (sendPart q message t) := by
  unfold sendPart
  split
  · exact presentOn_keeps h _ _
  · exact originateUplink_keeps h _ _

theorem sendParts_keeps (q : Requester) (code : Nat) (status : Status) (n : Nat) (parts : List Bytes) (h : Keeps s t) :
    Keeps s (sendParts q code status n parts t) := by
  induction parts generalizing n t with
  | nil => exact h
  | cons part parts ih => exact ih (n + 1) (sendPart_keeps h q _)

section
variable {q : Requester} {i : Instr} {code : Nat} {run : State → CmdResult}

/-- A command that needs no lock keeps what its run does. -/
theorem openCommand_keeps (h : ∀ s, Keeps s (run s).state) (s : State) : Keeps s (openCommand q i code run s) :=
  sendParts_keeps _ _ _ _ _ ((takeRequest_keepsGauges (.refl s) i).trans (h _))

/-- A lock-requiring command keeps what its run does. -/
theorem lockedCommand_keeps (h : ∀ s, Keeps s (run s).state) (s : State) : Keeps s (lockedCommand q i code run s) := by
  refine openCommand_keeps (fun s => ?_) s
  split
  · exact (h s).keep
  · exact .refl s

/-- R59: the response, the request taken and the lease are nothing to the meter law. -/
theorem lockedCommand_law (h : ∀ s, MeterLaw s → MeterLaw (run s).state) (hl : MeterLaw s) :
    MeterLaw (lockedCommand q i code run s) := by
  have htaken := (takeRequest_keepsGauges (.refl s) i).law hl
  cases hholds : s.holds q.party
  · exact htaken.of_quiet (quiet_of_still (lockedCommand_noLock q i code run s hholds))
  · refine MeterLaw.of_quiet ?_ (quiet_of_still (lockedCommand_still q i code run s hholds))
    exact (h _ htaken).of_parts rfl rfl rfl

end

/-! ## The writes (R187) -/

section
variable {α : Type} {first : BitVec 32} {entries : List α}

theorem writeSingle_keeps {take : α → State → CmdResult} (h : ∀ w, Keeps s (take w s).state) :
    Keeps s (writeSingle first entries take s).state := by
  unfold writeSingle
  split
  · exact .refl s
  · split
    · exact .refl s
    · exact h _

theorem writeMany_keeps {low high : Nat} {take : State → CmdResult} (h : Keeps s (take s).state) :
    Keeps s (writeMany low high first entries take s).state := by
  unfold writeMany
  split
  · exact .refl s
  · split
    · exact .refl s
    · exact h

theorem writeNamed_keeps {low high : Nat} {fault : Option Nat} {take : State → CmdResult}
    (h : Keeps s (take s).state) : Keeps s (writeNamed low high first entries fault take s).state := by
  unfold writeNamed
  split
  · exact .refl s
  · split
    · exact .refl s
    · split
      · exact .refl s
      · exact h

end

theorem writePortsEntry_keeps (w : PortsWrite) (s : State) : Keeps s (writePortsEntry w s).state := by
  unfold writePortsEntry
  split
  · exact .refl s
  · split
    · exact .refl s
    · split
      · exact .refl s
      · exact deliveries_keeps (Keeps.refl s).keep

/-- R63: a meter within its depth takes new profiles and is within the new one. -/
theorem rewritten_within {m : ShareMeter} {v : DayNight} (h : m.within v) (now : Tick) (p : Profile × Profile) :
    (m.rewritten v now p).within v := by
  unfold ShareMeter.rewritten
  dsimp only
  split
  · next hsame => exact h.trans_eq (hsame.2.trans (by cases v <;> rfl))
  · cases v <;> exact Nat.min_le_right _ _

theorem writeMeter_keeps (s : State) (x : Meter × (Profile × Profile)) : Keeps s (writeMeter s x) :=
  setMeter_keeps (.refl s) _ fun h => rewritten_within h _ _

/-- R69: a new depth lowers every guest's level to it. -/
theorem withSettings_keeps (s : State) (g : GuestSettings) : Keeps s { s with guest := s.guest.withSettings g } := by
  refine ⟨fun hl => meterLaw_iff.2 ⟨hl.1, fun e he => ?_⟩, .of_counters rfl⟩
  obtain ⟨x, -, rfl⟩ := List.mem_map.1 he
  exact Nat.min_le_right _ _

theorem writeMetersRun_keeps (first : BitVec 32) (es : List MeterWrite) (s : State) :
    Keeps s (writeMetersRun first es s).state := by
  refine writeMany_keeps ?_
  dsimp only
  split
  · exact .refl s
  · exact foldl_keeps writeMeter_keeps _ (.refl s)

theorem writeOfficeRun_keeps (first : BitVec 32) (es : List OfficeStation) (s : State) :
    Keeps s (writeOfficeRun first es s).state := by
  refine writeMany_keeps ?_
  dsimp only
  split
  · exact .refl s
  · exact (Keeps.refl s).keep

theorem writeWindowRun_keeps (k : BankId) (first : BitVec 32) (es : List WindowWrite) (s : State) :
    Keeps s (writeWindowRun k first es s).state := by
  unfold writeWindowRun
  split
  · exact .refl s
  · exact writeNamed_keeps (Keeps.refl s).keep

theorem writeDefaultsRun_keeps (k : BankId) (first : BitVec 32) (es : List DefaultWrite) (s : State) :
    Keeps s (writeDefaultsRun k first es s).state := by
  unfold writeDefaultsRun
  split
  · exact .refl s
  · exact writeNamed_keeps (Keeps.refl s).keep

theorem writeIdentityRun_keeps (first : BitVec 32) (es : List (BitVec 32)) (s : State) :
    Keeps s (writeIdentityRun first es s).state := by
  refine writeMany_keeps ?_
  dsimp only
  split
  · exact (Keeps.refl s).keep
  · exact .refl s

theorem writeScheduleRun_keeps (first : BitVec 32) (es : List ScheduleWrite) (s : State) :
    Keeps s (writeScheduleRun first es s).state := by
  refine writeMany_keeps ?_
  split
  · exact .refl s
  · exact (Keeps.refl s).keep

theorem writePortsRun_keeps (first : BitVec 32) (es : List PortsWrite) (s : State) :
    Keeps s (writePortsRun first es s).state := writeSingle_keeps fun w => writePortsEntry_keeps w s

theorem writeGuestRun_keeps (first : BitVec 32) (es : List GuestWrite) (s : State) :
    Keeps s (writeGuestRun first es s).state := writeSingle_keeps fun _ => withSettings_keeps s _

theorem writeUplinkRun_keeps (first : BitVec 32) (es : List UplinkWrite) (s : State) :
    Keeps s (writeUplinkRun first es s).state := writeSingle_keeps fun _ => (Keeps.refl s).keep

theorem writeThresholdsRun_keeps (first : BitVec 32) (es : List PairWrite) (s : State) :
    Keeps s (writeThresholdsRun first es s).state :=
  writeMany_keeps ((Keeps.refl s).keep (by simp only [State.gauges, doneClamped]))

theorem writeTillsRun_keeps (first : BitVec 32) (es : List TillWrite) (s : State) :
    Keeps s (writeTillsRun first es s).state :=
  writeNamed_keeps ((Keeps.refl s).keep (by simp only [State.gauges, doneClamped]))

theorem writeTrackerRun_keeps (first : BitVec 32) (es : List TrackerWrite) (s : State) :
    Keeps s (writeTrackerRun first es s).state := writeSingle_keeps fun _ => (Keeps.refl s).keep

theorem writePoolRun_keeps (first : BitVec 32) (es : List PoolWrite) (s : State) :
    Keeps s (writePoolRun first es s).state := writeSingle_keeps fun _ => (Keeps.refl s).keep

theorem writeNightRun_keeps (first : BitVec 32) (es : List NightWrite) (s : State) :
    Keeps s (writeNightRun first es s).state := writeSingle_keeps fun _ => (Keeps.refl s).keep

theorem writeLabelRun_keeps (first : BitVec 32) (es : List LabelWrite) (s : State) :
    Keeps s (writeLabelRun first es s).state := writeSingle_keeps fun _ => (Keeps.refl s).keep

theorem writeAlertsRun_keeps (first : BitVec 32) (es : List (BitVec 16)) (s : State) :
    Keeps s (writeAlertsRun first es s).state := writeSingle_keeps fun _ => (Keeps.refl s).keep

theorem writeAgentRun_keeps (first : BitVec 32) (es : List (BitVec 16)) (s : State) :
    Keeps s (writeAgentRun first es s).state := writeSingle_keeps fun _ => (Keeps.refl s).keep

/-- R187: what the bytes of a WRITE spell keeps what the write of its table does. -/
theorem writeRunOf_keeps {q : Requester} {table : Byte} {first : BitVec 32} {count : BitVec 16} {data : Bytes}
    {run : State → CmdResult} (h : writeRunOf q table first count data = some run) (s : State) :
    Keeps s (run s).state := by
  unfold writeRunOf at h
  split at h <;> cases h
  · exact writePortsRun_keeps _ _ s
  · exact writeOfficeRun_keeps _ _ s
  · exact writeWindowRun_keeps _ _ _ s
  · exact writeDefaultsRun_keeps _ _ _ s
  · exact writeIdentityRun_keeps _ _ s
  · exact writeUplinkRun_keeps _ _ s
  · exact writeMetersRun_keeps _ _ s
  · exact writeThresholdsRun_keeps _ _ s
  · exact writeGuestRun_keeps _ _ s
  · exact writeTillsRun_keeps _ _ s
  · exact writeTrackerRun_keeps _ _ s
  · exact writePoolRun_keeps _ _ s
  · exact writeNightRun_keeps _ _ s
  · exact writeLabelRun_keeps _ _ s
  · exact writeScheduleRun_keeps _ _ s
  · exact writeAlertsRun_keeps _ _ s
  · exact writeAgentRun_keeps _ _ s
  · exact .refl s

/-! ## The other commands of the lock's holder -/

theorem withCursor_gauges (s : State) (p : Party) (x : Cursor) : (s.withCursor p x).gauges = s.gauges := by
  cases p <;> rfl

theorem readTable_keeps (q : Requester) (table : Byte) (first : BitVec 32) (count : BitVec 16) (s : State) :
    Keeps s (readTable q table first count s).state := by
  unfold readTable
  split
  · exact .refl s
  · split
    · exact .refl s
    · exact .of_gauges (withCursor_gauges _ _ _)

theorem readOn_keeps (q : Requester) (count : BitVec 16) (s : State) : Keeps s (readOn q count s).state := by
  unfold readOn
  split
  · exact .refl s
  · exact .of_gauges (withCursor_gauges _ _ _)

theorem swapRun_keeps (s : State) : Keeps s (swapRun s).state := by
  unfold swapRun
  split
  · exact .refl s
  · exact (Keeps.refl s).keep

theorem openRun_keeps (s : State) : Keeps s (openRun s).state := by
  unfold openRun
  split
  · exact .refl s
  · dsimp only [done]
    split
    · exact replay_keeps (Keeps.refl s).keep
    · exact (Keeps.refl s).keep

/-- R17: the hold queues emptied are nothing to the meter law. -/
theorem emptied_keeps (h : Keeps s t) : Keeps s { t with meters := t.meters.emptied } := by
  refine h.trans ⟨fun hl => meterLaw_iff.2 ⟨fun i => ?_, hl.2⟩, .of_counters rfl⟩
  cases i with
  | guest => exact hl.1 .guest
  | office => exact hl.1 .office
  | transfer => exact hl.1 .transfer

theorem forcedStop_keeps (h : Keeps s t) : Keeps s (forcedStop t) := by
  unfold forcedStop
  split
  · exact h
  · exact closeSession_keeps h

theorem closeRun_keeps (s : State) : Keeps s (closeRun s).state := by
  have hclosed : Keeps s (s.withPart .closed).flushed := (Keeps.refl s).keep
  unfold closeRun
  split
  · exact labelRecovery_keeps (forcedStop_keeps (emptied_keeps hclosed)).keep
  · exact .refl s

/-- R82: at forwarding restart every station meter stands at its depth. -/
theorem guestsRestarted_keeps (h : Keeps s t) : Keeps s t.guestsRestarted := by
  refine h.table fun _ e he => ?_
  obtain ⟨x, -, rfl⟩ := List.mem_map.1 he
  exact Nat.le_refl _

theorem nightRestart_keeps (h : Keeps s t) : Keeps s (nightRestart t) := h.keep

theorem restartPart_keeps (s : State) : Keeps s (restartPart s) := by
  have hrestarting : Keeps s s.restarting := (Keeps.refl s).keep
  rw [restartPart_eq]
  exact labelRecovery_keeps (nightRestart_keeps (guestsRestarted_keeps (foldl_keeps restartMeter_keeps _ hrestarting)))

theorem profileRun_keeps (v : Byte) (s : State) : Keeps s (profileRun v s).state := by
  unfold profileRun
  split
  · exact setProfile_keeps (.refl s) _ _
  · exact setProfile_keeps (.refl s) _ _
  · exact .refl s

theorem labelsRun_keeps (v : Byte) (s : State) : Keeps s (labelsRun v s).state := by
  unfold labelsRun
  split
  · exact setLabelWindow_keeps (.refl s) _ _
  · exact .refl s

theorem guestRun_keeps (v : Byte) (s : State) : Keeps s (guestRun v s).state := by
  unfold guestRun
  split
  · exact setGuestState_keeps (.refl s) _ _
  · exact .refl s

theorem callRun_keeps (s : State) : Keeps s (callRun s).state := by
  unfold callRun
  split
  · exact nightCall_keeps (.refl s)
  · exact .refl s

theorem stopRun_keeps (s : State) : Keeps s (stopRun s).state := by
  unfold stopRun
  split
  · exact .refl s
  · exact closeSession_keeps (.refl s)

theorem discardRun_keeps (s : State) : Keeps s (discardRun s).state := by
  unfold discardRun
  split
  · exact compareChanged_keeps (Keeps.refl s).keep _ _
  · exact .refl s

theorem adjustQueuesRun_keeps (w : QueueLimitsWrite) (s : State) : Keeps s (adjustQueuesRun w s).state := by
  unfold adjustQueuesRun
  split
  · exact .refl s
  · exact nightFollow_keeps (Keeps.refl s).keep

theorem barRun_keeps (a : Station) (s : State) : Keeps s (barRun a s).state := by
  unfold barRun
  split
  · exact .refl s
  · exact withGuest_keeps (.refl s) a fun _ h => h

theorem unbarRun_keeps (a : Station) (s : State) : Keeps s (unbarRun a s).state := by
  unfold unbarRun
  split
  · exact .refl s
  · next e he =>
    split
    · exact (Keeps.refl s).table fun ht => cons_without_le ht
        (x := { e with barred := false, lastActive := s.tick }) (ht e (List.mem_of_find?_eq_some he)) a
    · exact .refl s

/-- R172: COUNTERS Configure leaves values and overflow flags. -/
theorem configured_tally (u : CounterUnit) (ws : Vector CounterWrite 8) (g : GroupControls) :
    ({ u with counters := Vector.ofFn fun i => u.counters[i].configured ws[i], group := g } : CounterUnit).tally
      = u.tally := by
  have hone (x : Counter) (w : CounterWrite) :
      ((x.configured w).value, (x.configured w).overflow) = (x.value, x.overflow) := by
    unfold Counter.configured
    split <;> rfl
  refine Vector.ext fun i hi => ?_
  simp only [CounterUnit.tally, Vector.getElem_map, Vector.getElem_ofFn]
  exact hone _ _

theorem configureRun_keeps (ws : Vector CounterWrite 8) (g : GroupControls) (s : State) :
    Keeps s (configureRun ws g s).state := by
  unfold configureRun
  split
  · exact .refl s
  · exact ⟨fun hl => hl.of_parts rfl rfl rfl, fun hfrozen => ⟨hfrozen, configured_tally _ _ _⟩⟩

theorem alertClearRun_keeps (xs : List Byte) (s : State) : Keeps s (alertClearRun xs s).state := by
  unfold alertClearRun
  split
  · exact .refl s
  · exact (Keeps.refl s).keep

theorem claimRun_keeps (p : Party) (s : State) : Keeps s (claimRun p s).state := by
  unfold claimRun
  split
  · exact (Keeps.refl s).keep
  · exact .refl s

theorem releaseRun_keeps (p : Party) (s : State) : Keeps s (releaseRun p s).state := by
  unfold releaseRun
  split
  · exact (Keeps.refl s).keep
  · exact .refl s

/-- R183: a form byte that spells no form of COUNTERS is refused. -/
theorem startRun_refused {form : Byte} (h : form ≠ 2) (s : State) : startRun form s = refused .badValue s := if_neg h

theorem startRun_law (form : Byte) (hl : MeterLaw s) : MeterLaw (startRun form s).state := by
  unfold startRun
  split
  · exact hl.of_parts rfl rfl rfl
  · exact hl

theorem clearRun_law (ns : List Byte) (hl : MeterLaw s) : MeterLaw (clearRun ns s).state := by
  unfold clearRun
  split
  · exact hl.of_parts rfl rfl rfl
  · exact hl

/-! ## The events -/

theorem Keeps.ite {p : Prop} [Decidable p] (h : Keeps s t) : Keeps s (if p then t else s) := by
  split
  · exact h
  · exact .refl s

theorem afterLinkUp_keeps (h : Keeps s t) (g : Segment) : Keeps s (afterLinkUp g t) := by
  have hdeparted : Keeps s (if g = .uplink then nightFollow (depart t) else t) := by
    split
    · exact nightFollow_keeps (depart_keeps h)
    · exact h
  unfold afterLinkUp
  dsimp only
  split
  · exact hdeparted.trans (alertTest_keeps _)
  · exact hdeparted

theorem nightLinkLoss_keeps (h : Keeps s t) : Keeps s (nightLinkLoss t) := by
  unfold nightLinkLoss
  split
  · exact h.keep
  · exact h

theorem afterLinkLoss_keeps (h : Keeps s t) (g : Segment) : Keeps s (afterLinkLoss g t) := by
  cases g with
  | uplink => exact nightLinkLoss_keeps h.keep
  | till => exact h.keep
  | label => exact labelRecovery_keeps h.keep
  | guest => exact h.keep
  | office => exact h.keep

theorem meterRelease_keeps (m : Meter) (s : State) : Keeps s (if (s.meters.get m).hold = [] then s
    else if m = .transfer then nightFollow (releaseMeter m s) else releaseMeter m s) := by
  split
  · exact .refl s
  · split
    · exact nightFollow_keeps (releaseMeter_keeps (.refl s) m)
    · exact releaseMeter_keeps (.refl s) m

theorem aged_keeps (s : State) : Keeps s { s with agingDue := false, guest := s.guest.aged s.tick } :=
  ((Keeps.refl s).table fun ht e he => ht e (List.mem_of_mem_filter he)).keep

/-! ## Every command -/

/-- What a command keeps, but for COUNTERS Start and Clear and device reset. -/
theorem exec_keeps (h : exec c s = .next t) (hstart : ∀ q, c ≠ .countersStart ⟨q, 2⟩)
    (hclear : ∀ q ns, c ≠ .countersClear q ns) (hreset : c ≠ .deviceReset) : Keeps s t := by
  cases c <;> cases h
  case deviceReset => exact absurd rfl hreset
  case linkUp g v => exact afterLinkUp_keeps (Keeps.refl s).keep g
  case linkLoss g => exact .ite (afterLinkLoss_keeps (Keeps.refl s).keep g)
  case frameReceived g fcs bs => exact receiveFrame_keeps g fcs bs s
  case egressTransmissionEnd p => exact .ite (Keeps.refl s).keep
  case uplinkTransmissionEnd => exact .ite (nightFollow_keeps (depart_keeps (Keeps.refl s).keep))
  case msTickAdvance => exact (Keeps.refl s).keep
  case meterRelease m => exact meterRelease_keeps m s
  case guestAging => exact .ite (aged_keeps s)
  case secondAdvance => exact .ite (fireEntries_keeps (Keeps.refl s).keep)
  case waitingExpiry i =>
    split
    · exact expireWaiting_keeps _ _ _
    · exact .refl s
  case heldOverExpiry i =>
    split
    · exact expireHeldOver_keeps _ _ _
    · exact .refl s
  case wake m => exact overUplink_keeps _ (wakeMessage_keeps (.refl s) m)
  case grant m w d x => exact overUplink_keeps _ (grantMessage_keeps (.refl s) m w d x)
  case ack m sequence => exact overUplink_keeps _ (ackMessage_keeps (.refl s) m sequence)
  case labelsMessage m b ws => exact overUplink_keeps _ (labelsMessage_keeps (.refl s) m b ws)
  case finish m => exact overUplink_keeps _ (finishMessage_keeps (.refl s) m)
  case callTimerExpiry => exact .ite (failSession_keeps (Keeps.refl s).keep)
  case backoffTimerExpiry => exact .ite (placeCall_keeps (.refl s) _)
  case ackTimerExpiry => exact .ite (ackExpires_keeps s)
  case settleTimerExpiry => exact .ite (closeSession_keeps (.refl s))
  case ready a n => exact overLabel_keeps _ (takeReady_keeps (.refl s) n)
  case outcome a n v => exact overLabel_keeps _ (outcomeMessage_keeps (.refl s) a n v)
  case pacingTimerExpiry => exact .ite (deliveries_keeps (Keeps.refl s).keep)
  case outcomeTimeout n =>
    split
    · exact takeOutcome_keeps (.refl s) _ _ _
    · exact .refl s
  case alertTimerExpiry => exact .ite ((Keeps.refl s).keep.trans (alertTest_keeps _))
  case leaseExpiry => exact .ite (Keeps.refl s).keep
  case identify q => exact openCommand_keeps (fun s => .refl s) s
  case read q x i n => exact openCommand_keeps (readTable_keeps q x i n) s
  case readNext q n => exact openCommand_keeps (readOn_keeps q n) s
  case write q x i n bs =>
    split
    · next hrun => exact lockedCommand_keeps (writeRunOf_keeps hrun) s
    · exact openCommand_keeps (fun s => .refl s) s
  case writePorts q i es => exact lockedCommand_keeps (writePortsRun_keeps i es) s
  case writeOfficeStations q i es => exact lockedCommand_keeps (writeOfficeRun_keeps i es) s
  case writeWindow q k i es => exact lockedCommand_keeps (writeWindowRun_keeps k i es) s
  case writeDefaults q k i es => exact lockedCommand_keeps (writeDefaultsRun_keeps k i es) s
  case writeBankIdentity q i es => exact lockedCommand_keeps (writeIdentityRun_keeps i es) s
  case writeUplink q i es => exact lockedCommand_keeps (writeUplinkRun_keeps i es) s
  case writeMeters q i es => exact lockedCommand_keeps (writeMetersRun_keeps i es) s
  case writeThresholds q i es => exact lockedCommand_keeps (writeThresholdsRun_keeps i es) s
  case writeGuest q i es => exact lockedCommand_keeps (writeGuestRun_keeps i es) s
  case writeTills q i es => exact lockedCommand_keeps (writeTillsRun_keeps i es) s
  case writeTracker q i es => exact lockedCommand_keeps (writeTrackerRun_keeps i es) s
  case writePool q i es => exact lockedCommand_keeps (writePoolRun_keeps i es) s
  case writeNight q i es => exact lockedCommand_keeps (writeNightRun_keeps i es) s
  case writeLabel q i es => exact lockedCommand_keeps (writeLabelRun_keeps i es) s
  case writeSchedule q i es => exact lockedCommand_keeps (writeScheduleRun_keeps i es) s
  case writeAlerts q i es => exact lockedCommand_keeps (writeAlertsRun_keeps i es) s
  case writeAgent q i es => exact lockedCommand_keeps (writeAgentRun_keeps i es) s
  case swap q => exact lockedCommand_keeps swapRun_keeps s
  case openPart q => exact lockedCommand_keeps openRun_keeps s
  case closePart q => exact lockedCommand_keeps closeRun_keeps s
  case restart q => exact lockedCommand_keeps restartPart_keeps s
  case setClock q d x => exact lockedCommand_keeps (fun s => clockSet_keeps (.refl s) _ _) s
  case profile q v => exact lockedCommand_keeps (profileRun_keeps v) s
  case labels q v => exact lockedCommand_keeps (labelsRun_keeps v) s
  case guest q v => exact lockedCommand_keeps (guestRun_keeps v) s
  case call q => exact lockedCommand_keeps callRun_keeps s
  case stop q => exact lockedCommand_keeps stopRun_keeps s
  case journalDiscard q => exact lockedCommand_keeps discardRun_keeps s
  case adjustQueues q w => exact lockedCommand_keeps (adjustQueuesRun_keeps w) s
  case bar q a => exact lockedCommand_keeps (barRun_keeps a) s
  case unbar q a => exact lockedCommand_keeps (unbarRun_keeps a) s
  case countersConfigure q ws g => exact lockedCommand_keeps (configureRun_keeps ws g) s
  case countersStart q =>
    obtain ⟨q, form⟩ := q
    have hform : form ≠ 2 := fun hform => hstart q (hform ▸ rfl)
    exact lockedCommand_keeps (fun s => by rw [startRun_refused hform]; exact .refl s) s
  case countersClear q ns => exact absurd rfl (hclear q ns)
  case alertClear q xs => exact lockedCommand_keeps (alertClearRun_keeps xs) s
  case labelClear q => exact lockedCommand_keeps (fun s => (Keeps.refl s).keep) s
  case claim q => exact openCommand_keeps (claimRun_keeps q.party) s
  case release q => exact openCommand_keeps (releaseRun_keeps q.party) s
  case unknownCommand q code => exact openCommand_keeps (fun s => .refl s) s

/-! ## The meter law (R59) -/

theorem meterLaw_reset (a : Station) (pending : List Instr) : MeterLaw (State.resetWith a pending) :=
  ⟨fun i => by cases i <;> exact Nat.le_refl _, nofun⟩

theorem exec_meterLaw (h : exec c s = .next t) (hl : MeterLaw s) : MeterLaw t := by
  by_cases hreset : c = .deviceReset
  · subst hreset
    cases h
    exact (meterLaw_reset s.station s.pending).of_parts rfl rfl rfl
  by_cases hstart : ∃ q, c = .countersStart q
  · obtain ⟨q, rfl⟩ := hstart
    cases h
    exact lockedCommand_law (fun s => startRun_law q.form) hl
  by_cases hclear : ∃ q ns, c = .countersClear q ns
  · obtain ⟨q, ns, rfl⟩ := hclear
    cases h
    exact lockedCommand_law (fun s => clearRun_law ns) hl
  exact (exec_keeps h (fun q hq => hstart ⟨_, hq⟩) (fun q ns hq => hclear ⟨q, ns, hq⟩) hreset).law hl

/-- Settles O6: no operation takes a level over the depth in use, and a change of either lowers the level to it. -/
theorem everyStepKeepsTheMeterLaw : Obligations.EveryStepKeepsTheMeterLaw := by
  intro s t hl h
  unfold step at h
  split at h
  · exact exec_meterLaw h (hl.of_parts rfl rfl rfl)
  · split at h
    · exact exec_meterLaw h hl
    · cases h
      exact hl

end Sys2Proof.Machine

/-! SUPPORT. What an offered event does to the counters, the sample record and the pending set (R171, R173, R175, R176), and
what a comparison does to a pair (R66, R67). -/

namespace Sys2Proof.Machine

/- The proofs below run one after another: run together, their waiting threads outgrow the memory a check may use. -/
set_option Elab.async false

variable {s t : State} {o : Occurrence}

/-! ## What an event does at each counter (R171, R173) -/

/-- R171, R173: the counters with the trigger released where the event overflows counter 1, as counters 2 to 8 meet it. -/
def CounterUnit.opened (u : CounterUnit) (o : Occurrence) : CounterUnit :=
  if u.accepts 0 o && u.overflows 0 o.weight then { u with triggerState := .released } else u

/-- R171: whether counter i takes an event. -/
def CounterUnit.takes (u : CounterUnit) (o : Occurrence) (i : Fin 8) : Bool := (u.opened o).accepts i o

/-- R173: whether an event overflows counter i. -/
def CounterUnit.overflowsAt (u : CounterUnit) (o : Occurrence) (i : Fin 8) : Bool :=
  u.takes o i && u.overflows i o.weight

/-- R173: whether an event's overflow of counter i raises a source. -/
def CounterUnit.raisesAt (u : CounterUnit) (o : Occurrence) (i : Fin 8) : Bool :=
  u.overflowsAt o i && u.alertEnable i

/-- R171, R173: counter i after an event. -/
def CounterUnit.after (u : CounterUnit) (o : Occurrence) (i : Fin 8) : Counter :=
  if u.takes o i then { u.counters[i] with
    value := u.counters[i].value + BitVec.ofNat 32 o.weight
    overflow := u.counters[i].overflow || u.overflows i o.weight }
  else u.counters[i]

theorem opened_eq (u : CounterUnit) (o : Occurrence) :
    u.opened o = { u with triggerState := (u.opened o).triggerState } := by
  unfold CounterUnit.opened
  split <;> rfl

/-- R171: what the acceptance of an event asks of a counter unit. -/
theorem accepts_iff (u : CounterUnit) (i : Fin 8) (o : Occurrence) : u.accepts i o = true ↔
    u.group.globalEnable = true ∧ u.counters[i].run = true ∧ u.frozen = false
      ∧ (i = 0 ∨ u.group.trigger = false ∨ u.triggerState = .released)
      ∧ u.counters[i].selector.accepts o.name = true ∧ u.counters[i].condition.accepts o.origin = true := by
  simp only [CounterUnit.accepts, Bool.and_eq_true, Bool.or_eq_true, Bool.not_eq_true', beq_iff_eq, and_assoc, or_assoc]

/-- R171: acceptance reads the counter itself, the group, the frozen mark and, for counters 2 to 8, the trigger. -/
theorem accepts_congr {u v : CounterUnit} {i : Fin 8} (hgroup : u.group = v.group) (hfrozen : u.frozen = v.frozen)
    (hcounter : u.counters[i] = v.counters[i]) (htrigger : i ≠ 0 → u.triggerState = v.triggerState) :
    u.accepts i o = v.accepts i o := by
  unfold CounterUnit.accepts
  rw [hgroup, hfrozen, hcounter]
  by_cases hi : i = 0
  · subst hi
    rfl
  · rw [htrigger hi]

/-- R171: the trigger is nothing to counter 1. -/
theorem takes_zero (u : CounterUnit) (o : Occurrence) : u.takes o 0 = u.accepts 0 o := by
  unfold CounterUnit.takes
  rw [opened_eq]
  exact accepts_congr rfl rfl rfl fun h => absurd rfl h

theorem opened_trigger (u : CounterUnit) (o : Occurrence) :
    (u.opened o).triggerState = if u.overflowsAt o 0 then .released else u.triggerState := by
  rw [CounterUnit.overflowsAt, takes_zero]
  exact apply_ite CounterUnit.triggerState _ _ _

theorem capture_capture (r : SampleRecord) (x y : Sample) : (r.capture x).capture y = r.capture x := by
  cases r <;> rfl

/-! ## An event after its first counters have considered it -/

/-- A state after the first n counters have considered an event (R169). -/
structure Counted (o : Occurrence) (s : State) (n : Nat) (t : State) : Prop where
  rest : t = { s with counters := t.counters, alerts := { s.alerts with pending := t.alerts.pending } }
  group : t.counters.group = s.counters.group
  frozen : t.counters.frozen = s.counters.frozen
  counter : ∀ j : Fin 8, t.counters.counters[j]
    = if j.val < n then s.counters.after o j else s.counters.counters[j]
  trigger : t.counters.triggerState = if n = 0 then s.counters.triggerState else (s.counters.opened o).triggerState
  pending : ∀ x : Fin 14, t.alerts.pending[x]
    = if ∃ j : Fin 8, j.val < n ∧ s.counters.raisesAt o j = true ∧ alertIndex (counterSource j) = x then some .new
      else s.alerts.pending[x]
  unsampled : (∀ j : Fin 8, j.val < n → s.counters.raisesAt o j = false) → t.counters.sample = s.counters.sample
  sampled : ∀ j : Fin 8, j.val < n → s.counters.raisesAt o j = true → (∀ k < j, s.counters.raisesAt o k = false) →
    t.counters.sample = s.counters.sample.capture (sampleOf o s j)
  held : (∃ x, s.counters.sample = .held x) → t.counters.sample = s.counters.sample

theorem counted_zero (o : Occurrence) (s : State) : Counted o s 0 s where
  rest := rfl
  group := rfl
  frozen := rfl
  counter _ := rfl
  trigger := rfl
  pending _ := (if_neg fun ⟨_, h, _⟩ => absurd h (Nat.not_lt_zero _)).symm
  unsampled _ := rfl
  sampled _ h := absurd h (Nat.not_lt_zero _)
  held _ := rfl

/-- R171: the next counter meets the event as its own and the first counter's state say. -/
theorem Counted.accepts {i : Fin 8} (h : Counted o s i.val t) : t.counters.accepts i o = s.counters.takes o i := by
  unfold CounterUnit.takes
  have hopened := opened_eq s.counters o
  refine accepts_congr (h.group.trans ?_) (h.frozen.trans ?_) ((h.counter i).trans ?_) fun hi => h.trigger.trans ?_
  · rw [hopened]
  · rw [hopened]
  · rw [if_neg (Nat.lt_irrefl _), hopened]
  · exact if_neg fun h0 => hi (Fin.ext h0)

theorem Counted.sampleOf {n : Nat} (h : Counted o s n t) (i : Fin 8) : sampleOf o t i = Machine.sampleOf o s i := by
  rw [h.rest]
  rfl

/-- R171, R173, R175: what the consideration of one counter leaves. -/
theorem countOne_eq (o : Occurrence) (t : State) (i : Fin 8) (h : t.counters.accepts i o = true) : countOne o t i = { t with
    counters := { t.counters.added i o.weight with
      triggerState := if i = 0 ∧ t.counters.overflows i o.weight = true then .released else t.counters.triggerState
      sample := if t.counters.overflows i o.weight && t.counters.alertEnable i then
        t.counters.sample.capture (sampleOf o t i) else t.counters.sample }
    alerts := if t.counters.overflows i o.weight && t.counters.alertEnable i then t.alerts.raise (counterSource i)
      else t.alerts } := by
  unfold countOne
  rw [if_pos h]
  dsimp only
  by_cases hover : t.counters.overflows i o.weight = true
  · simp only [hover, if_true, and_true, Bool.true_and]
    by_cases hi : i = 0
    · simp only [hi, if_true]
      split <;> rfl
    · simp only [hi, if_false]
      split <;> rfl
  · rw [Bool.not_eq_true] at hover
    simp only [hover, Bool.false_and, Bool.false_eq_true, and_false, if_false]
    rfl

theorem added_counter (u : CounterUnit) (i j : Fin 8) (w : Nat) : (u.added i w).counters[j] = if j = i then
    { u.counters[i] with
      value := u.counters[i].value + BitVec.ofNat 32 w
      overflow := u.counters[i].overflow || u.overflows i w }
    else u.counters[j] := by
  unfold CounterUnit.added
  split
  · next h => subst h; exact Vector.getElem_set_self _
  · next h => exact Vector.getElem_set_ne i.isLt j.isLt fun e => h (Fin.ext e.symm)

/-- A counter number below the next one is the last or one before. -/
theorem lt_succ_iff {i j : Fin 8} : j.val < i.val + 1 ↔ j.val < i.val ∨ j = i := by
  rw [Nat.lt_succ_iff_lt_or_eq, Fin.ext_iff]

/-- What the consideration of counter i makes of one state, in the words of the state at the offering. -/
structure Considered (o : Occurrence) (s : State) (i : Fin 8) (t u : State) : Prop where
  rest : u = { t with counters := u.counters, alerts := u.alerts }
  group : u.counters.group = t.counters.group
  frozen : u.counters.frozen = t.counters.frozen
  counter : ∀ j : Fin 8, u.counters.counters[j] = if j = i then s.counters.after o i else t.counters.counters[j]
  trigger : u.counters.triggerState
    = if i = 0 ∧ s.counters.overflowsAt o i = true then .released else t.counters.triggerState
  sample : u.counters.sample
    = if s.counters.raisesAt o i then t.counters.sample.capture (sampleOf o s i) else t.counters.sample
  alerts : u.alerts = if s.counters.raisesAt o i then t.alerts.raise (counterSource i) else t.alerts

theorem Counted.considered {i : Fin 8} (h : Counted o s i.val t) : Considered o s i t (countOne o t i) := by
  have hcounter : t.counters.counters[i] = s.counters.counters[i] := (h.counter i).trans (if_neg (Nat.lt_irrefl _))
  have hover : t.counters.overflows i o.weight = s.counters.overflows i o.weight := by
    simp only [CounterUnit.overflows, hcounter]
  have henable : t.counters.alertEnable i = s.counters.alertEnable i := by simp only [CounterUnit.alertEnable, h.group]
  cases htakes : s.counters.takes o i
  case false =>
    have hsame : countOne o t i = t := if_neg (by rw [h.accepts, htakes]; exact Bool.false_ne_true)
    have hnot : s.counters.overflowsAt o i = false := by rw [CounterUnit.overflowsAt, htakes]; rfl
    have hraises : s.counters.raisesAt o i = false := by rw [CounterUnit.raisesAt, hnot]; rfl
    rw [hsame]
    refine ⟨rfl, rfl, rfl, fun j => ?counter, ?trigger, ?sample, ?alerts⟩
    case counter =>
      split
      · next hj => rw [hj, hcounter, CounterUnit.after, htakes]; rfl
      · rfl
    case trigger => rw [hnot]; exact (if_neg fun h => Bool.false_ne_true h.2).symm
    case sample => rw [hraises]; rfl
    case alerts => rw [hraises]; rfl
  case true =>
    have hat : s.counters.overflowsAt o i = s.counters.overflows i o.weight := by
      rw [CounterUnit.overflowsAt, htakes, Bool.true_and]
    have hraises : s.counters.raisesAt o i = (s.counters.overflows i o.weight && s.counters.alertEnable i) := by
      rw [CounterUnit.raisesAt, hat]
    rw [countOne_eq o t i (h.accepts.trans htakes), hover, henable, h.sampleOf]
    refine ⟨rfl, rfl, rfl, fun j => ?counter, ?trigger, ?sample, ?alerts⟩
    case counter =>
      refine (added_counter t.counters i j o.weight).trans (if_congr Iff.rfl ?_ rfl)
      rw [CounterUnit.after, htakes, hcounter, hover]
      rfl
    case trigger => rw [hat]
    case sample => rw [hraises]
    case alerts => rw [hraises]

theorem raise_pending (a : AlertUnit) (y : AlertSource) (x : Fin 14) :
    (a.raise y).pending[x] = if alertIndex y = x then some .new else a.pending[x] :=
  (Vector.getElem_set (alertIndex y).isLt x.isLt).trans (if_congr Fin.ext_iff.symm rfl rfl)

theorem Considered.pending {i : Fin 8} {u : State} (h : Considered o s i t u) (x : Fin 14) : u.alerts.pending[x] =
    if s.counters.raisesAt o i = true ∧ alertIndex (counterSource i) = x then some .new else t.alerts.pending[x] := by
  rw [h.alerts, ite_and]
  split
  · exact raise_pending _ _ _
  · rfl

/-- R169: the consideration of the next counter. -/
theorem Counted.step {i : Fin 8} (h : Counted o s i.val t) : Counted o s (i.val + 1) (countOne o t i) := by
  have hc := h.considered
  generalize countOne o t i = u at hc
  refine ⟨?rest, hc.group.trans h.group, hc.frozen.trans h.frozen, fun j => ?counter, ?trigger, fun x => ?pending,
    fun hnone => ?unsampled, fun j hj hraises hfirst => ?sampled, fun hheld => ?held⟩
  case rest =>
    have halerts : u.alerts = { t.alerts with pending := u.alerts.pending } := by
      rw [hc.alerts]
      split <;> rfl
    have hu : u = { t with counters := u.counters, alerts := { t.alerts with pending := u.alerts.pending } } := by
      rw [← halerts]
      exact hc.rest
    exact hu.trans (congrArg (fun v : State =>
      { v with counters := u.counters, alerts := { v.alerts with pending := u.alerts.pending } }) h.rest)
  case counter =>
    rw [hc.counter, h.counter]
    by_cases hj : j = i
    · rw [if_pos hj, if_pos (lt_succ_iff.2 (.inr hj)), hj]
    · rw [if_neg hj]
      exact if_congr (lt_succ_iff.trans (or_iff_left hj)).symm rfl rfl
  case trigger =>
    rw [hc.trigger, h.trigger, if_neg (Nat.succ_ne_zero _)]
    by_cases hi : i = 0
    · simp only [hi, true_and, opened_trigger, Fin.val_zero, if_true]
    · exact (if_neg fun h => hi h.1).trans (if_neg fun h => hi (Fin.ext h))
  case pending =>
    rw [hc.pending, h.pending]
    by_cases hraises : s.counters.raisesAt o i = true ∧ alertIndex (counterSource i) = x
    · rw [if_pos hraises, if_pos ⟨i, Nat.lt_succ_self _, hraises⟩]
    · rw [if_neg hraises]
      refine if_congr (exists_congr fun j => ?_) rfl rfl
      rw [lt_succ_iff, or_and_right]
      refine (or_iff_left ?_).symm
      rintro ⟨rfl, hj⟩
      exact hraises hj
  case unsampled =>
    rw [hc.sample, hnone i (Nat.lt_succ_self _)]
    exact h.unsampled fun j hj => hnone j (Nat.lt_succ_of_lt hj)
  case sampled =>
    rcases lt_succ_iff.1 hj with hlt | rfl
    · rw [hc.sample, h.sampled j hlt hraises hfirst, capture_capture, ite_self]
    · rw [hc.sample, hraises, h.unsampled fun k hk => hfirst k hk]
      rfl
  case held =>
    rw [hc.sample, h.held hheld]
    obtain ⟨x, hx⟩ := hheld
    rw [hx]
    exact ite_self _

/-- R169: the counters consider an event in counter number order, each once. -/
theorem countEvent_counted (o : Occurrence) (s : State) : Counted o s 8 (countEvent o s) := by
  have hprefix (n : Nat) (hn : n ≤ 8) : Counted o s n (((List.finRange 8).take n).foldl (countOne o) s) := by
    induction n with
    | zero => exact counted_zero o s
    | succ n ih =>
      have hlt : n < (List.finRange 8).length := by rw [List.length_finRange]; exact hn
      rw [List.take_add_one, List.getElem?_eq_getElem hlt, List.getElem_finRange, List.foldl_append]
      exact (ih (Nat.le_of_succ_le hn)).step (i := ⟨n, hn⟩)
  exact hprefix 8 (Nat.le_refl 8)

/-! ## The event in the words of the statement (R170, R171, R173) -/

theorem Selector.accepts_iff (sel : Selector) (n : EventName) :
    sel.accepts n = true ↔ sel = .any n.kind ∨ sel = .exactly n := by
  cases sel <;> simp [Selector.accepts]

theorem Condition.accepts_iff (c : Condition) (x : Origin) : c.accepts x = true ↔ c = .always
    ∨ (x.windowIndex ≠ none ∧ c = .markedOnly ∧ x.mark = true)
    ∨ (x.windowIndex ≠ none ∧ c = .unmarkedOnly ∧ x.mark = false) := by
  cases c <;> simp [Condition.accepts, Option.isSome_iff_ne_none]

/-- R171: when a counter takes an event. -/
theorem takes_iff (u : CounterUnit) (o : Occurrence) (i : Fin 8) : u.takes o i = true ↔
    u.group.globalEnable = true ∧ u.counters[i].run = true ∧ u.frozen = false
      ∧ (i = 0 ∨ u.group.trigger = false ∨ u.triggerState = .released ∨ u.overflowsAt o 0 = true)
      ∧ (u.counters[i].selector = .any o.name.kind ∨ u.counters[i].selector = .exactly o.name)
      ∧ (u.counters[i].condition = .always
        ∨ (o.origin.windowIndex ≠ none ∧ u.counters[i].condition = .markedOnly ∧ o.origin.mark = true)
        ∨ (o.origin.windowIndex ≠ none ∧ u.counters[i].condition = .unmarkedOnly ∧ o.origin.mark = false)) := by
  have htrigger : (u.opened o).triggerState = .released ↔ u.triggerState = .released ∨ u.overflowsAt o 0 = true := by
    rw [opened_trigger]
    cases u.overflowsAt o 0 <;> simp
  rw [CounterUnit.takes, accepts_iff, htrigger, Selector.accepts_iff, Condition.accepts_iff, opened_eq]

theorem overflowsAt_iff (u : CounterUnit) (o : Occurrence) (i : Fin 8) : u.overflowsAt o i = true ↔
    u.takes o i = true ∧ u.counters[i].overflow = false ∧ 2 ^ 31 ≤ u.counters[i].value.toNat + o.weight := by
  simp only [CounterUnit.overflowsAt, CounterUnit.overflows, Bool.and_eq_true, Bool.not_eq_true', decide_eq_true_eq]

theorem raisesAt_iff (u : CounterUnit) (o : Occurrence) (i : Fin 8) : u.raisesAt o i = true ↔
    u.overflowsAt o i = true ∧ (if i = 0 then u.group.alertEnable1 else u.group.alertEnable28) = true := by
  rw [CounterUnit.raisesAt, Bool.and_eq_true, CounterUnit.alertEnable]

theorem after_overflow (u : CounterUnit) (o : Occurrence) (i : Fin 8) :
    (u.after o i).overflow = true ↔ u.counters[i].overflow = true ∨ u.overflowsAt o i = true := by
  unfold CounterUnit.after CounterUnit.overflowsAt
  cases u.takes o i <;> simp

/-- R176: what an event raises is pending as new, under Counter-1 or Counter-2-8. -/
theorem Counted.pending_new (h : Counted o s 8 t) {i : Fin 8} (hi : s.counters.raisesAt o i = true) {y : AlertSource}
    (hy : counterSource i = y) : t.alerts.pending[alertIndex y] = some .new :=
  (h.pending _).trans (if_pos ⟨i, i.isLt, hi, congrArg alertIndex hy⟩)

/-- R176: what an event does not raise stays as it was. -/
theorem Counted.pending_kept (h : Counted o s 8 t) {x : Fin 14}
    (hfirst : x ≠ alertIndex .counter1 ∨ s.counters.raisesAt o 0 = false)
    (hrest : x ≠ alertIndex .counter28 ∨ ∀ i, i ≠ 0 → s.counters.raisesAt o i = false) :
    t.alerts.pending[x] = s.alerts.pending[x] := by
  refine (h.pending x).trans (if_neg ?_)
  rintro ⟨i, -, hraises, hx⟩
  by_cases hi : i = 0
  · subst hi
    rcases hfirst with hne | hnot
    · exact hne hx.symm
    · exact Bool.false_ne_true (hnot.symm.trans hraises)
  · rw [counterSource, if_neg hi] at hx
    rcases hrest with hne | hnot
    · exact hne hx.symm
    · exact Bool.false_ne_true ((hnot i hi).symm.trans hraises)

/-- R175: an empty or reported sample record captures. -/
theorem capture_of_not_held {r : SampleRecord} (h : ∀ x, r ≠ .held x) (x : Sample) : r.capture x = .held x := by
  cases r with
  | empty => rfl
  | held y => exact absurd rfl (h y)
  | reported y => rfl

/-! ## A comparison (R66, R67) -/

theorem raise_of_no_destination (h : s.alerts.destination = none) (x : AlertSource) :
    raise x s = { s with alerts := s.alerts.raise x } := alertTest_of_no_destination h

/-- R67: the alert unit after the firings of a pair at a value, low before high. -/
def AlertUnit.fired (a : AlertUnit) (i : PairId) (p : ThresholdPair) (v : Nat) : AlertUnit :=
  let b := if lowFires p.low v then a.raise (pairSources i).1 else a
  if highFires p.high v then b.raise (pairSources i).2 else b

theorem raiseIf_of_no_destination (h : s.alerts.destination = none) (fires : Bool) (x : AlertSource) :
    (if fires then raise x s else s) = { s with alerts := if fires then s.alerts.raise x else s.alerts } := by
  cases fires
  · rfl
  · exact raise_of_no_destination h x

theorem comparePair_of_no_destination (h : s.alerts.destination = none) (i : PairId) : comparePair i s = { s with
    thresholds := s.thresholds.set i ((s.thresholds.get i).compared (s.watched i))
    alerts := s.alerts.fired i (s.thresholds.get i) (s.watched i) } := by
  have hlow := raiseIf_of_no_destination
    (s := { s with thresholds := s.thresholds.set i ((s.thresholds.get i).compared (s.watched i)) }) h
    (lowFires (s.thresholds.get i).low (s.watched i)) (pairSources i).1
  unfold comparePair
  dsimp only
  rw [hlow]
  refine raiseIf_of_no_destination ?_ _ _
  dsimp only
  split <;> exact h

theorem lowFires_iff (x : Threshold) (v : Nat) : lowFires x v = true ↔
    x.enabled = true ∧ x.armed = true ∧ v < x.value ∧ (x.resultValid = false ∨ x.last = .above) := by
  simp [lowFires, lowResult, and_assoc]

theorem highFires_iff (x : Threshold) (v : Nat) : highFires x v = true ↔
    x.enabled = true ∧ x.armed = true ∧ x.value < v ∧ (x.resultValid = false ∨ x.last = .below) := by
  simp [highFires, highResult, and_assoc]

/-- R67: a threshold that is disabled or disarmed takes no comparison. -/
theorem compared_idle {x : Threshold} (h : x.enabled = false ∨ x.armed = false) (r : ThresholdResult) (fires : Bool) :
    x.compared r fires = x := if_neg (by rcases h with h | h <;> simp [h])

/-- R67: an enabled and armed threshold takes the result, and a firing disarms it. -/
theorem compared_armed {x : Threshold} (he : x.enabled = true) (ha : x.armed = true) (r : ThresholdResult)
    (fires : Bool) : x.compared r fires = { x with resultValid := true, last := r, armed := !fires } :=
  if_pos (by rw [he, ha]; rfl)

theorem fired_pending (a : AlertUnit) (i : PairId) (p : ThresholdPair) (v : Nat) (x : Fin 14) :
    (a.fired i p v).pending[x] = if highFires p.high v = true ∧ alertIndex (pairSources i).2 = x
        ∨ lowFires p.low v = true ∧ alertIndex (pairSources i).1 = x then some .new else a.pending[x] := by
  unfold AlertUnit.fired
  dsimp only
  cases highFires p.high v <;> cases lowFires p.low v <;>
    simp only [Bool.false_eq_true, if_true, if_false, raise_pending, true_and, false_and, or_false, false_or]
  split <;> simp [*]

/-! ## The obligation -/

/-- R171, R174: counters that are frozen keep their values and overflow flags. -/
theorem frozen_counters_keep {c : Instr} (hfrozen : s.counters.frozen = true) (h : exec c s = .next t)
    (hstart : ∀ q, c ≠ .countersStart ⟨q, 2⟩) (hclear : ∀ q ns, c ≠ .countersClear q ns) (hreset : c ≠ .deviceReset) :
    t.counters.frozen = true ∧ ∀ i : Fin 8, t.counters.counters[i].value = s.counters.counters[i].value
      ∧ t.counters.counters[i].overflow = s.counters.counters[i].overflow := by
  obtain ⟨hkept, htally⟩ := (exec_keeps h hstart hclear hreset).freeze hfrozen
  refine ⟨hkept, fun i => ?_⟩
  have hi := congrArg (fun v : Vector (BitVec 32 × Bool) 8 => v[i.val]) htally
  simp only [CounterUnit.tally, Vector.getElem_map, Prod.mk.injEq] at hi
  exact hi

/-- Settles O14: frozen counters are kept by every command (`exec_keeps`), an offering is counted counter by counter
(`countEvent_counted`), and a comparison is the pair's and what it fires. -/
theorem eventsAreCountedAndPairsCompared : Obligations.EventsAreCountedAndPairsCompared := by
  refine ⟨fun c s t hfrozen h hstart hclear hreset => frozen_counters_keep hfrozen h hstart hclear hreset,
    fun o takes overflows raises s hd hoverflows htakes hraises => ?event,
    fun i low high before value fires s hd hvalue hlow hhigh => ?comparison⟩
  case event =>
    have hover {i : Fin 8} (h : takes i ↔ s.counters.takes o i = true) :
        overflows i ↔ s.counters.overflowsAt o i = true := by rw [hoverflows, h, overflowsAt_iff]
    have hzero : takes 0 ↔ s.counters.takes o 0 = true := by rw [htakes, takes_iff]; simp only [true_or]
    have htake (i : Fin 8) : takes i ↔ s.counters.takes o i = true := by rw [htakes, takes_iff, hover hzero]
    have hraise (i : Fin 8) : raises i ↔ s.counters.raisesAt o i = true := by
      rw [hraises, raisesAt_iff, hover (htake i)]
    have hcounted := countEvent_counted o s
    have hstill := countEvent_still o s
    have hafter (i : Fin 8) : (countEvent o s).counters.counters[i] = s.counters.after o i :=
      (hcounted.counter i).trans (if_pos i.isLt)
    have htrigger : (countEvent o s).counters.triggerState = (s.counters.opened o).triggerState := hcounted.trigger
    refine ⟨_, offer_of_no_destination hd o, hstill, egress_of_core (countEvent_core o s),
      uplink_of_core (countEvent_core o s), hcounted.group, hcounted.frozen, fun i hi => ?taken, fun i => ?overflow,
      fun i hi => ?untaken, fun h => ?released, fun h => ?waiting, fun h => ?counter1, fun ⟨i, hi, h⟩ => ?counter28,
      fun x h1 h28 => ?pending, fun i hi hfirst hheld => ?sampled, fun h => ?unsampled⟩
    case taken =>
      rw [hafter, CounterUnit.after, if_pos ((htake i).1 hi)]
    case overflow => rw [hafter, after_overflow, hover (htake i)]
    case untaken => rw [hafter, CounterUnit.after, if_neg fun h => hi ((htake i).2 h)]
    case released => rw [htrigger, opened_trigger, if_pos ((hover hzero).1 h)]
    case waiting => rw [htrigger, opened_trigger, if_neg fun h0 => h ((hover hzero).2 h0)]
    case counter1 => exact hcounted.pending_new ((hraise 0).1 h) rfl
    case counter28 => exact hcounted.pending_new ((hraise i).1 h) (if_neg hi)
    case pending =>
      simp only [hraise, Bool.not_eq_true] at h1 h28
      exact hcounted.pending_kept h1 h28
    case sampled =>
      rw [hcounted.sampled i i.isLt ((hraise i).1 hi) fun k hk => Bool.not_eq_true _ ▸ mt (hraise k).2 (hfirst k hk)]
      exact capture_of_not_held hheld _
    case unsampled =>
      rcases h with hnone | hheld
      · exact hcounted.unsampled fun j _ => Bool.not_eq_true _ ▸ mt (hraise j).2 (hnone j)
      · exact hcounted.held hheld
  case comparison =>
    obtain ⟨hsources, hwatched⟩ : pairSources i = (low, high) ∧ s.watched i = value := by
      cases i <;> cases hvalue <;> exact ⟨rfl, rfl⟩
    refine ⟨fun h => if_pos (hwatched.trans h), fun hne => ?_⟩
    have hcompared : compareChanged i before s = comparePair i s := if_neg (hwatched ▸ hne)
    have hfalse (x : Threshold) : fires false x ↔ lowFires x value = true := by rw [hlow, lowFires_iff]
    have htrue (x : Threshold) : fires true x ↔ highFires x value = true := by rw [hhigh, highFires_iff]
    subst hwatched
    have heq := comparePair_of_no_destination hd i
    have hpending (x : Fin 14) : (comparePair i s).alerts.pending[x]
        = if highFires (s.thresholds.get i).high (s.watched i) = true ∧ alertIndex high = x
            ∨ lowFires (s.thresholds.get i).low (s.watched i) = true ∧ alertIndex low = x then some .new
          else s.alerts.pending[x] := by
      rw [heq]
      refine (fired_pending _ _ _ _ x).trans ?_
      rw [hsources]
    rw [hcompared]
    refine ⟨_, (s.thresholds.get i).compared (s.watched i), rfl, comparePair_still i s,
      egress_of_core (comparePair_core hd i), uplink_of_core (comparePair_core hd i),
      (congrArg State.counters heq).trans rfl, fun x y hxy hidle => ?idle, fun he ha => ?low,
      fun he ha => ?high, fun h => ?lowRaised, fun h => ?highRaised, fun x hl hh => ?pending⟩
    case idle =>
      simp only [List.mem_cons, Prod.mk.injEq, List.not_mem_nil, or_false] at hxy
      rcases hxy with ⟨rfl, rfl⟩ | ⟨rfl, rfl⟩
      · exact compared_idle hidle _ _
      · exact compared_idle hidle _ _
    case low =>
      rw [hfalse, ThresholdPair.compared, compared_armed he ha]
      exact ⟨rfl, iff_of_eq (Bool.not_eq_false' _)⟩
    case high =>
      rw [htrue, ThresholdPair.compared, compared_armed he ha]
      exact ⟨rfl, iff_of_eq (Bool.not_eq_false' _)⟩
    case lowRaised => exact (hpending _).trans (if_pos (.inr ⟨(hfalse _).1 h, rfl⟩))
    case highRaised => exact (hpending _).trans (if_pos (.inl ⟨(htrue _).1 h, rfl⟩))
    case pending =>
      rw [hfalse] at hl
      rw [htrue] at hh
      refine (hpending x).trans (if_neg ?_)
      rintro (⟨hf, hx⟩ | ⟨hf, hx⟩)
      · exact hh.elim (fun hne => hne hx.symm) fun hnot => hnot hf
      · exact hl.elim (fun hne => hne hx.symm) fun hnot => hnot hf

end Sys2Proof.Machine

/-! SUPPORT. The commands of the lock's holder that set a level (R63, R79, R155, R164, R166), empty what they name (R116,
R152, R176) or replace the limits of the uplink queues (R52). -/

namespace Sys2Proof.Machine

/- The proofs below run one after another: run together, their waiting threads outgrow the memory a check may use. -/
set_option Elab.async false

variable {s t : State} {q : Requester} {i : Instr} {code : Nat}

/-! ## The command event of the lock's holder (R183, R189) -/

/-- R183, R189: what a lock-requiring command's run gives in one part is answered with the lease renewed. -/
theorem lockedCommand_answers {run : State → CmdResult} {u : State} {status : Status} {fields : Bytes}
    (hlock : s.holds q.party = true) (hrun : run (takeRequest i s) = ⟨u, status, [fields]⟩) :
    (.next (lockedCommand q i code run s) : Host.Outcome State Fault Refusal)
      = .next (answerTo q code status fields (renewLease u)) := by
  rw [lockedCommand_of_holds q i code run s hlock, hrun]
  rfl

@[simp] theorem takeRequest_levels (i : Instr) (s : State) : (takeRequest i s).levels = s.levels :=
  takeRequest_keeps State.levels (fun _ _ => rfl) i s
@[simp] theorem takeRequest_meters (i : Instr) (s : State) : (takeRequest i s).meters = s.meters :=
  takeRequest_keeps State.meters (fun _ _ => rfl) i s
@[simp] theorem takeRequest_journal (i : Instr) (s : State) : (takeRequest i s).journal = s.journal :=
  takeRequest_keeps State.journal (fun _ _ => rfl) i s
@[simp] theorem takeRequest_egress (i : Instr) (s : State) : (takeRequest i s).egress = s.egress :=
  takeRequest_keeps State.egress (fun _ _ => rfl) i s
@[simp] theorem takeRequest_thresholds (i : Instr) (s : State) : (takeRequest i s).thresholds = s.thresholds :=
  takeRequest_keeps State.thresholds (fun _ _ => rfl) i s
@[simp] theorem takeRequest_tills (i : Instr) (s : State) : (takeRequest i s).tills = s.tills :=
  takeRequest_keeps State.tills (fun _ _ => rfl) i s
@[simp] theorem takeRequest_ports (i : Instr) (s : State) : (takeRequest i s).ports = s.ports :=
  takeRequest_keeps State.ports (fun _ _ => rfl) i s
@[simp] theorem takeRequest_schedule (i : Instr) (s : State) : (takeRequest i s).schedule = s.schedule :=
  takeRequest_keeps State.schedule (fun _ _ => rfl) i s

/-! ## A change of profile (R63, R166) -/

theorem setMeter_core_of (hd : s.alerts.destination = none) (h : s.core = t.core) (i : Meter) (m : ShareMeter) :
    (s.setMeter i m).core = t.core ∧ (s.setMeter i m).alerts.destination = none :=
  ⟨(setMeter_core hd i m).trans h, (setMeter_destination s i m).trans hd⟩

/-- R63: without an alert destination a change of profile sends nothing. -/
theorem switchProfile_core (hd : s.alerts.destination = none) (old new : DayNight) :
    (switchProfile old new s).core = s.core := by
  obtain ⟨hguest, hd⟩ := setMeter_core_of hd rfl .guest _
  obtain ⟨hoffice, hd⟩ := setMeter_core_of hd hguest .office _
  exact (setMeter_core_of hd hoffice .transfer _).1

/-- R164: the state with the profile level setting at a value and an origin. -/
def State.withProfile (s : State) (v : DayNight) (o : LevelOrigin) : State :=
  { s with levels := { s.levels with profile := ⟨v, o⟩ } }

theorem setProfile_same {v : DayNight} (h : s.levels.profile.value = v) (o : LevelOrigin) :
    setProfile v o s = s.withProfile v o := if_pos h

theorem setProfile_changed {v : DayNight} (h : s.levels.profile.value ≠ v) (o : LevelOrigin) :
    setProfile v o s = switchProfile s.levels.profile.value v (s.withProfile v o) := if_neg h

theorem profileRun_refused {v : Byte} (h : 1 < v.toNat) (s : State) : profileRun v s = refused .badValue s := by
  unfold profileRun
  split
  · omega
  · omega
  · rfl

/-- R63, R164: what a change of the profile level setting does. -/
theorem setProfile_changes {v : DayNight} (h : s.levels.profile.value ≠ v) (o : LevelOrigin) :
    (setProfile v o s).quiet = ({ s.withProfile v o with meters := (setProfile v o s).meters } : State).quiet
      ∧ (s.alerts.destination = none → (setProfile v o s).egress = s.egress ∧ (setProfile v o s).uplink = s.uplink)
      ∧ ∀ m, (setProfile v o s).meters.get m = s.switchedMeter s.levels.profile.value v m := by
  have hquiet := switchProfile_quiet s.levels.profile.value v (s.withProfile v o)
  have hmeters : (switchProfile s.levels.profile.value v (s.withProfile v o)).meters
      = (s.withProfile v o).switchedMeters s.levels.profile.value v := (quiet_meters hquiet).trans rfl
  rw [setProfile_changed h]
  refine ⟨?_, fun hd => ?_, fun m => ?_⟩
  · rw [hmeters]
    exact hquiet
  · have hcore := switchProfile_core (s := s.withProfile v o) hd s.levels.profile.value v
    exact ⟨egress_of_core hcore, uplink_of_core hcore⟩
  · rw [hmeters, switchedMeters_get]
    rfl

/-- R63: a share meter after a change of profile, its level written out. -/
theorem switchedMeter_eq (s : State) (old new : DayNight) (i : Meter) : s.switchedMeter old new i = { s.meters.get i with
    lastTick := s.tick
    level := min (min ((s.meters.get i).profile old).depth ((s.meters.get i).level
      + ((s.meters.get i).profile old).rate * min 65535 (s.tick - (s.meters.get i).lastTick).toNat))
      ((s.meters.get i).profile new).depth } := rfl

/-! ## The label window and the guest state (R79, R155, R166) -/

theorem gateOf_none {v : Byte} (h : 1 < v.toNat) : gateOf v = none := by
  unfold gateOf
  split
  · omega
  · omega
  · rfl

/-- R164: the state with the label window at a value and an origin. -/
def State.withLabelWindow (s : State) (v : Gate) (o : LevelOrigin) : State :=
  { s with levels := { s.levels with labelWindow := ⟨v, o⟩ } }

/-- R155: only an opening of the label window is an event at the engine. -/
theorem setLabelWindow_kept {v : Gate} (h : v = .closed ∨ s.levels.labelWindow.value = .opened) (o : LevelOrigin) :
    setLabelWindow v o s = s.withLabelWindow v o := by
  refine if_neg fun ⟨hne, hv⟩ => ?_
  rcases h with rfl | h
  · cases hv
  · exact hne (h.trans hv.symm)

theorem setLabelWindow_opened (h : s.levels.labelWindow.value = .closed) (o : LevelOrigin) :
    setLabelWindow .opened o s = deliveries (s.withLabelWindow .opened o) := if_pos ⟨by rw [h]; nofun, rfl⟩

/-- R79: only a closing of the guest state empties the guest table and the GUEST hold queue. -/
theorem setGuestState_eq (v : Gate) (o : LevelOrigin) (s : State) : setGuestState v o s = { s with
    levels := { s.levels with guestState := ⟨v, o⟩ }
    guest := if s.levels.guestState.value = .opened ∧ v = .closed then { s.guest with table := [] } else s.guest
    meters := if s.levels.guestState.value = .opened ∧ v = .closed then
        { s.meters with guest := { s.meters.guest with hold := [] } } else s.meters } := by
  have hcloses : (s.levels.guestState.value ≠ v ∧ v = .closed)
      ↔ (s.levels.guestState.value = .opened ∧ v = .closed) := by
    cases s.levels.guestState.value <;> cases v <;> decide
  unfold setGuestState
  dsimp only
  simp only [hcloses]
  split <;> rfl

/-- Settles O56: each command sets its own level, and what follows is the meters' change of profile, the delivery events and
the emptied guest table. -/
theorem levelCommandsSetTheirSetting : Obligations.LevelCommandsSetTheirSetting := by
  refine ⟨deliveries_delivers, fun q v s hlock => ⟨fun hv => ⟨?badProfile, ?badLabels, ?badGuest⟩,
    fun value hv => ⟨setProfile value .command (takeRequest (.profile q v) s), ?profile, fun hsame => ?same,
      fun hne => ?changed⟩,
    fun value hv => ?gates⟩⟩
  case badProfile => exact lockedCommand_answers hlock (profileRun_refused hv _)
  case badLabels => exact lockedCommand_answers hlock (by rw [labelsRun, gateOf_none hv]; rfl)
  case badGuest => exact lockedCommand_answers hlock (by rw [guestRun, gateOf_none hv]; rfl)
  case profile =>
    refine lockedCommand_answers hlock ?_
    subst hv
    cases value <;> rfl
  case same =>
    rw [setProfile_same (by rw [takeRequest_levels, hsame]), State.withProfile, takeRequest_levels]
  case changed =>
    obtain ⟨hquiet, hcore, hmeters⟩ :=
      setProfile_changes (s := takeRequest (.profile q v) s) (v := value) (by rwa [takeRequest_levels]) .command
    rw [takeRequest_alerts, takeRequest_egress, takeRequest_uplink] at hcore
    rw [State.withProfile, takeRequest_levels] at hquiet
    refine ⟨hquiet, hcore, fun m old new hold hnew => ?_⟩
    rw [hmeters, switchedMeter_eq, takeRequest_levels, takeRequest_meters, takeRequest_tick, hold, hnew]
    cases value <;> rfl
  case gates =>
    have hgate : gateOf v = some value := by
      subst hv
      cases value <;> rfl
    refine ⟨fun hkept => lockedCommand_answers hlock ?kept, fun hopened hclosed =>
      ⟨deliveries ((takeRequest (.labels q v) s).withLabelWindow .opened .command), lockedCommand_answers hlock ?opening,
        ?delivers⟩, lockedCommand_answers hlock ?guest⟩
    case kept =>
      rw [labelsRun, hgate, ← takeRequest_levels (.labels q v) s]
      exact congrArg done (setLabelWindow_kept (by rwa [takeRequest_levels]) _)
    case opening =>
      rw [labelsRun, hgate, hopened]
      exact congrArg done (setLabelWindow_opened (by rwa [takeRequest_levels]) _)
    case delivers =>
      rw [State.withLabelWindow, takeRequest_levels, hopened]
      exact deliveries_delivers _
    case guest =>
      rw [guestRun, hgate]
      dsimp only
      rw [setGuestState_eq, takeRequest_levels, takeRequest_guest, takeRequest_meters]
      rfl

/-! ## JOURNAL DISCARD, LABEL CLEAR, ALERT CLEAR (R116, R152, R176) -/

theorem discardRun_taken (h : s.night.state = .idle ∨ s.night.state = .failed) : discardRun s
    = doneWith (num32 s.journal.records.length ++ num32 s.pool.journalHeld) (discardJournal s) := if_pos h

/-- R111, R116: the journal's blocks freed all at once. -/
theorem freeJournal_all (p : Pool) : p.freeJournal p.journalHeld
    = { p with free := p.free + p.journalHeld, journalHeld := 0 } := by rw [Pool.freeJournal, Nat.sub_self]

/-- R198: the codes with a meaning. -/
theorem alertSourceOf_eq_none (c : Byte) : alertSourceOf c = none ↔ c = 0 ∨ 14 < c.toNat := by
  have hpos : c = 0 ↔ c.toNat = 0 := BitVec.toNat_eq.trans (by rfl)
  have hlength : alertSources.length = 14 := rfl
  unfold alertSourceOf
  split
  · next h => exact iff_of_true rfl (.inl h)
  · next h =>
    rw [hpos] at h ⊢
    rw [List.getElem?_eq_none_iff, hlength]
    omega

/-- A code's place among the pending marks (R198). -/
theorem any_code_iff (codes : List Byte) (i : Fin 14) :
    (codes.any fun c => c.toNat == i.val + 1) = true ↔ BitVec.ofNat 8 (i.val + 1) ∈ codes := by
  have hcode (c : Byte) : c.toNat = i.val + 1 ↔ c = BitVec.ofNat 8 (i.val + 1) := by
    have hi := i.isLt
    rw [BitVec.toNat_eq, BitVec.toNat_ofNat, Nat.mod_eq_of_lt (by omega)]
  simp only [List.any_eq_true, beq_iff_eq, hcode, exists_eq_right]

theorem alertClearRun_taken {codes : List Byte} (hne : codes ≠ []) (h : ∀ c ∈ codes, 1 ≤ c.toNat ∧ c.toNat ≤ 14)
    (s : State) : alertClearRun codes s = done { s with alerts := s.alerts.without codes } := by
  refine if_neg ?_
  rw [Bool.or_eq_true, List.isEmpty_iff, List.any_eq_true]
  rintro (hnil | ⟨c, hc, hnone⟩)
  · exact hne hnil
  · rcases (alertSourceOf_eq_none c).1 (Option.isNone_iff_eq_none.1 hnone) with rfl | hlarge
    · exact absurd (h 0 hc).1 (by decide)
    · exact absurd (h c hc).2 (Nat.not_le.2 hlarge)

theorem alertClearRun_refused {codes : List Byte} {c : Byte} (hc : c ∈ codes) (h : c = 0 ∨ 14 < c.toNat) (s : State) :
    alertClearRun codes s = refused .badValue s := by
  refine if_pos ?_
  rw [Bool.or_eq_true, List.any_eq_true]
  exact .inr ⟨c, hc, Option.isNone_iff_eq_none.2 ((alertSourceOf_eq_none c).2 h)⟩

/-- Settles O57: each clear is one change of the block it names. -/
theorem discardsAndClears : Obligations.DiscardsAndClears := by
  intro q s hlock
  refine ⟨fun hstate => ⟨discardJournal (takeRequest (.journalDiscard q) s), ?discarded, ?quiet, ?compared⟩,
    fun hidle hfailed => ?busy, ?labels, fun codes marks hne hmarks => ⟨fun hcodes => ?cleared, fun c hc h => ?badValue⟩⟩
  case discarded =>
    refine lockedCommand_answers hlock ?_
    rw [discardRun_taken (by rwa [takeRequest_night]), takeRequest_journal, takeRequest_pool]
    rfl
  case quiet =>
    rw [discardJournal, compareChanged_quiet, takeRequest_journal, takeRequest_pool, freeJournal_all]
  case compared =>
    rw [discardJournal, takeRequest_journal, takeRequest_pool, freeJournal_all]
  case busy =>
    refine lockedCommand_answers hlock (if_neg ?_)
    rw [takeRequest_night]
    exact fun h => h.elim hidle hfailed
  case labels =>
    refine lockedCommand_answers hlock ?_
    rw [labelClearRun, takeRequest_label]
    rfl
  case cleared =>
    have hwithout : s.alerts.without codes = { s.alerts with pending := marks } := by
      rw [AlertUnit.without]
      congr
      refine Vector.ext fun j hj => ?_
      rw [Vector.getElem_ofFn]
      exact (if_congr (any_code_iff codes ⟨j, hj⟩) rfl rfl).trans (hmarks ⟨j, hj⟩).symm
    refine lockedCommand_answers hlock ?_
    rw [alertClearRun_taken hne hcodes, takeRequest_alerts, hwithout]
    rfl
  case badValue => exact lockedCommand_answers hlock (alertClearRun_refused hc h _)

/-! ## ADJUST QUEUES (R52) -/

theorem asleep_limits (h : t.asleep = s.asleep) : t.uplink.limits = s.uplink.limits :=
  show t.asleep.uplink.limits = s.asleep.uplink.limits by rw [h]

/-- Settles O60: the four clamped limits are tested together, and replaced together before the night engine's sends. -/
theorem adjustQueuesReplacesTheLimits : Obligations.AdjustQueuesReplacesTheLimits := by
  intro q w held limits s hlock hheld hlimits
  have hlimitsOf : limitsOf w = limits := by
    simp only [limitsOf, clamp_eq_max_min (show 1 ≤ 256 by decide), hlimits, hheld]
  have hsum : limitsSum (limitsOf w) = held w.urgent + held w.transfer + held w.office + held w.guest := by
    rw [hlimitsOf, hlimits, limitsSum]
  have hclamped : okUnless (limitsClamped w) = if held w.urgent ≠ w.urgent.toNat ∨ held w.transfer ≠ w.transfer.toNat
      ∨ held w.office ≠ w.office.toNat ∨ held w.guest ≠ w.guest.toNat then .adjusted else .ok := by
    rw [okUnless, limitsClamped, hlimitsOf, hlimits]
    simp only [Bool.or_eq_true, bne_iff_ne, or_assoc]
  refine ⟨fun hover => lockedCommand_answers hlock (if_pos (hsum ▸ hover)), fun hle =>
    ⟨nightFollow { takeRequest (.adjustQueues q w) s with uplink := { s.uplink with limits := limits } }, ?answer,
      ?limits, nightFollow_asleep _, fun hstate => nightFollow_of_not_draining ?still⟩⟩
  case answer =>
    refine lockedCommand_answers hlock ?_
    rw [adjustQueuesRun, if_neg (by omega), takeRequest_uplink, doneClamped, hclamped, hlimitsOf]
  case limits => exact asleep_limits (nightFollow_asleep _)
  case still => rwa [takeRequest_night]

end Sys2Proof.Machine

/-! SUPPORT. The writes of METERS, THRESHOLDS, TILLS and SCHEDULE (R58, R63, R66, R83, R84, R162). -/

namespace Sys2Proof.Machine

/- The proofs below run one after another: run together, their waiting threads outgrow the memory a check may use. -/
set_option Elab.async false

variable {s : State} {first : BitVec 32}

/-! ## Writes within the indices of a table (R187, R196) -/

theorem indexFault_inside {low high place count : Nat} (hlow : low ≤ place) (hhigh : place ≤ high)
    (hlast : place + count ≤ high + 1) : indexFault low high place count = none := by
  unfold indexFault
  rw [if_neg (by omega), if_neg (by omega)]

section
variable {α : Type} {high : Nat} {take : State → CmdResult}

theorem writeMany_one (w : α) (h : first.toNat ≤ high) (s : State) : writeMany 0 high first [w] take s = take s := by
  unfold writeMany
  rw [List.length_singleton, indexFault_inside (Nat.zero_le _) h (by omega)]
  rfl

theorem writeNamed_inside {low : Nat} {es : List α} (hes : es ≠ []) (hlow : low ≤ first.toNat)
    (hlast : first.toNat + es.length ≤ high + 1) (fault : Option Nat) (s : State) :
    writeNamed low high first es fault take s = match fault with
      | some k => refusedAt .badValue (first.toNat + k) s
      | none => take s := by
  have hpos : 0 < es.length := List.length_pos_iff.2 hes
  unfold writeNamed
  rw [indexFault_inside hlow (by omega) hlast]
  dsimp only
  rw [List.isEmpty_eq_false_iff.2 hes]
  cases fault <;> rfl

/-- One entry written to a list's place goes to what stands there. -/
theorem zip_drop_singleton {β : Type} {l : List α} {n : Nat} {x : α} (h : l[n]? = some x) (y : β) :
    (l.drop n).zip [y] = [(x, y)] := by
  obtain ⟨hlt, rfl⟩ := List.getElem?_eq_some_iff.1 h
  rw [List.drop_eq_getElem_cons hlt, List.zip_cons_cons, List.zip_nil_right]

end

/-! ## METERS (R58, R63) -/

theorem meterAction_of_mem {b : Byte} {x : MeterAction} (h : (b, x) ∈ [(0, MeterAction.drop), (1, .defer)]) :
    meterActions[b.toNat]? = some x := by
  simp only [List.mem_cons, Prod.mk.injEq, List.not_mem_nil, or_false] at h
  rcases h with ⟨rfl, rfl⟩ | ⟨rfl, rfl⟩ <;> rfl

theorem profileOf_eq_some {w : ProfileWrite} {action : MeterAction} (h : meterActions[w.action.toNat]? = some action) :
    profileOf w = some ⟨min 131071 w.rate.toNat, max 1536 (min 1048576 w.depth.toNat), action⟩ := by
  rw [profileOf, h, clamp_eq_max_min (Nat.zero_le _), clamp_eq_max_min (by decide), Nat.zero_max]
  rfl

theorem profileOf_eq_none {w : ProfileWrite} (h : 2 ≤ w.action.toNat) : profileOf w = none := by
  rw [profileOf, List.getElem?_eq_none h]
  rfl

/-- R58: a written profile is adjusted when its rate or depth was held to an end of its range. -/
theorem profileAdjusted_eq {w : ProfileWrite} {p : Profile} (h : profileOf w = some p) :
    profileAdjusted w = decide (¬ (p.rate = w.rate.toNat ∧ p.depth = w.depth.toNat)) := by
  cases haction : meterActions[w.action.toNat]? with
  | none => simp [profileOf, haction] at h
  | some action =>
    obtain rfl : _ = p := by simpa [profileOf, haction] using h
    rw [profileAdjusted, bne_eq_decide_ne, bne_eq_decide_ne, ← Bool.decide_or]
    exact decide_eq_decide.2 not_and_or.symm

theorem profilesOf_eq_some {w : MeterWrite} {day night : Profile} (hday : profileOf w.day = some day)
    (hnight : profileOf w.night = some night) : profilesOf w = some (day, night) := by
  rw [profilesOf, hday, hnight]
  rfl

theorem profilesOf_eq_none {w : MeterWrite} (h : profileOf w.day = none ∨ profileOf w.night = none) :
    profilesOf w = none := by
  unfold profilesOf
  rcases h with h | h
  · rw [h]
    rfl
  · rw [h]
    cases profileOf w.day <;> rfl

theorem transferDrops_eq_true (i : Meter) (p : Profile × Profile) :
    transferDrops i p = true ↔ i = .transfer ∧ (p.1.action = .drop ∨ p.2.action = .drop) := by
  simp [transferDrops]

/-- R58: the answer to an accepted METERS entry. -/
theorem okUnless_profilesAdjusted {w : MeterWrite} {day night : Profile} (hday : profileOf w.day = some day)
    (hnight : profileOf w.night = some night) : okUnless (profileAdjusted w.day || profileAdjusted w.night)
      = if day.rate = w.day.rate.toNat ∧ day.depth = w.day.depth.toNat ∧ night.rate = w.night.rate.toNat
          ∧ night.depth = w.night.depth.toNat then .ok else .adjusted := by
  rw [profileAdjusted_eq hday, profileAdjusted_eq hnight]
  simp only [okUnless, Bool.or_eq_true, decide_eq_true_eq, ← not_and_or, ite_not, and_assoc]

theorem writeMetersRun_one {w : MeterWrite} {i : Meter} {p : Profile × Profile}
    (hi : meterList[first.toNat]? = some i) (hp : profilesOf w = some p) (s : State) : writeMetersRun first [w] s
      = if transferDrops i p then refused .badValue s
        else doneClamped (profileAdjusted w.day || profileAdjusted w.night) (writeMeter s (i, p)) := by
  obtain ⟨hlt, -⟩ := List.getElem?_eq_some_iff.1 hi
  have hfirst : first.toNat ≤ 2 := Nat.lt_succ_iff.1 hlt
  have htargets : (meterList.drop first.toNat).zip ([w].filterMap profilesOf) = [(i, p)] := by
    rw [List.filterMap_cons_some hp]
    exact zip_drop_singleton hi p
  rw [writeMetersRun, writeMany_one w hfirst]
  simp only [htargets]
  simp [hp]

/-- R58: an entry with an action without meaning is refused. -/
theorem writeMetersRun_meaningless {w : MeterWrite} (hfirst : first.toNat < 3) (hw : profilesOf w = none) (s : State) :
    writeMetersRun first [w] s = refused .badValue s := by
  rw [writeMetersRun, writeMany_one w (Nat.lt_succ_iff.1 hfirst)]
  simp [hw]

/-- R63: what new profiles make of a share meter, its profile in use given before and after. -/
theorem ShareMeter.rewritten_eq {m : ShareMeter} {inUse : DayNight} {day night old new : Profile}
    (hold : m.profile inUse = old) (hnew : ({ m with day := day, night := night } : ShareMeter).profile inUse = new)
    (now : Tick) : m.rewritten inUse now (day, night)
      = if old.rate = new.rate ∧ old.depth = new.depth then { m with day := day, night := night }
        else { m with
          day := day, night := night, lastTick := now
          level := min (min old.depth (m.level + old.rate * min 65535 (now - m.lastTick).toNat)) new.depth } := by
  subst hold hnew
  rfl

/-! ## THRESHOLDS (R66) -/

theorem Threshold.written_eq (t : Threshold) (range : Nat) (w : ThresholdWrite) : t.written range w = {
    value := min range w.value.toNat, enabled := w.enabled, armed := w.arm || t.armed
    resultValid := !w.arm && t.resultValid, last := t.last } := by
  rw [Threshold.written, clamp_eq_max_min (Nat.zero_le _), Nat.zero_max, Bool.or_comm, Bool.and_comm]

theorem writeThresholdsRun_one {i : PairId} (hi : pairList[first.toNat]? = some i) (w : PairWrite) (s : State) :
    writeThresholdsRun first [w] s
      = doneClamped (pairClamped (i, w)) { s with thresholds := writePair s.thresholds (i, w) } := by
  obtain ⟨hlt, -⟩ := List.getElem?_eq_some_iff.1 hi
  have hfirst : first.toNat ≤ 4 := Nat.lt_succ_iff.1 hlt
  rw [writeThresholdsRun, writeMany_one w hfirst]
  simp only [zip_drop_singleton hi w]
  simp

/-! ## TILLS (R83, R84) -/

theorem tillEntryOf_eq (w : TillWrite) : tillEntryOf w
    = ⟨w.enabled, w.station, w.address, max 1 (min 4 w.openLimit.toNat), w.holdOver, w.lastAccepted⟩ := by
  rw [tillEntryOf, clamp_eq_max_min (by decide)]

/-- R83: a written entry is adjusted when its open limit lies outside 1 to 4. -/
theorem openLimit_clamped (w : TillWrite) : (clamp 1 4 w.openLimit.toNat != w.openLimit.toNat)
    = decide (w.openLimit.toNat = 0 ∨ 4 < w.openLimit.toNat) := by
  rw [clamp_eq_max_min (by decide), bne_eq_decide_ne]
  exact decide_eq_decide.2 (by omega)

theorem tillFault_eq_true (s : State) (v : Vector TillEntry 32) (i : Fin 32) : tillFault s v i = true
    ↔ v[i].enabled = true ∧ ((v[i].address = 0 ∨ v[i].address = 0xFFFFFFFF ∨ s.isGateway .till v[i].address = true)
      ∨ ∃ j : Fin 32, i ≠ j ∧ v[j].enabled = true
          ∧ (v[j].station = v[i].station ∨ v[j].address = v[i].address)) := by
  simp [tillFault, tillAddressBad, or_assoc, and_assoc]

/-- R83: an entry whose address a till may hold, and that shares nothing with another enabled entry, is not at fault. -/
theorem tillFault_eq_false {v : Vector TillEntry 32} {i : Fin 32} (h : v[i].enabled = true →
    v[i].address ≠ 0 ∧ v[i].address ≠ 0xFFFFFFFF ∧ v[i].address ≠ s.ports.gateways.till
      ∧ ∀ j : Fin 32, j ≠ i → v[j].enabled = true → v[j].station ≠ v[i].station ∧ v[j].address ≠ v[i].address) :
    tillFault s v i = false := by
  refine Bool.eq_false_iff.2 fun hbad => ?_
  obtain ⟨hen, hbad⟩ := (tillFault_eq_true _ _ _).1 hbad
  obtain ⟨hzero, hones, hgateway, hothers⟩ := h hen
  rcases hbad with (h0 | h1 | hg) | ⟨j, hne, hjen, hst | had⟩
  · exact hzero h0
  · exact hones h1
  · exact hgateway ((isGateway_iff _ _ _).1 hg).2.symm
  · exact (hothers j hne.symm hjen).1 hst
  · exact (hothers j hne.symm hjen).2 had

/-- R83: the till table with the entries written in their places, the others as they were. -/
theorem eq_tillsWritten {ws : List TillWrite} {tills : Vector TillEntry 32} (hlow : 1 ≤ first.toNat)
    (hkept : ∀ i : Fin 32, ¬ (first.toNat ≤ i.val + 1 ∧ i.val + 1 < first.toNat + ws.length) → tills[i] = s.tills[i])
    (hentry : ∀ i : Fin 32, first.toNat ≤ i.val + 1 ∧ i.val + 1 < first.toNat + ws.length → ∀ w,
      ws[i.val + 1 - first.toNat]? = some w → tills[i]
        = ⟨w.enabled, w.station, w.address, max 1 (min 4 w.openLimit.toNat), w.holdOver, w.lastAccepted⟩) :
    tills = tillsWritten s first ws := by
  refine eq_writeRun fun i => ?_
  rw [List.length_map]
  split
  next hin =>
    have hplace : i.val + 1 - first.toNat < ws.length := by omega
    have hsame : i.val - (first.toNat - 1) = i.val + 1 - first.toNat := by omega
    rw [hentry i (by omega) _ (List.getElem?_eq_getElem hplace), List.getD_eq_getElem?_getD, List.getElem?_map, hsame,
      List.getElem?_eq_getElem hplace, Option.map_some, Option.getD_some, tillEntryOf_eq]
  next hout => exact hkept i (by omega)

/-- R83: the written entries are accepted exactly when none of them is at fault. -/
theorem tillsFault_eq_none (s : State) (v : Vector TillEntry 32) (place count : Nat) :
    tillsFault s v place count = none
      ↔ ∀ i : Fin 32, place ≤ i.val ∧ i.val < place + count → tillFault s v i = false := by
  simp only [tillsFault, Option.map_eq_none_iff, List.find?_eq_none, List.mem_finRange, true_implies, Bool.and_eq_true,
    decide_eq_true_eq, not_and, Bool.not_eq_true]

/-- R83, R84: what an accepted write of TILLS leaves. -/
theorem writeTillsRun_accepted {ws : List TillWrite} (hws : ws ≠ []) (hlow : 1 ≤ first.toNat)
    (hlast : first.toNat + ws.length ≤ 33) (s : State)
    (hfault : tillsFault s (tillsWritten s first ws) (first.toNat - 1) ws.length = none) : writeTillsRun first ws s
      = doneClamped (ws.any fun w => decide (w.openLimit.toNat = 0 ∨ 4 < w.openLimit.toNat)) { s with
          tills := tillsWritten s first ws
          tracker := s.tracker.freeTills fun t =>
            decide (first.toNat - 1 ≤ t.val ∧ t.val < first.toNat - 1 + ws.length) } := by
  rw [writeTillsRun, writeNamed_inside hws hlow hlast, hfault]
  simp only [openLimit_clamped]

theorem writeTillsRun_refused {ws : List TillWrite} (hws : ws ≠ []) (hlow : 1 ≤ first.toNat)
    (hlast : first.toNat + ws.length ≤ 33) (s : State) {k : Nat}
    (hfault : tillsFault s (tillsWritten s first ws) (first.toNat - 1) ws.length = some k) :
    writeTillsRun first ws s = refusedAt .badValue (first.toNat + k) s := by
  rw [writeTillsRun, writeNamed_inside hws hlow hlast, hfault]

theorem freeTills_some {k : Tracker} {j : Fin 64} {r : OpenRequest} (written : Fin 32 → Bool)
    (h : k.slots[j] = some r) : (k.freeTills written).slots[j] = if written r.till then none else some r := by
  simp only [Fin.getElem_fin] at h ⊢
  simp [Tracker.freeTills, h]

theorem freeTills_none {k : Tracker} {j : Fin 64} (written : Fin 32 → Bool) (h : k.slots[j] = none) :
    (k.freeTills written).slots[j] = none := by
  simp only [Fin.getElem_fin] at h ⊢
  simp [Tracker.freeTills, h]

/-! ## SCHEDULE (R162) -/

theorem scheduleEntryOf_eq_some {w : ScheduleWrite} {action : ScheduleAction}
    (h : scheduleActions[w.action.toNat]? = some action) :
    scheduleEntryOf w = some ⟨w.enabled, min 86399 w.second.toNat, action⟩ := by
  rw [scheduleEntryOf, h, clamp_eq_max_min (Nat.zero_le _), Nat.zero_max]
  rfl

theorem scheduleEntryOf_eq_none {w : ScheduleWrite} (h : 7 ≤ w.action.toNat) : scheduleEntryOf w = none := by
  rw [scheduleEntryOf, List.getElem?_eq_none h]
  rfl

theorem writeScheduleRun_one {w : ScheduleWrite} {i : Fin 16} {e : ScheduleEntry} (hi : first.toNat = i.val)
    (he : scheduleEntryOf w = some e) (s : State) : writeScheduleRun first [w] s
      = doneClamped (decide (86399 < w.second.toNat)) { s with schedule := s.schedule.set i e } := by
  have hfirst : first.toNat ≤ 15 := by omega
  rw [writeScheduleRun, writeMany_one w hfirst]
  simp only [List.filterMap_cons_some he, List.filterMap_nil, hi, writeRun_singleton]
  simp [he]

theorem writeScheduleRun_meaningless {w : ScheduleWrite} (hfirst : first.toNat ≤ 15) (he : scheduleEntryOf w = none)
    (s : State) : writeScheduleRun first [w] s = refused .badValue s := by
  rw [writeScheduleRun, writeMany_one w hfirst]
  simp [he]

/-! ## The obligation -/

/-- Settles O51: each write by the run of its table. -/
theorem indexedWritesReplaceTheirEntries : Obligations.IndexedWritesReplaceTheirEntries := by
  intro q first s hlock
  refine ⟨fun m w dayAction nightAction day night old new held hm hheld hd hn hday hnight hold hnew => ?meter,
    fun w hfirst h => ?meaningless, fun i w top written hi htop hwritten => ?thresholds,
    fun ws tills isWritten hws hlow hlast hW htills => ?tills, fun i w hi => ⟨fun action haction => ?schedule,
      fun haction => ?noAction⟩⟩
  case meter =>
    have hdayOf : profileOf w.day = some day := by
      rw [hday, hheld, profileOf_eq_some (meterAction_of_mem hd)]
    have hnightOf : profileOf w.night = some night := by
      rw [hnight, hheld, profileOf_eq_some (meterAction_of_mem hn)]
    have hmeter : meterList[first.toNat]? = some m := by
      subst hm
      cases m <;> rfl
    have hrun := writeMetersRun_one hmeter (profilesOf_eq_some hdayOf hnightOf) (takeRequest (.writeMeters q first [w]) s)
    have hdrops : transferDrops m (day, night) = true
        ↔ m = .transfer ∧ (dayAction = .drop ∨ nightAction = .drop) := by
      rw [transferDrops_eq_true, hday, hnight, hheld, hheld]
    refine ⟨fun htaken => ⟨writeMeter (takeRequest (.writeMeters q first [w]) s) (m, (day, night)),
      lockedCommand_answers hlock ?taken, ?left⟩, fun htransfer hdrop => lockedCommand_answers hlock ?dropped⟩
    case taken =>
      have hkept : ¬ (m = .transfer ∧ (dayAction = .drop ∨ nightAction = .drop)) := fun ⟨htransfer, hdrop⟩ => by
        obtain ⟨rfl, rfl⟩ := htaken.resolve_left fun hne => hne htransfer
        simp at hdrop
      rw [hrun, if_neg (hkept ∘ hdrops.1), ← okUnless_profilesAdjusted hdayOf hnightOf]
      rfl
    case left =>
      have hafter : ({ s.meters.get m with day := day, night := night } : ShareMeter).profile s.levels.profile.value
          = new := by
        rw [hnew]
        cases s.levels.profile.value <;> rfl
      rw [writeMeter, setMeter_quiet, takeRequest_meters, ← ShareMeter.rewritten_eq hold.symm hafter]
      simp only [takeRequest_levels, takeRequest_tick]
    case dropped => rw [hrun, if_pos (hdrops.2 ⟨htransfer, hdrop⟩), refused]
  case meaningless =>
    exact lockedCommand_answers hlock (writeMetersRun_meaningless hfirst
      (profilesOf_eq_none (h.imp profileOf_eq_none profileOf_eq_none)) _)
  case thresholds =>
    have hpair : pairList[first.toNat]? = some i := by
      rw [hi]
      cases i <;> rfl
    have hrange : pairRange i = top := by
      subst htop
      cases i <;> rfl
    refine lockedCommand_answers hlock ?_
    rw [writeThresholdsRun_one hpair, writePair, Threshold.written_eq, Threshold.written_eq, takeRequest_thresholds,
      hwritten, hwritten]
    simp only [doneClamped, okUnless, pairClamped, hrange, Bool.or_eq_true, decide_eq_true_eq]
  case tills =>
    have heq : tills = tillsWritten (takeRequest (.writeTills q first ws) s) first ws :=
      eq_tillsWritten hlow (fun i hout => by rw [takeRequest_tills]; exact (htills i).1 fun hi => hout ((hW i).1 hi))
        fun i hin w => (htills i).2 w ((hW i).2 hin)
    have hplaces : ∀ i : Fin 32, isWritten i ↔ first.toNat - 1 ≤ i.val ∧ i.val < first.toNat - 1 + ws.length :=
      fun i => (hW i).trans (by omega)
    refine ⟨fun hgood => ?accepted, fun i j hi hen hne hjen hsame => ?refused⟩
    case accepted =>
      have hfault : tillsFault (takeRequest (.writeTills q first ws) s)
          (tillsWritten (takeRequest (.writeTills q first ws) s) first ws) (first.toNat - 1) ws.length = none := by
        rw [← heq]
        refine (tillsFault_eq_none _ _ _ _).2 fun i hi => tillFault_eq_false fun hen => ?_
        rw [takeRequest_ports]
        exact hgood i ((hplaces i).2 hi) hen
      have hrun := writeTillsRun_accepted hws hlow hlast _ hfault
      rw [← heq] at hrun
      refine ⟨_, lockedCommand_answers hlock hrun, ?rest, fun j => ⟨fun r hr => ?freed, fun hnone => ?free⟩⟩
      case rest =>
        rw [takeRequest_tracker]
        rfl
      case freed =>
        rw [freeTills_some _ (by rwa [takeRequest_tracker])]
        exact ⟨fun hw => if_pos (decide_eq_true ((hplaces _).1 hw)),
          fun hw => if_neg fun h => hw ((hplaces _).2 (of_decide_eq_true h))⟩
      case free => exact freeTills_none _ (by rwa [takeRequest_tracker])
    case refused =>
      have hfault : tillsFault (takeRequest (.writeTills q first ws) s)
          (tillsWritten (takeRequest (.writeTills q first ws) s) first ws) (first.toNat - 1) ws.length ≠ none := by
        rw [← heq]
        intro hnone
        have hi := (tillsFault_eq_none _ _ _ _).1 hnone i ((hplaces i).1 hi)
        exact Bool.eq_false_iff.1 hi ((tillFault_eq_true _ _ _).2 ⟨hen, .inr ⟨j, hne.symm, hjen, hsame⟩⟩)
      obtain ⟨k, hk⟩ := Option.ne_none_iff_exists'.1 hfault
      exact ⟨_, lockedCommand_answers hlock (writeTillsRun_refused hws hlow hlast _ hk)⟩
  case schedule =>
    refine lockedCommand_answers hlock ?_
    rw [writeScheduleRun_one hi (scheduleEntryOf_eq_some haction), takeRequest_schedule]
    simp only [doneClamped, okUnless, decide_eq_true_eq]
  case noAction =>
    exact lockedCommand_answers hlock (writeScheduleRun_meaningless (by omega) (scheduleEntryOf_eq_none haction) _)

end Sys2Proof.Machine

/-! SUPPORT. What every operation makes of the guest table (R70): it may drop, reorder or recharge guests, but only the
source check of a frame received on GUEST brings in a station or a network address that no entry held. Here the
relation, and the shared operations and engines. -/

namespace Sys2Proof.Machine

/- The proofs below run one after another: run together, their waiting threads outgrow the memory a check may use. -/
set_option Elab.async false

variable {s t u : State}

/-! ## The relation -/

/-- What the guest law compares of an entry: its station and its network address (R70). -/
def GuestEntry.key (e : GuestEntry) : Station × NetAddr := (e.station, e.address)

/-- No entry of the guest table is new: its keys are among the keys held before, each as often at most. -/
structure NoNewGuest (s t : State) : Prop where
  keys : (t.guest.table.map GuestEntry.key).Subperm (s.guest.table.map GuestEntry.key)

/-- R70: the guest law speaks of the keys alone. -/
theorem guestLaw_iff : GuestLaw s ↔ (s.guest.table.map GuestEntry.key).length ≤ 128
    ∧ ((s.guest.table.map GuestEntry.key).map Prod.fst).Nodup
    ∧ ((s.guest.table.map GuestEntry.key).map Prod.snd).Nodup := by
  simp only [GuestLaw, List.length_map, List.map_map, Function.comp_def, GuestEntry.key]

/-- A part of the key that no two entries shared, none share where no guest is new. -/
theorem NoNewGuest.nodup_map {α : Type} (h : NoNewGuest s t) {f : Station × NetAddr → α}
    (hs : ((s.guest.table.map GuestEntry.key).map f).Nodup) : ((t.guest.table.map GuestEntry.key).map f).Nodup :=
  let ⟨_, hperm, hsub⟩ := h.keys
  (hperm.map f).nodup_iff.1 (hs.sublist (hsub.map f))

/-- R70: the guest law goes on where no guest is new. -/
theorem GuestLaw.of_noNewGuest (hl : GuestLaw s) (h : NoNewGuest s t) : GuestLaw t := by
  obtain ⟨hlength, hstations, haddresses⟩ := guestLaw_iff.1 hl
  exact guestLaw_iff.2 ⟨h.keys.length_le.trans hlength, h.nodup_map hstations, h.nodup_map haddresses⟩

theorem NoNewGuest.refl (s : State) : NoNewGuest s s := ⟨.refl _⟩

theorem NoNewGuest.trans (h : NoNewGuest s t) (h' : NoNewGuest t u) : NoNewGuest s u :=
  ⟨h'.keys.trans h.keys⟩

/-- The relation goes on through what leaves the guest unit as it was. -/
theorem NoNewGuest.keep (h : NoNewGuest s t) (e : u.guest = t.guest := by rfl) : NoNewGuest s u :=
  ⟨by rw [e]; exact h.keys⟩

theorem NoNewGuest.still (h : NoNewGuest s t) (e : u.still = t.still) : NoNewGuest s u := h.keep (still_guest e)

theorem NoNewGuest.quiet (h : NoNewGuest s t) (e : u.quiet = t.quiet) : NoNewGuest s u := h.keep (quiet_guest e)

theorem NoNewGuest.asleep (h : NoNewGuest s t) (e : u.asleep = t.asleep) : NoNewGuest s u :=
  h.keep (show u.asleep.guest = t.asleep.guest from congrArg State.guest e)

/-- An operation that is taken only under a condition. -/
theorem NoNewGuest.ite {p : Prop} [Decidable p] (h : NoNewGuest s t) : NoNewGuest s (if p then t else s) := by
  split
  · exact h
  · exact .refl s

theorem foldl_noNewGuest {α : Type} {f : State → α → State} (hf : ∀ s a, NoNewGuest s (f s a)) (l : List α)
    (h : NoNewGuest s t) : NoNewGuest s (l.foldl f t) := by
  induction l generalizing t with
  | nil => exact h
  | cons a l ih => exact ih (h.trans (hf t a))

/-! ## The guest table -/

/-- The entries may change but for their keys. -/
theorem NoNewGuest.of_map {f : GuestEntry → GuestEntry} (ht : t.guest.table = s.guest.table.map f)
    (hf : ∀ e, (f e).key = e.key) : NoNewGuest s t :=
  ⟨by simp only [ht, List.map_map, Function.comp_def, hf]; exact .refl _⟩

/-- Entries may leave the table. -/
theorem NoNewGuest.of_sublist (h : t.guest.table.Sublist s.guest.table) : NoNewGuest s t := ⟨(h.map _).subperm⟩

theorem withGuest_noNewGuest (h : NoNewGuest s t) (a : Station) {f : GuestEntry → GuestEntry}
    (hf : ∀ e, (f e).key = e.key) : NoNewGuest s (t.withGuest a f) := by
  refine h.trans (.of_map rfl fun e => ?_)
  split
  · exact hf e
  · rfl

theorem without_sublist (table : List GuestEntry) (a : Station) : (without table a).Sublist table := List.filter_sublist

/-- An entry may go to the head of the table, changed but for its key: it leaves its place. -/
theorem toHead_noNewGuest {e x : GuestEntry} (he : e ∈ s.guest.table) (hx : x.key = e.key) :
    NoNewGuest s (s.withTable (x :: without s.guest.table e.station)) := by
  obtain ⟨before, after, htable⟩ := List.append_of_mem he
  have hrest : (without s.guest.table e.station).Sublist (before ++ after) := by
    unfold without
    rw [htable, List.filter_append, List.filter_cons_of_neg (by simp)]
    exact List.filter_sublist.append List.filter_sublist
  have hkeys := ((hrest.cons_cons e).map GuestEntry.key).subperm.trans
    ((List.perm_middle (l₁ := before) (a := e) (l₂ := after)).symm.map GuestEntry.key).subperm
  rw [← htable, List.map_cons, ← hx] at hkeys
  exact ⟨hkeys⟩

/-! ## Meters (R58 to R64, R75 to R77) -/

theorem presentMeter_noNewGuest (h : NoNewGuest s t) (i : Meter) (q : UplinkQueue) (f : Frame) :
    NoNewGuest s (presentMeter i q f t) :=
  let ⟨_, hm⟩ := presentMeter_quiet i q f t
  h.keep.quiet hm

/-- R77: released frames charge the station meters of their guests. -/
theorem releaseOne_noNewGuest (i : Meter) (s : State) (x : HeldFrame) : NoNewGuest s (releaseOne i s x) := by
  refine NoNewGuest.still (t := if i = .guest then chargeStation x.frame s else s) (.ite ?_) (presentUplink_still _ _ _)
  unfold chargeStation
  split
  · exact .refl s
  · exact withGuest_noNewGuest (.refl s) _ fun _ => rfl

theorem releaseMeter_noNewGuest (h : NoNewGuest s t) (i : Meter) : NoNewGuest s (releaseMeter i t) := by
  unfold releaseMeter
  split
  · exact h
  · exact foldl_noNewGuest (releaseOne_noNewGuest i) _ (h.keep (setMeter_guest _ _ _))

/-- R75: the joint test changes the station's own meter alone. -/
theorem jointTest_noNewGuest (h : NoNewGuest s t) (a : Station) (f : Frame) : NoNewGuest s (jointTest a f t) := by
  obtain ⟨g, hg, hguest⟩ := jointTest_ownMeterOnly a f t
  refine (withGuest_noNewGuest h a fun e => ?_).keep hguest
  obtain ⟨_, _, -, he⟩ := hg e
  rw [he]
  rfl

theorem setProfile_noNewGuest (h : NoNewGuest s t) (v : DayNight) (o : LevelOrigin) :
    NoNewGuest s (setProfile v o t) := by
  unfold setProfile
  dsimp only
  split
  · exact h.keep
  · exact h.keep.quiet (switchProfile_quiet _ _ _)

/-! ## Forwarding and the request tracker (R28 to R30, R87 to R95) -/

theorem deliverForwarded_noNewGuest (h : NoNewGuest s t) (p : Passage) (copy : LookupCopy) (f : Frame) :
    NoNewGuest s (deliverForwarded p copy f t) := by
  unfold deliverForwarded
  split
  case h_5 =>
    split
    · exact jointTest_noNewGuest h _ _
    · exact presentMeter_noNewGuest h _ _ _
    · exact h.still (presentUplink_still _ _ _)
  all_goals exact h.still (presentEgress_still _ _ _)

theorem forwardFrame_noNewGuest (h : NoNewGuest s t) (p : Passage) (copy : LookupCopy) :
    NoNewGuest s (forwardFrame p copy t) := by
  unfold forwardFrame
  dsimp only
  split
  · exact h.still (drop_still _ _ _)
  · split
    · exact h.still (drop_still _ _ _)
    · exact deliverForwarded_noNewGuest h _ _ _

theorem trackNew_noNewGuest (h : NoNewGuest s t) (p : Passage) (copy : LookupCopy) (n : Fin 32) (tag : BitVec 32) :
    NoNewGuest s (trackNew p copy n tag t) := by
  unfold trackNew
  dsimp only
  split
  · exact h.still (offer_still _ _)
  · split
    · exact (h.still (offer_still _ _)).still (sendTracked_still _ _ _)
    · exact (h.keep.still (offer_still _ _)).still (sendTracked_still _ _ _)

theorem trackKeyed_noNewGuest (h : NoNewGuest s t) (p : Passage) (copy : LookupCopy) (n : Fin 32) :
    NoNewGuest s (trackKeyed p copy n t) := by
  unfold trackKeyed
  dsimp only
  split
  · split
    · exact h.keep.still (sendTracked_still _ _ _)
    · exact trackNew_noNewGuest h _ _ _ _
  · exact trackNew_noNewGuest h _ _ _ _

/-- R87: each test of a Track frame drops it, and the last lets it through. -/
theorem trackFrame_noNewGuest (h : NoNewGuest s t) (p : Passage) (copy : LookupCopy) :
    NoNewGuest s (trackFrame p copy t) := by
  unfold trackFrame
  dsimp only
  repeat' split
  case h_2.isFalse.isFalse => exact trackKeyed_noNewGuest h _ _ _
  all_goals exact h.still (drop_still _ _ _)

theorem replyFrame_noNewGuest (h : NoNewGuest s t) (p : Passage) (i : Fin 64) (r : OpenRequest) :
    NoNewGuest s (replyFrame p i r t) := by
  have hfreed (o : Occurrence) : NoNewGuest s ((if r.state = .heldOver then offer o t else t).setSlot i none) := by
    split
    · exact (h.still (offer_still _ _)).keep
    · exact h.keep
  unfold replyFrame
  dsimp only
  split
  · exact h.still (drop_still _ _ _)
  · split
    · exact (hfreed _).still (drop_still _ _ _)
    · exact (hfreed _).still (presentEgress_still _ _ _)

theorem heldOverAfter_noNewGuest (h : NoNewGuest s t) (i : Fin 64) (r : OpenRequest) :
    NoNewGuest s (heldOverAfter i r t) := by
  unfold heldOverAfter
  split
  · exact h.keep.still (offer_still _ _)
  · exact h.keep

theorem expireWaiting_noNewGuest (i : Fin 64) (r : OpenRequest) (s : State) : NoNewGuest s (expireWaiting i r s) := by
  have same : NoNewGuest s s := .refl s
  unfold expireWaiting
  split
  · exact heldOverAfter_noNewGuest
      ((same.still (originate_still _ (presentEgress_still .till) s)).still (offer_still _ _)) i r
  · exact same.keep.still (offer_still _ _)

theorem expireHeldOver_noNewGuest (i : Fin 64) (r : OpenRequest) (s : State) : NoNewGuest s (expireHeldOver i r s) :=
  (NoNewGuest.refl s).keep.still (offer_still _ _)

/-! ## The night engine (R121 to R140) -/

theorem nightFollow_noNewGuest (h : NoNewGuest s t) : NoNewGuest s (nightFollow t) := h.asleep (nightFollow_asleep t)

theorem failSession_noNewGuest (h : NoNewGuest s t) : NoNewGuest s (failSession t) := by
  unfold failSession
  split
  · exact h.keep
  · exact h.keep.still (raise_still _ _)

theorem placeCall_noNewGuest (h : NoNewGuest s t) (n : Nat) : NoNewGuest s (placeCall n t) :=
  (h.keep.still (sendOpen_still { t with night := { t.night with attempts := n, backoffTimer := none } })).keep

theorem nightCall_noNewGuest (h : NoNewGuest s t) : NoNewGuest s (nightCall t) := by
  unfold nightCall
  split
  · exact placeCall_noNewGuest h _
  · exact h

theorem takeAck_noNewGuest (h : NoNewGuest s t) (a : Station) (n : Seq) : NoNewGuest s (takeAck a n t) := by
  have hremoved : NoNewGuest s (removeAcked (t.journal.covered n) t) := h.keep.quiet (compareChanged_quiet _ _ _)
  unfold takeAck
  dsimp only
  split
  · exact h.still (offer_still _ _)
  · split
    · exact nightFollow_noNewGuest hremoved.keep
    · exact hremoved

theorem ackExpires_noNewGuest (s : State) : NoNewGuest s (ackExpires s) := by
  unfold ackExpires
  dsimp only
  split
  · exact nightFollow_noNewGuest (NoNewGuest.refl s).keep
  · exact failSession_noNewGuest (NoNewGuest.refl s).keep

theorem closeSession_noNewGuest (h : NoNewGuest s t) : NoNewGuest s (closeSession t) :=
  (h.still (sendClosed_still t)).keep

theorem finishSession_noNewGuest (h : NoNewGuest s t) : NoNewGuest s (finishSession t) := by
  unfold finishSession
  split
  · exact closeSession_noNewGuest h
  · exact h

/-! ## The label engine (R137 to R154) -/

theorem deliveries_noNewGuest (h : NoNewGuest s t) : NoNewGuest s (deliveries t) :=
  let ⟨_, hl⟩ := deliveries_still t
  h.keep.still hl

theorem labelRecovery_noNewGuest (h : NoNewGuest s t) : NoNewGuest s (labelRecovery t) :=
  h.keep.quiet (labelRecovery_quiet t)

theorem takeUpdates_noNewGuest (a : Station) (ws : List LabelWire) (h : NoNewGuest s t) :
    NoNewGuest s (takeUpdates a ws t).1 := by
  induction ws generalizing t with
  | nil => exact h
  | cons w ws ih =>
    unfold takeUpdates
    split
    · exact ih (h.keep.still (offer_still _ _))
    · split
      · exact ih h.keep
      · exact h

theorem freeLabelBlock_noNewGuest (h : NoNewGuest s t) : NoNewGuest s (freeLabelBlock t) :=
  h.keep.quiet (compareChanged_quiet _ _ _)

theorem loseOldest_noNewGuest (h : NoNewGuest s t) : NoNewGuest s (loseOldest t) := by
  unfold loseOldest
  split
  · exact h
  · exact (h.keep.still (offer_still _ _)).still (raise_still _ _)

theorem giveUp_noNewGuest (h : NoNewGuest s t) (x : LabelUpdate) (why : GivenUp) (o : Origin) :
    NoNewGuest s (giveUp x why o t) :=
  (loseOldest_noNewGuest (freeLabelBlock_noNewGuest h)).keep.still (offer_still _ _)

theorem returnUpdate_noNewGuest (h : NoNewGuest s t) (x : LabelUpdate) (o : Origin) :
    NoNewGuest s (returnUpdate x o t) := by
  unfold returnUpdate
  split
  · exact (freeLabelBlock_noNewGuest h).still (offer_still _ _)
  · exact h.keep

theorem applyOutcome_noNewGuest (h : NoNewGuest s t) (x : LabelUpdate) (v : LabelOutcome) (o : Origin) :
    NoNewGuest s (applyOutcome x v o t) := by
  unfold applyOutcome
  split
  · exact (freeLabelBlock_noNewGuest h).still (offer_still _ _)
  · exact giveUp_noNewGuest h _ _ _
  · split
    · exact giveUp_noNewGuest h _ _ _
    · exact returnUpdate_noNewGuest h _ _

theorem takeOutcome_noNewGuest (h : NoNewGuest s t) (n : BitVec 24) (v : LabelOutcome) (o : Origin) :
    NoNewGuest s (takeOutcome n v o t) := by
  unfold takeOutcome
  split
  · exact h.still (offer_still _ _)
  · exact deliveries_noNewGuest (applyOutcome_noNewGuest h.keep _ _ _)

/-! ## Clock and schedule (R159 to R166) -/

theorem setLabelWindow_noNewGuest (h : NoNewGuest s t) (v : Gate) (o : LevelOrigin) :
    NoNewGuest s (setLabelWindow v o t) := by
  unfold setLabelWindow
  dsimp only
  split
  · exact deliveries_noNewGuest h.keep
  · exact h.keep

/-- R79: the closing of the guest state empties the table. -/
theorem setGuestState_noNewGuest (h : NoNewGuest s t) (v : Gate) (o : LevelOrigin) :
    NoNewGuest s (setGuestState v o t) := by
  unfold setGuestState
  dsimp only
  split
  · exact h.trans (.of_sublist (List.nil_sublist _))
  · exact h.keep

theorem act_noNewGuest (h : NoNewGuest s t) (action : ScheduleAction) (o : LevelOrigin) :
    NoNewGuest s (act action o t) := by
  cases action with
  | dayProfile => exact setProfile_noNewGuest h _ _
  | nightProfile => exact setProfile_noNewGuest h _ _
  | labelsOpen => exact setLabelWindow_noNewGuest h _ _
  | labelsClosed => exact setLabelWindow_noNewGuest h _ _
  | guestOpen => exact setGuestState_noNewGuest h _ _
  | guestClosed => exact setGuestState_noNewGuest h _ _
  | call => exact nightCall_noNewGuest h

theorem fireEntries_noNewGuest (h : NoNewGuest s t) : NoNewGuest s (fireEntries t) := by
  unfold fireEntries
  split
  · exact foldl_noNewGuest (fun s _ => (act_noNewGuest (.refl s) _ _).ite) _ h
  · exact h

theorem replay_noNewGuest (h : NoNewGuest s t) : NoNewGuest s (replay t) := by
  refine foldl_noNewGuest (fun s k => ?_) _ h
  unfold replayKind
  split
  · exact .refl s
  · exact act_noNewGuest (.refl s) _ _

theorem clockSet_noNewGuest (h : NoNewGuest s t) (day second : Nat) : NoNewGuest s (clockSet day second t) := by
  unfold clockSet
  dsimp only
  split
  · exact replay_noNewGuest h.keep
  · exact h.keep

end Sys2Proof.Machine

/-! SUPPORT. What messages, the spool unit and the receive path past the source check make of the guest table (R70), and
the source check itself, which admits a station only where the guest law lets it (R71 to R73). -/

namespace Sys2Proof.Machine

/- The proofs below run one after another: run together, their waiting threads outgrow the memory a check may use. -/
set_option Elab.async false

variable {s t : State}

/-! ## Messages (R120, R146) -/

theorem ifTaken_noNewGuest (h : NoNewGuest s t) (m : NightSource) (inRange : Bool) {take : State → State}
    (ht : NoNewGuest s (take t)) : NoNewGuest s (ifTaken m inRange take t) := by
  unfold ifTaken
  split
  · exact ht
  · exact h.still (offer_still _ _)

theorem wakeMessage_noNewGuest (h : NoNewGuest s t) (m : NightSource) : NoNewGuest s (wakeMessage m t) :=
  ifTaken_noNewGuest h m _ (nightCall_noNewGuest h)

theorem grantTaken_noNewGuest (h : NoNewGuest s t) (window : Byte) : NoNewGuest s (grantTaken window t) := by
  unfold grantTaken
  split
  · exact h.keep
  · exact h.keep
  · exact h

/-- R161: a GRANT may set the clock, and the replay that follows may close the guest state. -/
theorem takeGrant_noNewGuest (h : NoNewGuest s t) (window : Byte) (day : BitVec 16) (second : BitVec 32) :
    NoNewGuest s (takeGrant window day second t) := by
  unfold takeGrant
  dsimp only
  split
  · refine nightFollow_noNewGuest ?_
    split
    · exact clockSet_noNewGuest (grantTaken_noNewGuest h _) _ _
    · exact grantTaken_noNewGuest h _
  · exact h

theorem grantMessage_noNewGuest (h : NoNewGuest s t) (m : NightSource) (window : Byte) (day : BitVec 16)
    (second : BitVec 32) : NoNewGuest s (grantMessage m window day second t) :=
  ifTaken_noNewGuest h m _ (takeGrant_noNewGuest h _ _ _)

theorem ackMessage_noNewGuest (h : NoNewGuest s t) (m : NightSource) (n : Seq) : NoNewGuest s (ackMessage m n t) :=
  ifTaken_noNewGuest h m _ (takeAck_noNewGuest h _ _)

theorem takeLabels_noNewGuest (h : NoNewGuest s t) (a : Station) (batch : BitVec 32) (ws : List LabelWire) :
    NoNewGuest s (takeLabels a batch ws t) := by
  unfold takeLabels
  dsimp only
  split
  · exact deliveries_noNewGuest
      (((takeUpdates_noNewGuest a ws h).quiet (compareChanged_quiet _ _ _)).still (sendLabelAck_still _ _ _))
  · exact h.still (offer_still _ _)

theorem labelsMessage_noNewGuest (h : NoNewGuest s t) (m : NightSource) (batch : BitVec 32) (ws : List LabelWire) :
    NoNewGuest s (labelsMessage m batch ws t) := ifTaken_noNewGuest h m _ (takeLabels_noNewGuest h _ _ _)

theorem finishMessage_noNewGuest (h : NoNewGuest s t) (m : NightSource) : NoNewGuest s (finishMessage m t) :=
  ifTaken_noNewGuest h m _ (finishSession_noNewGuest h)

theorem overUplink_noNewGuest (a : Station) {take : State → State} (ht : NoNewGuest s (take s)) :
    NoNewGuest s (overUplink a take s) := by
  unfold overUplink
  split
  · exact .refl s
  · split
    · exact (NoNewGuest.refl s).still (drop_still _ _ _)
    · exact ht

theorem overLabel_noNewGuest (a : Station) {take : State → State} (ht : NoNewGuest s (take s)) :
    NoNewGuest s (overLabel a take s) := by
  unfold overLabel
  split
  · exact .refl s
  · split
    · exact (NoNewGuest.refl s).still (drop_still _ _ _)
    · split
      · exact (NoNewGuest.refl s).still (drop_still _ _ _)
      · exact ht

theorem nightDatagram_noNewGuest (h : NoNewGuest s t) (a : Station) (b : NetAddr) (v : Service) (payload : Bytes) :
    NoNewGuest s (nightDatagram a b v payload t) := by
  unfold nightDatagram
  split
  · exact wakeMessage_noNewGuest h _
  · exact grantMessage_noNewGuest h _ _ _ _
  · exact ackMessage_noNewGuest h _ _
  · exact labelsMessage_noNewGuest h _ _ _
  · exact finishMessage_noNewGuest h _
  · exact h.still (offer_still _ _)

theorem readyMessage_noNewGuest (h : NoNewGuest s t) (slots : Byte) : NoNewGuest s (readyMessage slots t) :=
  deliveries_noNewGuest h.keep

theorem outcomeMessage_noNewGuest (h : NoNewGuest s t) (a : Station) (n : BitVec 24) (v : Byte) :
    NoNewGuest s (outcomeMessage a n v t) := by
  unfold outcomeMessage
  split
  · exact h.still (drop_still _ _ _)
  · split
    · exact h.still (drop_still _ _ _)
    · exact takeOutcome_noNewGuest h _ _ _

theorem baseStationDatagram_noNewGuest (h : NoNewGuest s t) (a : Station) (payload : Bytes) :
    NoNewGuest s (baseStationDatagram a payload t) := by
  unfold baseStationDatagram
  split
  · exact readyMessage_noNewGuest h _
  · exact outcomeMessage_noNewGuest h _ _ _
  · exact h.still (drop_still _ _ _)

/-! ## The spool unit (R101 to R107) -/

theorem answerTill_noNewGuest (h : NoNewGuest s t) (p : Passage) (copy : LookupCopy) (n : Fin 32) (kind code : Nat)
    (number sequence : Seq) (event : SpoolEvent) :
    NoNewGuest s (answerTill p copy n kind code number sequence event t) :=
  (h.still (originate_still _ (presentEgress_still .till) _)).still (offer_still _ _)

theorem appendNew_noNewGuest (h : NoNewGuest s t) (p : Passage) (copy : LookupCopy) (n : Fin 32) (number : Seq) :
    NoNewGuest s (appendNew p copy n number t) := by
  unfold appendNew
  dsimp only
  split
  · exact nightFollow_noNewGuest
      (answerTill_noNewGuest (h.keep.quiet (compareChanged_quiet _ _ _)) _ _ _ _ _ _ _ _)
  · exact answerTill_noNewGuest h _ _ _ _ _ _ _ _

theorem deduplicate_noNewGuest (h : NoNewGuest s t) (p : Passage) (copy : LookupCopy) (n : Fin 32) (number : Seq) :
    NoNewGuest s (deduplicate p copy n number t) := by
  unfold deduplicate
  dsimp only
  split
  · exact appendNew_noNewGuest h _ _ _ _
  · split
    · exact answerTill_noNewGuest h _ _ _ _ _ _ _ _
    · split
      · exact appendNew_noNewGuest h _ _ _ _
      · exact appendNew_noNewGuest (h.still (offer_still _ _)) _ _ _ _

theorem checkRecord_noNewGuest (h : NoNewGuest s t) (p : Passage) (copy : LookupCopy) (n : Fin 32) :
    NoNewGuest s (checkRecord p copy n t) := by
  unfold checkRecord
  dsimp only
  split
  · exact answerTill_noNewGuest h _ _ _ _ _ _ _ _
  · split
    · exact answerTill_noNewGuest h _ _ _ _ _ _ _ _
    · exact deduplicate_noNewGuest h _ _ _ _

/-- R101: each test of a Spool frame drops it, and the last lets it through. -/
theorem spoolFrame_noNewGuest (h : NoNewGuest s t) (p : Passage) (copy : LookupCopy) :
    NoNewGuest s (spoolFrame p copy t) := by
  unfold spoolFrame
  dsimp only
  repeat' split
  case h_2.isFalse.isFalse.isFalse => exact checkRecord_noNewGuest h _ _ _
  all_goals exact h.still (drop_still _ _ _)

/-! ## The receive path past the source check (R10 to R12, R25, R91) -/

theorem joinRequests_noNewGuest (h : NoNewGuest s t) (port : Segment) (a : Station) (r : Request) :
    NoNewGuest s (joinRequests port a r t) := by
  unfold joinRequests setAlertDestination
  split
  · split
    · exact h.keep.still (alertTest_still _)
    · exact h.keep
  · exact h.still (offer_still _ _)

theorem remoteRequest_noNewGuest (h : NoNewGuest s t) (bs : Bytes) (ip : Ipv4) :
    NoNewGuest s (remoteRequest bs ip t) := by
  unfold remoteRequest
  dsimp only
  split
  · exact joinRequests_noNewGuest h _ _ _
  · exact h.still (drop_still _ _ _)

theorem lookupFrame_noNewGuest (h : NoNewGuest s t) (p : Passage) : NoNewGuest s (lookupFrame p t) := by
  have hlooked : NoNewGuest s (t.lookedUp p) := h.keep.still (lookedUp_still t p)
  rw [lookupFrame_eq]
  unfold takeAction
  split
  · exact forwardFrame_noNewGuest hlooked _ _
  · exact trackFrame_noNewGuest hlooked _ _
  · exact spoolFrame_noNewGuest hlooked _ _
  · exact hlooked.still (drop_still _ _ _)

theorem passOn_noNewGuest (h : NoNewGuest s t) (p : Passage) : NoNewGuest s (passOn p t) := by
  unfold passOn
  split
  · split
    · exact replyFrame_noNewGuest h _ _ _
    · exact lookupFrame_noNewGuest h _
  · exact lookupFrame_noNewGuest h _

theorem deliverRunning_noNewGuest (h : NoNewGuest s t) (p : Passage) : NoNewGuest s (deliverRunning p t) := by
  unfold deliverRunning
  dsimp only
  split
  · split
    · exact nightDatagram_noNewGuest h _ _ _ _
    · exact h.still (drop_still _ _ _)
  · split
    · split
      · exact baseStationDatagram_noNewGuest h _ _
      · exact h.still (drop_still _ _ _)
    · split
      · exact h.still (drop_still _ _ _)
      · exact passOn_noNewGuest h _

theorem deliverLocal_noNewGuest (p : Passage) (s : State) : NoNewGuest s (deliverLocal p s) := by
  unfold deliverLocal
  split
  · exact remoteRequest_noNewGuest (.refl s) _ _
  · split
    · exact deliverRunning_noNewGuest (.refl s) _
    · exact (NoNewGuest.refl s).still (drop_still _ _ _)

/-! ## The source check (R71 to R73) -/

/-- R70: one more entry, of a station and a network address that no entry holds. -/
theorem GuestLaw.cons {e : GuestEntry} {rest : List GuestEntry} (h : GuestLaw (s.withTable rest))
    (hroom : rest.length < 128) (hstation : ∀ x ∈ rest, x.station ≠ e.station)
    (haddress : ∀ x ∈ rest, x.address ≠ e.address) : GuestLaw (s.withTable (e :: rest)) := by
  obtain ⟨-, hstations, haddresses⟩ := h
  refine ⟨hroom, ?_, ?_⟩
  · exact List.nodup_cons.2 ⟨by simpa using hstation, hstations⟩
  · exact List.nodup_cons.2 ⟨by simpa using haddress, haddresses⟩

/-- R73: an unknown station with an address of its own is admitted where there is room. -/
theorem admitGuest_guestLaw (h : GuestLaw s) (hroom : s.guest.table.length < 128) {a : Station} {b : NetAddr}
    (hstation : ∀ x ∈ s.guest.table, x.station ≠ a) (haddress : ∀ x ∈ s.guest.table, x.address ≠ b) (n : Nat) :
    GuestLaw (admitGuest a b n s) :=
  GuestLaw.cons (e := newGuest s.guest.settings a b n s.tick) h hroom hstation haddress

theorem without_guestLaw (h : GuestLaw s) (a : Station) : GuestLaw (s.withTable (without s.guest.table a)) :=
  h.of_noNewGuest (.of_sublist (without_sublist _ a))

theorem drop_guestLaw (h : GuestLaw s) (r : DropReason) (o : Origin) : GuestLaw (drop r o s) :=
  h.of_noNewGuest ((NoNewGuest.refl s).still (drop_still r o s))

theorem without_length_lt {table : List GuestEntry} {e : GuestEntry} (he : e ∈ table) :
    (without table e.station).length < table.length :=
  List.length_filter_lt_length_iff_exists.2 ⟨e, he, by simp⟩

/-- R73: a victim is an entry of the table. -/
theorem victim_mem {g : GuestUnit} {now : Tick} {v : GuestEntry} (h : g.victim now = some v) : v ∈ g.table := by
  unfold GuestUnit.victim at h
  split at h
  · next e he =>
    obtain rfl : e = v := by
      split at h
      · exact Option.some.inj h
      · cases h
    exact List.mem_reverse.1 (List.mem_of_find?_eq_some he)
  · cases h

section
variable {next : State → State} (hn : ∀ t, NoNewGuest t (next t))
include hn

/-- R73: a station is admitted with an address that no entry holds, in a free place or in the victim's. -/
theorem unknownGuest_guestLaw (h : GuestLaw s) {a : Station} (hunknown : ∀ x ∈ s.guest.table, x.station ≠ a)
    (b : NetAddr) (n : Nat) : GuestLaw (unknownGuest a b n next s) := by
  unfold unknownGuest
  dsimp only
  split
  · exact drop_guestLaw h _ _
  · next hheld =>
    have hfree : ∀ x ∈ s.guest.table, x.address ≠ b := fun x hx hxb =>
      hheld ((any_address_iff _ _).2 ⟨x, hx, hxb⟩)
    split
    · next hroom => exact (admitGuest_guestLaw h hroom hunknown hfree n).of_noNewGuest (hn _)
    · split
      · exact drop_guestLaw h _ _
      · next v hv =>
        have hguest := still_guest (offer_still (occur .evicted (receivedOrigin .guest a))
          (s.withTable (without s.guest.table v.station)))
        have hplace := (without_length_lt (victim_mem hv)).trans_le h.1
        have hleft {x : GuestEntry} (hx : x ∈ without s.guest.table v.station) : x ∈ s.guest.table :=
          (without_sublist _ _).subset hx
        refine (admitGuest_guestLaw ?law ?room ?station ?address n).of_noNewGuest (hn _)
        case law => exact (without_guestLaw h v.station).of_noNewGuest ((NoNewGuest.refl _).keep hguest)
        all_goals rw [hguest]
        case room => exact hplace
        case station => exact fun x hx => hunknown x (hleft hx)
        case address => exact fun x hx => hfree x (hleft hx)

/-- R72: a known station keeps its place among the stations, and takes an address that no other entry holds. -/
theorem knownGuest_guestLaw (h : GuestLaw s) {e : GuestEntry} (he : e ∈ s.guest.table) (b : NetAddr) (n : Nat) :
    GuestLaw (knownGuest e b n next s) := by
  unfold knownGuest
  dsimp only
  split
  · exact drop_guestLaw h _ _
  · split
    · exact drop_guestLaw h _ _
    · next hconflict =>
      obtain ⟨-, hstations, haddresses⟩ :=
        h.of_noNewGuest (toHead_noNewGuest he rfl)
      refine (GuestLaw.cons (e := e.passed b n s.tick) (without_guestLaw h e.station)
        ((without_length_lt he).trans_le h.1) ?_ ?_).of_noNewGuest (hn _)
      · exact fun x hx hxe => (List.nodup_cons.1 hstations).1 (List.mem_map.2 ⟨x, hx, hxe⟩)
      · intro x hx hxb
        by_cases hsame : e.address = b
        · exact (List.nodup_cons.1 haddresses).1 (List.mem_map.2 ⟨x, hx, hxb.trans hsame.symm⟩)
        · exact hconflict ⟨hsame, (any_address_iff _ _).2 ⟨x, (without_sublist _ _).subset hx, hxb⟩⟩

theorem guestSource_guestLaw (h : GuestLaw s) (a : Station) (b : NetAddr) (n : Nat) :
    GuestLaw (guestSource a b n next s) := by
  unfold guestSource
  dsimp only
  split
  · exact drop_guestLaw h _ _
  · split
    · exact drop_guestLaw h _ _
    · split
      · next he => exact knownGuest_guestLaw hn h (List.mem_of_find?_eq_some he) b n
      · next hnone => exact unknownGuest_guestLaw hn h (by simpa using List.find?_eq_none.1 hnone) b n

end

/-- R71: a frame that passes its source check adds no guest on its further way. -/
theorem sourceCheck_guestLaw (h : GuestLaw s) {next : Option (Fin 32) → State → State}
    (hn : ∀ i t, NoNewGuest t (next i t)) (port : Segment) (a : Station) (b : NetAddr) (n : Nat) : GuestLaw (sourceCheck port a b n next s) := by
  unfold sourceCheck
  split
  · exact h.of_noNewGuest (hn _ _)
  · split
    · split
      · exact h.of_noNewGuest (hn _ _)
      · exact drop_guestLaw h _ _
    · exact guestSource_guestLaw (hn none) h _ _ _
    · exact h.of_noNewGuest (hn _ _)

theorem sortFrame_guestLaw (h : GuestLaw s) (port : Segment) (bs : Bytes) : GuestLaw (sortFrame port bs s) := by
  unfold sortFrame ipv4Frame
  dsimp only
  split
  · split
    · exact drop_guestLaw h _ _
    · split
      · exact drop_guestLaw h _ _
      · exact sourceCheck_guestLaw h (fun _ t => deliverLocal_noNewGuest _ t) _ _ _ _
  · split
    · exact sourceCheck_guestLaw h (fun _ t => (NoNewGuest.refl t).still (arpFrame_still _ _ t)) _ _ _ _
    · split
      · exact h.of_noNewGuest (joinRequests_noNewGuest (.refl s) _ _ _)
      · exact drop_guestLaw h _ _

theorem receiveFrame_guestLaw (h : GuestLaw s) (port : Segment) (fcs : Bool) (bs : Bytes) :
    GuestLaw (receiveFrame port fcs bs s) := by
  have hoffer (o : Occurrence) : GuestLaw (offer o s) :=
    h.of_noNewGuest ((NoNewGuest.refl s).still (offer_still o s))
  unfold receiveFrame
  split
  · exact h
  · split
    · exact hoffer _
    · split
      · exact h
      · exact sortFrame_guestLaw (hoffer _) _ _

end Sys2Proof.Machine

/-! SUPPORT. What every command makes of the guest table, the guest law as what every step keeps (R70), and BAR and
UNBAR (R80). -/

namespace Sys2Proof.Machine

/- The proofs below run one after another: run together, their waiting threads outgrow the memory a check may use. -/
set_option Elab.async false

variable {c : Instr} {s t : State}

/-! ## The command event (R183, R188) -/

section
variable {q : Requester} {i : Instr} {code : Nat} {run : State → CmdResult}

theorem openCommand_noNewGuest (h : ∀ s, NoNewGuest s (run s).state) (s : State) :
    NoNewGuest s (openCommand q i code run s) :=
  ((NoNewGuest.keep (.refl s) (takeRequest_guest i s)).trans (h _)).still (openCommand_still q i code run s)

theorem lockedCommand_noNewGuest (h : ∀ s, NoNewGuest s (run s).state) (s : State) :
    NoNewGuest s (lockedCommand q i code run s) := by
  refine openCommand_noNewGuest (fun s => ?_) s
  split
  · exact (h s).keep
  · exact .refl s

/-- A command whose run leaves the guest unit as it was. -/
theorem openCommand_guest_kept (h : ∀ s, (run s).state.guest = s.guest) (s : State) :
    NoNewGuest s (openCommand q i code run s) := openCommand_noNewGuest (fun s => (NoNewGuest.refl s).keep (h s)) s

/-- A lock-requiring command whose run leaves the guest unit as it was. -/
theorem lockedCommand_guest_kept (h : ∀ s, (run s).state.guest = s.guest) (s : State) :
    NoNewGuest s (lockedCommand q i code run s) := lockedCommand_noNewGuest (fun s => (NoNewGuest.refl s).keep (h s)) s

end

/-! ## The writes (R187) -/

section
variable {α : Type} {first : BitVec 32} {entries : List α} {P : State → Prop}

/-- A write of a table with one index is refused, or takes its entry. -/
theorem writeSingle_state {take : α → State → CmdResult} (hs : P s) (h : ∀ w, P (take w s).state) :
    P (writeSingle first entries take s).state := by
  unfold writeSingle
  split
  · exact hs
  · split
    · exact hs
    · exact h _

/-- A write of a table with several indices is refused, or takes its entries. -/
theorem writeMany_state {low high : Nat} {take : State → CmdResult} (hs : P s) (h : P (take s).state) :
    P (writeMany low high first entries take s).state := by
  unfold writeMany
  split
  · exact hs
  · split
    · exact hs
    · exact h

/-- A write whose refusals name an index is refused, or takes its entries. -/
theorem writeNamed_state {low high : Nat} {fault : Option Nat} {take : State → CmdResult} (hs : P s)
    (h : P (take s).state) : P (writeNamed low high first entries fault take s).state := by
  unfold writeNamed
  split
  · exact hs
  · split
    · exact hs
    · split
      · exact hs
      · exact h

end

theorem writePortsRun_noNewGuest (first : BitVec 32) (es : List PortsWrite) (s : State) :
    NoNewGuest s (writePortsRun first es s).state := by
  refine writeSingle_state (.refl s) fun w => ?_
  unfold writePortsEntry
  split
  · exact .refl s
  · split
    · exact .refl s
    · split
      · exact .refl s
      · exact deliveries_noNewGuest (NoNewGuest.refl s).keep

theorem writeOfficeRun_noNewGuest (first : BitVec 32) (es : List OfficeStation) (s : State) :
    NoNewGuest s (writeOfficeRun first es s).state := by
  refine writeMany_state (.refl s) ?_
  dsimp only
  split
  · exact .refl s
  · exact (NoNewGuest.refl s).keep

theorem writeWindowRun_noNewGuest (k : BankId) (first : BitVec 32) (es : List WindowWrite) (s : State) :
    NoNewGuest s (writeWindowRun k first es s).state := by
  unfold writeWindowRun
  split
  · exact .refl s
  · exact writeNamed_state (.refl s) (NoNewGuest.refl s).keep

theorem writeDefaultsRun_noNewGuest (k : BankId) (first : BitVec 32) (es : List DefaultWrite) (s : State) :
    NoNewGuest s (writeDefaultsRun k first es s).state := by
  unfold writeDefaultsRun
  split
  · exact .refl s
  · exact writeNamed_state (.refl s) (NoNewGuest.refl s).keep

theorem writeIdentityRun_noNewGuest (first : BitVec 32) (es : List (BitVec 32)) (s : State) :
    NoNewGuest s (writeIdentityRun first es s).state := by
  refine writeMany_state (.refl s) ?_
  dsimp only
  split
  · exact (NoNewGuest.refl s).keep
  · exact .refl s

theorem writeMetersRun_noNewGuest (first : BitVec 32) (es : List MeterWrite) (s : State) :
    NoNewGuest s (writeMetersRun first es s).state := by
  refine writeMany_state (.refl s) ?_
  dsimp only
  split
  · exact .refl s
  · exact foldl_noNewGuest (fun s _ => (NoNewGuest.refl s).keep (setMeter_guest _ _ _)) _ (.refl s)

theorem writeThresholdsRun_noNewGuest (first : BitVec 32) (es : List PairWrite) (s : State) :
    NoNewGuest s (writeThresholdsRun first es s).state :=
  writeMany_state (.refl s) ((NoNewGuest.refl s).keep (by simp only [doneClamped]))

/-- R69: new settings change no key of the guest table. -/
theorem writeGuestRun_noNewGuest (first : BitVec 32) (es : List GuestWrite) (s : State) :
    NoNewGuest s (writeGuestRun first es s).state :=
  writeSingle_state (.refl s) fun _ => .of_map rfl fun _ => rfl

theorem writeTillsRun_noNewGuest (first : BitVec 32) (es : List TillWrite) (s : State) :
    NoNewGuest s (writeTillsRun first es s).state :=
  writeNamed_state (.refl s) ((NoNewGuest.refl s).keep (by simp only [doneClamped]))

theorem writeScheduleRun_noNewGuest (first : BitVec 32) (es : List ScheduleWrite) (s : State) :
    NoNewGuest s (writeScheduleRun first es s).state := by
  refine writeMany_state (.refl s) ?_
  split
  · exact .refl s
  · exact (NoNewGuest.refl s).keep

/-- The write of a table with one index whose entry is nothing to the guest unit. -/
theorem writeSingle_noNewGuest {α : Type} {first : BitVec 32} {entries : List α} {take : α → State → CmdResult}
    (h : ∀ w s, (take w s).state.guest = s.guest) (s : State) :
    NoNewGuest s (writeSingle first entries take s).state :=
  writeSingle_state (.refl s) fun w => (NoNewGuest.refl s).keep (h w s)

/-- R187: what the bytes of a WRITE spell makes of the guest table what the write of its table does. -/
theorem writeRunOf_noNewGuest {q : Requester} {table : Byte} {first : BitVec 32} {count : BitVec 16} {data : Bytes}
    {run : State → CmdResult} (h : writeRunOf q table first count data = some run) (s : State) :
    NoNewGuest s (run s).state := by
  unfold writeRunOf at h
  split at h <;> cases h
  · exact writePortsRun_noNewGuest _ _ s
  · exact writeOfficeRun_noNewGuest _ _ s
  · exact writeWindowRun_noNewGuest _ _ _ s
  · exact writeDefaultsRun_noNewGuest _ _ _ s
  · exact writeIdentityRun_noNewGuest _ _ s
  · exact writeSingle_noNewGuest (fun _ _ => rfl) s
  · exact writeMetersRun_noNewGuest _ _ s
  · exact writeThresholdsRun_noNewGuest _ _ s
  · exact writeGuestRun_noNewGuest _ _ s
  · exact writeTillsRun_noNewGuest _ _ s
  · exact writeSingle_noNewGuest (fun _ _ => rfl) s
  · exact writeSingle_noNewGuest (fun _ _ => rfl) s
  · exact writeSingle_noNewGuest (fun _ _ => rfl) s
  · exact writeSingle_noNewGuest (fun _ _ => rfl) s
  · exact writeScheduleRun_noNewGuest _ _ s
  · exact writeSingle_noNewGuest (fun _ _ => rfl) s
  · exact writeSingle_noNewGuest (fun _ _ => rfl) s
  · exact .refl s

/-! ## The other commands -/

theorem readTable_guest (q : Requester) (table : Byte) (first : BitVec 32) (count : BitVec 16) (s : State) :
    (readTable q table first count s).state.guest = s.guest := by
  unfold readTable
  split
  · rfl
  · split
    · rfl
    · exact State.withCursor_guest _ _ _

theorem readOn_guest (q : Requester) (count : BitVec 16) (s : State) : (readOn q count s).state.guest = s.guest := by
  unfold readOn
  split
  · rfl
  · exact State.withCursor_guest _ _ _

theorem swapRun_guest (s : State) : (swapRun s).state.guest = s.guest := by
  unfold swapRun
  split <;> rfl

theorem openRun_noNewGuest (s : State) : NoNewGuest s (openRun s).state := by
  unfold openRun
  split
  · exact .refl s
  · dsimp only [done]
    split
    · exact replay_noNewGuest (NoNewGuest.refl s).keep
    · exact (NoNewGuest.refl s).keep

theorem closeRun_noNewGuest (s : State) : NoNewGuest s (closeRun s).state := by
  unfold closeRun
  split
  · exact (NoNewGuest.refl s).keep.quiet (closePart_quiet s)
  · exact .refl s

/-- R82: forwarding restart keeps the entries, every station meter at its depth. -/
theorem restartPart_noNewGuest (s : State) : NoNewGuest s (restartPart s) := by
  have hrestarted : NoNewGuest s s.guestsRestarted := .of_map rfl fun _ => rfl
  exact hrestarted.keep.quiet (restartPart_quiet s)

theorem profileRun_noNewGuest (v : Byte) (s : State) : NoNewGuest s (profileRun v s).state := by
  unfold profileRun
  split
  · exact setProfile_noNewGuest (.refl s) _ _
  · exact setProfile_noNewGuest (.refl s) _ _
  · exact .refl s

theorem labelsRun_noNewGuest (v : Byte) (s : State) : NoNewGuest s (labelsRun v s).state := by
  unfold labelsRun
  split
  · exact setLabelWindow_noNewGuest (.refl s) _ _
  · exact .refl s

theorem guestRun_noNewGuest (v : Byte) (s : State) : NoNewGuest s (guestRun v s).state := by
  unfold guestRun
  split
  · exact setGuestState_noNewGuest (.refl s) _ _
  · exact .refl s

theorem callRun_noNewGuest (s : State) : NoNewGuest s (callRun s).state := by
  unfold callRun
  split
  · exact nightCall_noNewGuest (.refl s)
  · exact .refl s

theorem stopRun_noNewGuest (s : State) : NoNewGuest s (stopRun s).state := by
  unfold stopRun
  split
  · exact .refl s
  · exact closeSession_noNewGuest (.refl s)

theorem discardRun_noNewGuest (s : State) : NoNewGuest s (discardRun s).state := by
  unfold discardRun
  split
  · exact (NoNewGuest.refl s).keep.quiet (compareChanged_quiet _ _ _)
  · exact .refl s

theorem adjustQueuesRun_noNewGuest (w : QueueLimitsWrite) (s : State) : NoNewGuest s (adjustQueuesRun w s).state := by
  unfold adjustQueuesRun
  split
  · exact .refl s
  · exact nightFollow_noNewGuest (NoNewGuest.refl s).keep

theorem barRun_noNewGuest (a : Station) (s : State) : NoNewGuest s (barRun a s).state := by
  unfold barRun
  split
  · exact .refl s
  · exact withGuest_noNewGuest (.refl s) a fun _ => rfl

/-- R80: UNBAR of a barred entry moves it to the head. -/
theorem unbarRun_noNewGuest (a : Station) (s : State) : NoNewGuest s (unbarRun a s).state := by
  unfold unbarRun
  split
  · exact .refl s
  · next e he =>
    split
    · obtain rfl : e.station = a := by simpa using List.find?_some he
      exact toHead_noNewGuest (List.mem_of_find?_eq_some he) rfl
    · exact .refl s

theorem configureRun_guest (ws : Vector CounterWrite 8) (g : GroupControls) (s : State) :
    (configureRun ws g s).state.guest = s.guest := by
  unfold configureRun
  split <;> rfl

theorem startRun_guest (form : Byte) (s : State) : (startRun form s).state.guest = s.guest := by
  unfold startRun
  split <;> rfl

theorem clearRun_guest (ns : List Byte) (s : State) : (clearRun ns s).state.guest = s.guest := by
  unfold clearRun
  split <;> rfl

theorem alertClearRun_guest (xs : List Byte) (s : State) : (alertClearRun xs s).state.guest = s.guest := by
  unfold alertClearRun
  split <;> rfl

theorem claimRun_guest (p : Party) (s : State) : (claimRun p s).state.guest = s.guest := by
  unfold claimRun
  split <;> rfl

theorem releaseRun_guest (p : Party) (s : State) : (releaseRun p s).state.guest = s.guest := by
  unfold releaseRun
  split <;> rfl

/-! ## The events -/

theorem afterLinkLoss_noNewGuest (h : NoNewGuest s t) (g : Segment) : NoNewGuest s (afterLinkLoss g t) := by
  cases g with
  | uplink =>
    unfold afterLinkLoss nightLinkLoss
    dsimp only
    split
    · exact h.keep
    · exact h.keep
  | label => exact labelRecovery_noNewGuest h.keep
  | till => exact h.keep
  | guest => exact h.keep
  | office => exact h.keep

theorem meterRelease_noNewGuest (m : Meter) (s : State) : NoNewGuest s (if (s.meters.get m).hold = [] then s
    else if m = .transfer then nightFollow (releaseMeter m s) else releaseMeter m s) := by
  have hreleased := releaseMeter_noNewGuest (.refl s) m
  split
  · exact .refl s
  · split
    · exact nightFollow_noNewGuest hreleased
    · exact hreleased

/-- R74: aging removes entries, and the rest keep their order. -/
theorem aged_noNewGuest (s : State) : NoNewGuest s { s with agingDue := false, guest := s.guest.aged s.tick } :=
  .of_sublist List.filter_sublist

/-! ## Every command -/

/-- No command but a received frame brings in a guest. -/
theorem exec_noNewGuest (h : exec c s = .next t) (hc : ∀ g fcs bs, c ≠ .frameReceived g fcs bs) : NoNewGuest s t := by
  have same : NoNewGuest s s := .refl s
  cases c <;> cases h
  case deviceReset => exact .of_sublist (List.nil_sublist _)
  case linkUp g v => exact same.keep.asleep (afterLinkUp_asleep g _)
  case linkLoss g => exact (afterLinkLoss_noNewGuest same.keep g).ite
  case frameReceived g fcs bs => exact absurd rfl (hc g fcs bs)
  case egressTransmissionEnd p => exact same.keep.ite
  case uplinkTransmissionEnd => exact (nightFollow_noNewGuest (same.keep.still (depart_still _))).ite
  case msTickAdvance => exact same.keep
  case meterRelease m => exact meterRelease_noNewGuest m s
  case guestAging => exact (aged_noNewGuest s).ite
  case secondAdvance => exact (fireEntries_noNewGuest same.keep).ite
  case waitingExpiry i =>
    split
    · exact expireWaiting_noNewGuest _ _ s
    · exact same
  case heldOverExpiry i =>
    split
    · exact expireHeldOver_noNewGuest _ _ s
    · exact same
  case wake m => exact overUplink_noNewGuest _ (wakeMessage_noNewGuest same m)
  case grant m w d x => exact overUplink_noNewGuest _ (grantMessage_noNewGuest same m w d x)
  case ack m n => exact overUplink_noNewGuest _ (ackMessage_noNewGuest same m n)
  case labelsMessage m b ws => exact overUplink_noNewGuest _ (labelsMessage_noNewGuest same m b ws)
  case finish m => exact overUplink_noNewGuest _ (finishMessage_noNewGuest same m)
  case callTimerExpiry => exact (failSession_noNewGuest same.keep).ite
  case backoffTimerExpiry => exact (placeCall_noNewGuest same _).ite
  case ackTimerExpiry => exact (ackExpires_noNewGuest s).ite
  case settleTimerExpiry => exact (closeSession_noNewGuest same).ite
  case ready a n => exact overLabel_noNewGuest _ (readyMessage_noNewGuest same n)
  case outcome a n v => exact overLabel_noNewGuest _ (outcomeMessage_noNewGuest same a n v)
  case pacingTimerExpiry => exact (deliveries_noNewGuest same.keep).ite
  case outcomeTimeout n =>
    split
    · exact takeOutcome_noNewGuest same _ _ _
    · exact same
  case alertTimerExpiry => exact (same.keep.still (alertTest_still _)).ite
  case leaseExpiry => exact same.keep.ite
  case identify q => exact openCommand_guest_kept (fun _ => rfl) s
  case read q x i n => exact openCommand_guest_kept (readTable_guest q x i n) s
  case readNext q n => exact openCommand_guest_kept (readOn_guest q n) s
  case write q x i n bs =>
    split
    · next hrun => exact lockedCommand_noNewGuest (writeRunOf_noNewGuest hrun) s
    · exact openCommand_guest_kept (fun _ => rfl) s
  case writePorts q i es => exact lockedCommand_noNewGuest (writePortsRun_noNewGuest i es) s
  case writeOfficeStations q i es => exact lockedCommand_noNewGuest (writeOfficeRun_noNewGuest i es) s
  case writeWindow q k i es => exact lockedCommand_noNewGuest (writeWindowRun_noNewGuest k i es) s
  case writeDefaults q k i es => exact lockedCommand_noNewGuest (writeDefaultsRun_noNewGuest k i es) s
  case writeBankIdentity q i es => exact lockedCommand_noNewGuest (writeIdentityRun_noNewGuest i es) s
  case writeUplink => exact lockedCommand_noNewGuest (writeSingle_noNewGuest fun _ _ => rfl) s
  case writeMeters q i es => exact lockedCommand_noNewGuest (writeMetersRun_noNewGuest i es) s
  case writeThresholds q i es => exact lockedCommand_noNewGuest (writeThresholdsRun_noNewGuest i es) s
  case writeGuest q i es => exact lockedCommand_noNewGuest (writeGuestRun_noNewGuest i es) s
  case writeTills q i es => exact lockedCommand_noNewGuest (writeTillsRun_noNewGuest i es) s
  case writeTracker => exact lockedCommand_noNewGuest (writeSingle_noNewGuest fun _ _ => rfl) s
  case writePool => exact lockedCommand_noNewGuest (writeSingle_noNewGuest fun _ _ => rfl) s
  case writeNight => exact lockedCommand_noNewGuest (writeSingle_noNewGuest fun _ _ => rfl) s
  case writeLabel => exact lockedCommand_noNewGuest (writeSingle_noNewGuest fun _ _ => rfl) s
  case writeSchedule q i es => exact lockedCommand_noNewGuest (writeScheduleRun_noNewGuest i es) s
  case writeAlerts => exact lockedCommand_noNewGuest (writeSingle_noNewGuest fun _ _ => rfl) s
  case writeAgent => exact lockedCommand_noNewGuest (writeSingle_noNewGuest fun _ _ => rfl) s
  case swap q => exact lockedCommand_guest_kept swapRun_guest s
  case openPart q => exact lockedCommand_noNewGuest openRun_noNewGuest s
  case closePart q => exact lockedCommand_noNewGuest closeRun_noNewGuest s
  case restart q => exact lockedCommand_noNewGuest restartPart_noNewGuest s
  case setClock q d x => exact lockedCommand_noNewGuest (fun s => clockSet_noNewGuest (.refl s) _ _) s
  case profile q v => exact lockedCommand_noNewGuest (profileRun_noNewGuest v) s
  case labels q v => exact lockedCommand_noNewGuest (labelsRun_noNewGuest v) s
  case guest q v => exact lockedCommand_noNewGuest (guestRun_noNewGuest v) s
  case call q => exact lockedCommand_noNewGuest callRun_noNewGuest s
  case stop q => exact lockedCommand_noNewGuest stopRun_noNewGuest s
  case journalDiscard q => exact lockedCommand_noNewGuest discardRun_noNewGuest s
  case adjustQueues q w => exact lockedCommand_noNewGuest (adjustQueuesRun_noNewGuest w) s
  case bar q a => exact lockedCommand_noNewGuest (barRun_noNewGuest a) s
  case unbar q a => exact lockedCommand_noNewGuest (unbarRun_noNewGuest a) s
  case countersConfigure q ws g => exact lockedCommand_guest_kept (configureRun_guest ws g) s
  case countersStart q => exact lockedCommand_guest_kept (startRun_guest q.form) s
  case countersClear q ns => exact lockedCommand_guest_kept (clearRun_guest ns) s
  case alertClear q xs => exact lockedCommand_guest_kept (alertClearRun_guest xs) s
  case labelClear q => exact lockedCommand_guest_kept (fun _ => rfl) s
  case claim q => exact openCommand_guest_kept (claimRun_guest q.party) s
  case release q => exact openCommand_guest_kept (releaseRun_guest q.party) s
  case unknownCommand q code => exact openCommand_guest_kept (fun _ => rfl) s

/-! ## The guest law (R70) -/

theorem exec_guestLaw (h : exec c s = .next t) (hl : GuestLaw s) : GuestLaw t := by
  by_cases hc : ∃ g fcs bs, c = .frameReceived g fcs bs
  · obtain ⟨g, fcs, bs, rfl⟩ := hc
    cases h
    exact receiveFrame_guestLaw hl g fcs bs
  · exact hl.of_noNewGuest (exec_noNewGuest h fun g fcs bs hg => hc ⟨g, fcs, bs, hg⟩)

/-- Settles O7: a received frame admits a station only where the law lets it, and no other command brings in a guest. -/
theorem everyStepKeepsTheGuestLaw : Obligations.EveryStepKeepsTheGuestLaw := by
  intro s t hl h
  unfold step at h
  split at h
  · exact exec_guestLaw h hl
  · split at h
    · exact exec_guestLaw h hl
    · cases h
      exact hl

/-! ## BAR and UNBAR (R80) -/

section
variable {a : Station} {e : GuestEntry}

theorem barRun_known (h : s.guestEntry a = some e) :
    barRun a s = done (s.withGuest a fun e => { e with barred := true }) := by rw [barRun, h]

theorem barRun_unknown (h : s.guestEntry a = none) : barRun a s = refused .badValue s := by rw [barRun, h]

theorem unbarRun_barred (h : s.guestEntry a = some e) (hbarred : e.barred = true) : unbarRun a s
    = done (s.withTable ({ e with barred := false, lastActive := s.tick } :: without s.guest.table a)) := by
  simp only [unbarRun, h, hbarred, if_true]

theorem unbarRun_not_barred (h : s.guestEntry a = some e) (hbarred : e.barred = false) : unbarRun a s = done s := by
  simp only [unbarRun, h, hbarred, Bool.false_eq_true, if_false]

theorem unbarRun_unknown (h : s.guestEntry a = none) : unbarRun a s = refused .badValue s := by rw [unbarRun, h]

end

/-- Settles O58: the entry of the station is found in the table that the command's request leaves, and changed there. -/
theorem barAndUnbar : Obligations.BarAndUnbar := by
  intro q a s hlock
  refine ⟨fun before after e htable he hother => ?known, fun hnone => ?unknown⟩
  case known =>
    have hentry (i : Instr) : (takeRequest i s).guestEntry a = some e :=
      guestEntry_some (by rwa [takeRequest_guest]) he fun x hx => hother x (List.mem_append_left _ hx)
    refine ⟨lockedCommand_answers hlock ?bar, fun hbarred => lockedCommand_answers hlock ?unbar,
      fun hbarred => lockedCommand_answers hlock (unbarRun_not_barred (hentry _) hbarred)⟩
    case bar =>
      rw [barRun_known (hentry _), State.withGuest, takeRequest_guest, htable, updateGuest_middle he hother]
      rfl
    case unbar =>
      rw [unbarRun_barred (hentry _) hbarred, takeRequest_tick, takeRequest_guest, htable, without_middle he hother,
        State.withTable, takeRequest_guest]
      rfl
  case unknown =>
    have hentry (i : Instr) : (takeRequest i s).guestEntry a = none := guestEntry_none (by rwa [takeRequest_guest])
    exact ⟨lockedCommand_answers hlock (barRun_unknown (hentry _)),
      lockedCommand_answers hlock (unbarRun_unknown (hentry _))⟩

end Sys2Proof.Machine

/-! SUPPORT. The tracker law (R86): what it reads of a state and where it goes on, and that the meters, forwarding, the
request tracker and the spool unit keep it. -/

namespace Sys2Proof.Machine

/- The proofs below run one after another: run together, their waiting threads outgrow the memory a check may use. -/
set_option Elab.async false

variable {s t : State}

/-! ## What the tracker law reads -/

/-- R86: what the tracker law reads of a till: whether it is enabled, and its open limit. -/
def TillEntry.terms (e : TillEntry) : Bool × Nat := (e.enabled, e.openLimit)

/-- R86: the key of an open request. -/
def OpenRequest.key (r : OpenRequest) : Fin 32 × Service × BitVec 32 := (r.till, r.tillService, r.tag)

/-- Each entry of a tracker stands in a slot where another tracker holds an entry with its key. -/
def Tracker.Within (k k' : Tracker) : Prop :=
  ∀ (i : Fin 64) (r : OpenRequest), k.slots[i] = some r → ∃ r', k'.slots[i] = some r' ∧ r'.key = r.key

theorem OpenRequest.key_eq_iff {r r' : OpenRequest} :
    r'.key = r.key ↔ r'.till = r.till ∧ r'.tillService = r.tillService ∧ r'.tag = r.tag := by
  simp only [OpenRequest.key, Prod.mk.injEq]

theorem TillEntry.terms_eq_iff {e e' : TillEntry} :
    e.terms = e'.terms ↔ e.enabled = e'.enabled ∧ e.openLimit = e'.openLimit := by
  simp only [TillEntry.terms, Prod.mk.injEq]

theorem setSlot_slots (k : Tracker) (i j : Fin 64) (x : Option OpenRequest) :
    (k.setSlot i x).slots[j] = if j = i then x else k.slots[j] := by
  simp only [Tracker.setSlot, Fin.getElem_fin, Vector.getElem_set, Fin.ext_iff, eq_comm]

/-- R89: the open count, slot by slot. -/
theorem openCount_eq (k : Tracker) (n : Fin 32) :
    k.openCount n = (List.finRange 64).countP fun i => k.slots[i].any (·.till == n) := by
  have hslots : k.slots.toList = (List.finRange 64).map fun i => k.slots[i] :=
    List.ext_getElem (by simp) fun i _ _ => by simp
  rw [Tracker.openCount, hslots, List.countP_map]
  congr 1
  funext i
  simp only [Function.comp]
  cases k.slots[i] <;> rfl

theorem openCount_le_of_within {k k' : Tracker} (h : k.Within k') (n : Fin 32) : k.openCount n ≤ k'.openCount n := by
  rw [openCount_eq, openCount_eq]
  refine List.countP_mono_left fun i _ hi => ?_
  obtain ⟨r, hr, hn⟩ := (Option.any_eq_true _ _).1 hi
  obtain ⟨r', hr', hkey⟩ := h i r hr
  exact (Option.any_eq_true _ _).2 ⟨r', hr', by rwa [(OpenRequest.key_eq_iff.1 hkey).1]⟩

/-- R89: an entry in a free slot raises the open count of its till by one. -/
theorem openCount_setSlot_free {k : Tracker} {i : Fin 64} (hfree : k.slots[i] = none) (r : OpenRequest) (n : Fin 32) :
    (k.setSlot i (some r)).openCount n = k.openCount n + if r.till = n then 1 else 0 := by
  have hfree' : k.slots.toList[i.val]'(by simp) = none := by simpa using hfree
  simp only [Tracker.openCount, Tracker.setSlot, Vector.toList_set]
  rw [List.countP_set (by simp), hfree']
  simp

/-! ## Where the law goes on -/

/-- R86: the law goes on where no entry has a new key, and each till with an entry keeps its terms. -/
theorem TrackerLaw.of_within (h : TrackerLaw s) (hw : t.tracker.Within s.tracker)
    (hterms : ∀ (i : Fin 64) (r : OpenRequest), t.tracker.slots[i] = some r →
      (t.tills[r.till]).terms = (s.tills[r.till]).terms) : TrackerLaw t := by
  obtain ⟨henabled, hlimit, hunique⟩ := h
  refine ⟨fun i r hr => ?enabled, fun n => ?limit, fun i j r r' hr hr' hn hv htag => ?unique⟩
  case enabled =>
    obtain ⟨x, hx, hkey⟩ := hw i r hr
    have hx := henabled i x hx
    simp only [(OpenRequest.key_eq_iff.1 hkey).1] at hx
    exact (TillEntry.terms_eq_iff.1 (hterms i r hr)).1.trans hx
  case limit =>
    by_cases hentry : ∃ (i : Fin 64) (r : OpenRequest), t.tracker.slots[i] = some r ∧ r.till = n
    · obtain ⟨i, r, hr, rfl⟩ := hentry
      rw [(TillEntry.terms_eq_iff.1 (hterms i r hr)).2]
      exact (openCount_le_of_within hw _).trans (hlimit _)
    · have hnone : t.tracker.openCount n = 0 := by
        rw [openCount_eq, List.countP_eq_zero]
        intro i _ hi
        obtain ⟨r, hr, hrn⟩ := (Option.any_eq_true _ _).1 hi
        exact hentry ⟨i, r, hr, by simpa using hrn⟩
      exact hnone.trans_le (Nat.zero_le _)
  case unique =>
    obtain ⟨x, hx, hxkey⟩ := hw i r hr
    obtain ⟨x', hx', hxkey'⟩ := hw j r' hr'
    have hsame : x.key = x'.key := by
      rw [hxkey, hxkey', OpenRequest.key_eq_iff]
      exact ⟨hn, hv, htag⟩
    obtain ⟨hn, hv, htag⟩ := OpenRequest.key_eq_iff.1 hsame
    exact hunique i j x x' hx hx' hn hv htag

theorem Tracker.Within.of_slots {k k' : Tracker} (h : k.slots = k'.slots) : k.Within k' := fun i r hr =>
  ⟨r, by rwa [← h], rfl⟩

/-- The law goes on through what leaves the open request table and the tills as they were. -/
theorem TrackerLaw.keep (h : TrackerLaw s) (htracker : t.tracker = s.tracker := by rfl)
    (htills : t.tills = s.tills := by rfl) : TrackerLaw t :=
  h.of_within (.of_slots (by rw [htracker])) fun _ _ _ => by rw [htills]

theorem TrackerLaw.still (h : TrackerLaw s) (e : t.still = s.still) : TrackerLaw t :=
  h.keep (still_tracker e) (still_tills e)

theorem TrackerLaw.quiet (h : TrackerLaw s) (e : t.quiet = s.quiet) : TrackerLaw t :=
  h.keep (quiet_tracker e) (quiet_tills e)

theorem TrackerLaw.asleep (h : TrackerLaw s) (e : t.asleep = s.asleep) : TrackerLaw t :=
  
  h.keep (show t.asleep.tracker = s.asleep.tracker by rw [e]) (show t.asleep.tills = s.asleep.tills by rw [e])

/-- An operation that is taken only under a condition. -/
theorem TrackerLaw.ite {p : Prop} [Decidable p] (ht : TrackerLaw t) (hs : TrackerLaw s) :
    TrackerLaw (if p then t else s) := by
  split
  · exact ht
  · exact hs

theorem foldl_trackerLaw {α : Type} {f : State → α → State} (hf : ∀ s a, TrackerLaw s → TrackerLaw (f s a))
    (l : List α) (h : TrackerLaw s) : TrackerLaw (l.foldl f s) := by
  induction l generalizing s with
  | nil => exact h
  | cons a l ih => exact ih (hf s a h)

/-! ## The open request table -/

/-- R92, R94: a slot may be freed. -/
theorem TrackerLaw.freeSlot (h : TrackerLaw s) (i : Fin 64) : TrackerLaw (s.setSlot i none) := by
  refine h.of_within (fun j r hr => ?_) fun _ _ _ => rfl
  rw [State.setSlot_tracker, setSlot_slots] at hr
  split at hr
  · cases hr
  · exact ⟨r, hr, rfl⟩

/-- R88, R93: an entry may be replaced by one with its key. -/
theorem TrackerLaw.replaceSlot (h : TrackerLaw s) {i : Fin 64} {r x : OpenRequest} (hr : s.tracker.slots[i] = some r)
    (hx : r.key = x.key) : TrackerLaw (s.setSlot i (some x)) := by
  refine h.of_within (fun j y hy => ?_) fun _ _ _ => rfl
  rw [State.setSlot_tracker, setSlot_slots] at hy
  split at hy
  · next hji =>
    cases hy
    exact ⟨r, by rwa [hji], hx⟩
  · exact ⟨y, hy, rfl⟩

/-- R89, R90: an entry of a new key may take a free slot for an enabled till below its open limit. -/
theorem TrackerLaw.fillSlot (h : TrackerLaw s) {i : Fin 64} {x : OpenRequest} (hfree : s.tracker.slots[i] = none)
    (henabled : s.tills[x.till].enabled = true) (hroom : s.tracker.openCount x.till < s.tills[x.till].openLimit)
    (hnew : ∀ (j : Fin 64) (r : OpenRequest), s.tracker.slots[j] = some r → r.key ≠ x.key) :
    TrackerLaw (s.setSlot i (some x)) := by
  obtain ⟨hen, hlimit, hunique⟩ := h
  have hslot (j : Fin 64) : (s.setSlot i (some x)).tracker.slots[j] = if j = i then some x else s.tracker.slots[j] :=
    setSlot_slots _ _ _ _
  refine ⟨fun j r hr => ?enabled, fun n => ?limit, fun j j' r r' hr hr' hn hv htag => ?unique⟩
  case enabled =>
    rw [hslot] at hr
    split at hr
    · cases hr
      exact henabled
    · exact hen j r hr
  case limit =>
    rw [State.setSlot_tracker, openCount_setSlot_free hfree]
    split
    · next hn => exact hn ▸ hroom
    · exact hlimit n
  case unique =>
    have hkey : r.key = r'.key := OpenRequest.key_eq_iff.2 ⟨hn, hv, htag⟩
    rw [hslot] at hr hr'
    split at hr <;> split at hr'
    · next hj hj' => exact hj.trans hj'.symm
    · cases hr
      exact absurd hkey.symm (hnew j' r' hr')
    · cases hr'
      exact absurd hkey (hnew j r hr)
    · exact hunique j j' r r' hr hr' hn hv htag

/-- R98: the table may be emptied. -/
theorem TrackerLaw.of_empty (h : TrackerLaw s) (e : t.tracker.slots = Vector.replicate 64 none) : TrackerLaw t := by
  have hnone (i : Fin 64) : t.tracker.slots[i] = none := by simp [e]
  exact h.of_within (fun i r hr => nomatch (hnone i).symm.trans hr) fun i r hr => nomatch (hnone i).symm.trans hr

/-! ## Meters and forwarding (R28, R29, R58 to R64, R75 to R77) -/

theorem setMeter_trackerLaw (h : TrackerLaw s) (i : Meter) (m : ShareMeter) : TrackerLaw (s.setMeter i m) :=
  h.keep.quiet (setMeter_quiet s i m)

theorem presentMeter_trackerLaw (h : TrackerLaw s) (i : Meter) (q : UplinkQueue) (f : Frame) :
    TrackerLaw (presentMeter i q f s) :=
  let ⟨_, hm⟩ := presentMeter_quiet i q f s
  h.keep.quiet hm

theorem releaseOne_trackerLaw (i : Meter) (x : HeldFrame) (h : TrackerLaw s) : TrackerLaw (releaseOne i s x) := by
  have hcharged : TrackerLaw (chargeStation x.frame s) := by
    unfold chargeStation
    split
    · exact h
    · exact h.keep
  exact (hcharged.ite h).still (presentUplink_still _ _ _)

theorem releaseMeter_trackerLaw (h : TrackerLaw s) (i : Meter) : TrackerLaw (releaseMeter i s) := by
  unfold releaseMeter
  split
  · exact h
  · exact foldl_trackerLaw (fun _ x => releaseOne_trackerLaw i x) _ (setMeter_trackerLaw h _ _)

theorem jointTest_trackerLaw (h : TrackerLaw s) (a : Station) (f : Frame) : TrackerLaw (jointTest a f s) := by
  have htested (g : GuestEntry → GuestEntry) (m : ShareMeter) : TrackerLaw ((s.withGuest a g).setMeter .guest m) :=
    setMeter_trackerLaw h.keep _ _
  unfold jointTest
  dsimp only
  split
  · exact (setMeter_trackerLaw h _ _).still (offer_still _ _)
  · split
    · exact (htested _ _).still (offer_still _ _)
    · split
      · exact (htested _ _).still (presentUplink_still _ _ _)
      · exact (htested _ _).still (offer_still _ _)

theorem setProfile_trackerLaw (h : TrackerLaw s) (v : DayNight) (o : LevelOrigin) : TrackerLaw (setProfile v o s) := by
  unfold setProfile
  dsimp only
  split
  · exact h.keep
  · exact h.keep.quiet (switchProfile_quiet _ _ _)

theorem forwardFrame_trackerLaw (h : TrackerLaw s) (p : Passage) (copy : LookupCopy) :
    TrackerLaw (forwardFrame p copy s) := by
  unfold forwardFrame deliverForwarded
  dsimp only
  split
  · exact h.still (drop_still _ _ _)
  · split
    · exact h.still (drop_still _ _ _)
    · split
      case h_5 =>
        split
        · exact jointTest_trackerLaw h _ _
        · exact presentMeter_trackerLaw h _ _ _
        · exact h.still (presentUplink_still _ _ _)
      all_goals exact h.still (presentEgress_still _ _ _)

/-! ## The request tracker (R30, R87 to R95) -/

theorem hasKey_iff (r : OpenRequest) (n : Fin 32) (v : Service) (tag : BitVec 32) :
    r.hasKey n v tag = true ↔ r.key = (n, v, tag) := by
  simp only [OpenRequest.hasKey, OpenRequest.key, Bool.and_eq_true, beq_iff_eq, Prod.mk.injEq, and_assoc]

theorem findKey_some {k : Tracker} {n : Fin 32} {v : Service} {tag : BitVec 32} {i : Fin 64}
    (h : k.findKey n v tag = some i) : k.slots[i] ≠ none := by
  intro hnone
  have hi := List.find?_some h
  rw [hnone] at hi
  exact Bool.false_ne_true hi

/-- R87, test 4: where no slot is found for a key, no entry has it. -/
theorem findKey_none {k : Tracker} {n : Fin 32} {v : Service} {tag : BitVec 32} (h : k.findKey n v tag = none)
    (j : Fin 64) (r : OpenRequest) (hr : k.slots[j] = some r) : r.key ≠ (n, v, tag) := by
  have hj := List.find?_eq_none.1 h j (List.mem_finRange j)
  rwa [hr, hasKey_iff] at hj

theorem freeSlot_some {k : Tracker} {i : Fin 64} (h : k.freeSlot = some i) : k.slots[i] = none :=
  Option.isNone_iff_eq_none.1 (List.find?_some (p := fun i : Fin 64 => k.slots[i].isNone) h)

/-- R89, R90: a new request is tracked below its till's open limit alone, in a free slot. -/
theorem trackNew_trackerLaw (h : TrackerLaw s) (p : Passage) (copy : LookupCopy) {n : Fin 32} {tag : BitVec 32}
    (henabled : s.tills[n].enabled = true) (hnew : ∀ (j : Fin 64) (r : OpenRequest), s.tracker.slots[j] = some r →
      r.key ≠ (n, p.ip.sourceService.getD 0, tag)) : TrackerLaw (trackNew p copy n tag s) := by
  unfold trackNew
  dsimp only
  split
  · exact h.still (offer_still _ _)
  · next hroom =>
    split
    · exact (h.still (offer_still _ _)).still (sendTracked_still _ _ _)
    · next i hi =>
      have hfilled : TrackerLaw (s.setSlot i (some (newRequest s p copy n tag))) :=
        h.fillSlot (freeSlot_some hi) henabled (Nat.not_le.1 hroom) hnew
      exact (hfilled.still (offer_still _ _)).still (sendTracked_still _ _ _)

/-- R88: a repeat keeps the key of its entry. -/
theorem trackKeyed_trackerLaw (h : TrackerLaw s) (p : Passage) (copy : LookupCopy) {n : Fin 32}
    (henabled : s.tills[n].enabled = true) : TrackerLaw (trackKeyed p copy n s) := by
  unfold trackKeyed
  dsimp only
  split
  · next i hi =>
    split
    · next r hr =>
      have hrepeated (deadline : Tick) : TrackerLaw (s.setSlot i (some (r.repeated deadline))) := h.replaceSlot hr rfl
      exact (hrepeated _).still (sendTracked_still _ _ _)
    · next hnone => exact absurd hnone (findKey_some hi)
  · next hnone => exact trackNew_trackerLaw h p copy henabled (findKey_none hnone)

theorem enabled_of_tillStillHolds {p : Passage} {n : Fin 32} (h : tillStillHolds s p n = true) :
    s.tills[n].enabled = true := by
  simp only [tillStillHolds, Bool.and_eq_true] at h
  exact h.1.1

/-- R87: each test of a Track frame drops it, and the last lets through a frame of an enabled till. -/
theorem trackFrame_trackerLaw (h : TrackerLaw s) (p : Passage) (copy : LookupCopy) :
    TrackerLaw (trackFrame p copy s) := by
  unfold trackFrame
  dsimp only
  repeat' split
  case h_2.isFalse.isFalse hholds _ =>
    exact trackKeyed_trackerLaw h p copy (enabled_of_tillStillHolds (by simpa using hholds))
  all_goals exact h.still (drop_still _ _ _)

theorem replyFrame_trackerLaw (h : TrackerLaw s) (p : Passage) (i : Fin 64) (r : OpenRequest) :
    TrackerLaw (replyFrame p i r s) := by
  have hfreed (o : Occurrence) : TrackerLaw ((if r.state = .heldOver then offer o s else s).setSlot i none) :=
    ((h.still (offer_still _ _)).ite h).freeSlot i
  unfold replyFrame
  dsimp only
  split
  · exact h.still (drop_still _ _ _)
  · split
    · exact (hfreed _).still (drop_still _ _ _)
    · exact (hfreed _).still (presentEgress_still _ _ _)

theorem heldOverAfter_trackerLaw (h : TrackerLaw s) {i : Fin 64} {r : OpenRequest} (hr : s.tracker.slots[i] = some r) :
    TrackerLaw (heldOverAfter i r s) := by
  unfold heldOverAfter
  split
  · exact (h.freeSlot i).still (offer_still _ _)
  · exact h.replaceSlot hr rfl

theorem expireHeldOver_trackerLaw (h : TrackerLaw s) (i : Fin 64) (r : OpenRequest) :
    TrackerLaw (expireHeldOver i r s) := (h.freeSlot i).still (offer_still _ _)

/-- R95: a hold-over notice sent and counted leaves all but the queues and the counts as they were. -/
theorem noticed_still (d : Datagram) (o : Occurrence) (s : State) :
    (offer o (originate d (presentEgress .till) s)).still = s.still :=
  (offer_still _ _).trans (originate_still d (presentEgress_still .till) s)

theorem expireWaiting_trackerLaw (h : TrackerLaw s) {i : Fin 64} {r : OpenRequest} (hr : s.tracker.slots[i] = some r) :
    TrackerLaw (expireWaiting i r s) := by
  unfold expireWaiting
  split
  · exact heldOverAfter_trackerLaw (h.still (noticed_still _ _ s)) (by rwa [still_tracker (noticed_still _ _ s)])
  · exact (h.freeSlot i).still (offer_still _ _)

/-- R93: an entry that is due at its slot is the slot's. -/
theorem dueRequest_some {i : Fin 64} {x : RequestState} {r : OpenRequest} (h : dueRequest s i x = some r) :
    s.tracker.slots[i] = some r := by
  unfold dueRequest at h
  split at h
  · next hr =>
    split at h
    · rw [hr, h]
    · cases h
  · cases h

/-! ## The spool unit (R101 to R107) -/

theorem answerTill_trackerLaw (h : TrackerLaw s) (p : Passage) (copy : LookupCopy) (n : Fin 32) (kind code : Nat)
    (number sequence : Seq) (event : SpoolEvent) :
    TrackerLaw (answerTill p copy n kind code number sequence event s) := h.still (noticed_still _ _ s)

/-- R104: the last accepted record number is none of a till's terms. -/
theorem withLastAccepted_trackerLaw (h : TrackerLaw s) (n : Fin 32) (number : Seq) :
    TrackerLaw (s.withLastAccepted n number) := by
  refine h.of_within (.of_slots rfl) fun i r _ => ?_
  simp only [State.withLastAccepted, Fin.getElem_fin, Vector.getElem_set]
  split
  · next hn =>
    simp only [hn]
    rfl
  · rfl

theorem appendNew_trackerLaw (h : TrackerLaw s) (p : Passage) (copy : LookupCopy) (n : Fin 32) (number : Seq) :
    TrackerLaw (appendNew p copy n number s) := by
  unfold appendNew
  dsimp only
  split
  · have happended : TrackerLaw (append n number (udpPayload p.bytes p.ip) s) :=
      (withLastAccepted_trackerLaw h.keep n number).quiet (compareChanged_quiet _ _ _)
    exact (answerTill_trackerLaw happended _ _ _ _ _ _ _ _).asleep (nightFollow_asleep _)
  · exact answerTill_trackerLaw h _ _ _ _ _ _ _ _

theorem checkRecord_trackerLaw (h : TrackerLaw s) (p : Passage) (copy : LookupCopy) (n : Fin 32) :
    TrackerLaw (checkRecord p copy n s) := by
  have hanswered (kind code : Nat) (number sequence : Seq) (event : SpoolEvent) :=
    answerTill_trackerLaw h p copy n kind code number sequence event
  unfold checkRecord deduplicate
  dsimp only
  repeat' split
  case h_1 => exact appendNew_trackerLaw h _ _ _ _
  case h_2.isFalse.isTrue => exact appendNew_trackerLaw h _ _ _ _
  case h_2.isFalse.isFalse => exact appendNew_trackerLaw (h.still (offer_still _ _)) _ _ _ _
  all_goals exact hanswered _ _ _ _ _

/-- R101: each test of a Spool frame drops it, and the last lets it through. -/
theorem spoolFrame_trackerLaw (h : TrackerLaw s) (p : Passage) (copy : LookupCopy) :
    TrackerLaw (spoolFrame p copy s) := by
  unfold spoolFrame
  dsimp only
  repeat' split
  case h_2.isFalse.isFalse.isFalse => exact checkRecord_trackerLaw h _ _ _
  all_goals exact h.still (drop_still _ _ _)

end Sys2Proof.Machine

/-! SUPPORT. The night engine, the label engine, the schedule, their messages and the receive path keep the tracker law
(R86). -/

namespace Sys2Proof.Machine

/- The proofs below run one after another: run together, their waiting threads outgrow the memory a check may use. -/
set_option Elab.async false

variable {s : State}

/-! ## The night engine (R121 to R140) -/

theorem nightFollow_trackerLaw (h : TrackerLaw s) : TrackerLaw (nightFollow s) := h.asleep (nightFollow_asleep s)

theorem failSession_trackerLaw (h : TrackerLaw s) : TrackerLaw (failSession s) := by
  unfold failSession
  split
  · exact h.keep
  · exact h.keep.still (raise_still _ _)

theorem placeCall_trackerLaw (h : TrackerLaw s) (n : Nat) : TrackerLaw (placeCall n s) :=
  (h.keep.still (sendOpen_still { s with night := { s.night with attempts := n, backoffTimer := none } })).keep

theorem nightCall_trackerLaw (h : TrackerLaw s) : TrackerLaw (nightCall s) := by
  unfold nightCall
  split
  · exact placeCall_trackerLaw h _
  · exact h

theorem takeAck_trackerLaw (h : TrackerLaw s) (a : Station) (n : Seq) : TrackerLaw (takeAck a n s) := by
  have hremoved : TrackerLaw (removeAcked (s.journal.covered n) s) := h.keep.quiet (compareChanged_quiet _ _ _)
  unfold takeAck
  dsimp only
  split
  · exact h.still (offer_still _ _)
  · split
    · exact nightFollow_trackerLaw hremoved.keep
    · exact hremoved

theorem ackExpires_trackerLaw (h : TrackerLaw s) : TrackerLaw (ackExpires s) := by
  unfold ackExpires
  dsimp only
  split
  · exact nightFollow_trackerLaw h.keep
  · exact failSession_trackerLaw h.keep

theorem closeSession_trackerLaw (h : TrackerLaw s) : TrackerLaw (closeSession s) :=
  (h.still (sendClosed_still s)).keep

/-! ## The label engine (R137 to R154) -/

theorem deliveries_trackerLaw (h : TrackerLaw s) : TrackerLaw (deliveries s) :=
  let ⟨_, hl⟩ := deliveries_still s
  h.keep.still hl

theorem labelRecovery_trackerLaw (h : TrackerLaw s) : TrackerLaw (labelRecovery s) :=
  h.keep.quiet (labelRecovery_quiet s)

theorem takeUpdates_trackerLaw (a : Station) (ws : List LabelWire) (h : TrackerLaw s) :
    TrackerLaw (takeUpdates a ws s).1 := by
  induction ws generalizing s with
  | nil => exact h
  | cons w ws ih =>
    unfold takeUpdates
    split
    · exact ih (h.keep.still (offer_still _ _))
    · split
      · exact ih h.keep
      · exact h

theorem freeLabelBlock_trackerLaw (h : TrackerLaw s) : TrackerLaw (freeLabelBlock s) :=
  h.keep.quiet (compareChanged_quiet _ _ _)

theorem giveUp_trackerLaw (h : TrackerLaw s) (x : LabelUpdate) (why : GivenUp) (o : Origin) :
    TrackerLaw (giveUp x why o s) := by
  have hlost : TrackerLaw (loseOldest (freeLabelBlock s)) := by
    unfold loseOldest
    split
    · exact freeLabelBlock_trackerLaw h
    · exact ((freeLabelBlock_trackerLaw h).keep.still (offer_still _ _)).still (raise_still _ _)
  exact hlost.keep.still (offer_still _ _)

theorem applyOutcome_trackerLaw (h : TrackerLaw s) (x : LabelUpdate) (v : LabelOutcome) (o : Origin) :
    TrackerLaw (applyOutcome x v o s) := by
  unfold applyOutcome returnUpdate
  split
  · exact (freeLabelBlock_trackerLaw h).still (offer_still _ _)
  · exact giveUp_trackerLaw h _ _ _
  · split
    · exact giveUp_trackerLaw h _ _ _
    · split
      · exact (freeLabelBlock_trackerLaw h).still (offer_still _ _)
      · exact h.keep

theorem takeOutcome_trackerLaw (h : TrackerLaw s) (n : BitVec 24) (v : LabelOutcome) (o : Origin) :
    TrackerLaw (takeOutcome n v o s) := by
  unfold takeOutcome
  split
  · exact h.still (offer_still _ _)
  · exact deliveries_trackerLaw (applyOutcome_trackerLaw h.keep _ _ _)

/-! ## Clock and schedule (R159 to R166) -/

theorem setLabelWindow_trackerLaw (h : TrackerLaw s) (v : Gate) (o : LevelOrigin) :
    TrackerLaw (setLabelWindow v o s) := by
  unfold setLabelWindow
  exact (deliveries_trackerLaw h.keep).ite h.keep

theorem setGuestState_trackerLaw (h : TrackerLaw s) (v : Gate) (o : LevelOrigin) :
    TrackerLaw (setGuestState v o s) := by
  unfold setGuestState
  exact TrackerLaw.ite h.keep h.keep

theorem act_trackerLaw (h : TrackerLaw s) (action : ScheduleAction) (o : LevelOrigin) :
    TrackerLaw (act action o s) := by
  cases action with
  | dayProfile => exact setProfile_trackerLaw h _ _
  | nightProfile => exact setProfile_trackerLaw h _ _
  | labelsOpen => exact setLabelWindow_trackerLaw h _ _
  | labelsClosed => exact setLabelWindow_trackerLaw h _ _
  | guestOpen => exact setGuestState_trackerLaw h _ _
  | guestClosed => exact setGuestState_trackerLaw h _ _
  | call => exact nightCall_trackerLaw h

theorem fireEntries_trackerLaw (h : TrackerLaw s) : TrackerLaw (fireEntries s) := by
  unfold fireEntries
  exact (foldl_trackerLaw (fun _ _ h => (act_trackerLaw h _ _).ite h) _ h).ite h

theorem replay_trackerLaw (h : TrackerLaw s) : TrackerLaw (replay s) := by
  refine foldl_trackerLaw (fun s k h => ?_) _ h
  unfold replayKind
  split
  · exact h
  · exact act_trackerLaw h _ _

theorem clockSet_trackerLaw (h : TrackerLaw s) (day second : Nat) : TrackerLaw (clockSet day second s) := by
  unfold clockSet
  exact (replay_trackerLaw h.keep).ite h.keep

/-! ## Messages (R120, R146) -/

theorem ifTaken_trackerLaw (h : TrackerLaw s) (m : NightSource) (inRange : Bool) {take : State → State}
    (ht : TrackerLaw (take s)) : TrackerLaw (ifTaken m inRange take s) := by
  unfold ifTaken
  exact ht.ite (h.still (offer_still _ _))

theorem wakeMessage_trackerLaw (h : TrackerLaw s) (m : NightSource) : TrackerLaw (wakeMessage m s) :=
  ifTaken_trackerLaw h m _ (nightCall_trackerLaw h)

theorem grantTaken_trackerLaw (h : TrackerLaw s) (window : Byte) : TrackerLaw (grantTaken window s) := by
  unfold grantTaken
  split
  · exact h.keep
  · exact h.keep
  · exact h

/-- R161: a GRANT may set the clock, and a replay follows. -/
theorem grantMessage_trackerLaw (h : TrackerLaw s) (m : NightSource) (window : Byte) (day : BitVec 16)
    (second : BitVec 32) : TrackerLaw (grantMessage m window day second s) := by
  have htaken := grantTaken_trackerLaw h window
  refine ifTaken_trackerLaw h m _ ?_
  unfold takeGrant
  exact (nightFollow_trackerLaw ((clockSet_trackerLaw htaken _ _).ite htaken)).ite h

theorem ackMessage_trackerLaw (h : TrackerLaw s) (m : NightSource) (n : Seq) : TrackerLaw (ackMessage m n s) :=
  ifTaken_trackerLaw h m _ (takeAck_trackerLaw h _ _)

theorem labelsMessage_trackerLaw (h : TrackerLaw s) (m : NightSource) (batch : BitVec 32) (ws : List LabelWire) :
    TrackerLaw (labelsMessage m batch ws s) := by
  refine ifTaken_trackerLaw h m _ ?_
  unfold takeLabels
  exact (deliveries_trackerLaw (((takeUpdates_trackerLaw _ ws h).quiet (compareChanged_quiet _ _ _)).still
    (sendLabelAck_still _ _ _))).ite (h.still (offer_still _ _))

theorem finishMessage_trackerLaw (h : TrackerLaw s) (m : NightSource) : TrackerLaw (finishMessage m s) := by
  refine ifTaken_trackerLaw h m _ ?_
  unfold finishSession
  exact (closeSession_trackerLaw h).ite h

theorem overUplink_trackerLaw (h : TrackerLaw s) (a : Station) {take : State → State} (ht : TrackerLaw (take s)) :
    TrackerLaw (overUplink a take s) := by
  unfold overUplink
  exact h.ite ((h.still (drop_still _ _ _)).ite ht)

theorem nightDatagram_trackerLaw (h : TrackerLaw s) (a : Station) (b : NetAddr) (v : Service) (payload : Bytes) :
    TrackerLaw (nightDatagram a b v payload s) := by
  unfold nightDatagram
  split
  · exact wakeMessage_trackerLaw h _
  · exact grantMessage_trackerLaw h _ _ _ _
  · exact ackMessage_trackerLaw h _ _
  · exact labelsMessage_trackerLaw h _ _ _
  · exact finishMessage_trackerLaw h _
  · exact h.still (offer_still _ _)

theorem readyMessage_trackerLaw (h : TrackerLaw s) (slots : Byte) : TrackerLaw (readyMessage slots s) :=
  deliveries_trackerLaw h.keep

theorem outcomeMessage_trackerLaw (h : TrackerLaw s) (a : Station) (n : BitVec 24) (v : Byte) :
    TrackerLaw (outcomeMessage a n v s) := by
  unfold outcomeMessage
  split
  · exact h.still (drop_still _ _ _)
  · exact (h.still (drop_still _ _ _)).ite (takeOutcome_trackerLaw h _ _ _)

theorem overLabel_trackerLaw (h : TrackerLaw s) (a : Station) {take : State → State} (ht : TrackerLaw (take s)) :
    TrackerLaw (overLabel a take s) := by
  unfold overLabel
  exact h.ite ((h.still (drop_still _ _ _)).ite ((h.still (drop_still _ _ _)).ite ht))

theorem baseStationDatagram_trackerLaw (h : TrackerLaw s) (a : Station) (payload : Bytes) :
    TrackerLaw (baseStationDatagram a payload s) := by
  unfold baseStationDatagram
  split
  · exact readyMessage_trackerLaw h _
  · exact outcomeMessage_trackerLaw h _ _ _
  · exact h.still (drop_still _ _ _)

/-! ## The receive path (R5 to R12, R25, R71 to R73, R91) -/

theorem joinRequests_trackerLaw (h : TrackerLaw s) (port : Segment) (a : Station) (r : Request) :
    TrackerLaw (joinRequests port a r s) := by
  unfold joinRequests setAlertDestination
  split
  · split
    · exact h.keep.still (alertTest_still _)
    · exact h.keep
  · exact h.still (offer_still _ _)

theorem lookupFrame_trackerLaw (h : TrackerLaw s) (p : Passage) : TrackerLaw (lookupFrame p s) := by
  have hlooked : TrackerLaw (s.lookedUp p) := h.keep.still (lookedUp_still s p)
  rw [lookupFrame_eq]
  unfold takeAction
  split
  · exact forwardFrame_trackerLaw hlooked _ _
  · exact trackFrame_trackerLaw hlooked _ _
  · exact spoolFrame_trackerLaw hlooked _ _
  · exact hlooked.still (drop_still _ _ _)

theorem passOn_trackerLaw (h : TrackerLaw s) (p : Passage) : TrackerLaw (passOn p s) := by
  unfold passOn
  split
  · split
    · exact replyFrame_trackerLaw h _ _ _
    · exact lookupFrame_trackerLaw h _
  · exact lookupFrame_trackerLaw h _

theorem deliverLocal_trackerLaw (p : Passage) (h : TrackerLaw s) : TrackerLaw (deliverLocal p s) := by
  have hdropped (r : DropReason) (o : Origin) : TrackerLaw (drop r o s) := h.still (drop_still r o s)
  have hrequest : TrackerLaw (remoteRequest p.bytes p.ip s) :=
    (joinRequests_trackerLaw h _ _ _).ite (hdropped _ _)
  have hnight := nightDatagram_trackerLaw h (sourceStation p.bytes) p.ip.source (p.ip.sourceService.getD 0)
    (udpPayload p.bytes p.ip)
  have hlabel := baseStationDatagram_trackerLaw h (sourceStation p.bytes) (udpPayload p.bytes p.ip)
  unfold deliverLocal deliverRunning
  exact hrequest.ite (((hnight.ite (hdropped _ _)).ite ((hlabel.ite (hdropped _ _)).ite
    ((hdropped _ _).ite (passOn_trackerLaw h p)))).ite (hdropped _ _))

section
variable {next : State → State} (hn : ∀ t, TrackerLaw t → TrackerLaw (next t))
include hn

theorem unknownGuest_trackerLaw (h : TrackerLaw s) (a : Station) (b : NetAddr) (n : Nat) :
    TrackerLaw (unknownGuest a b n next s) := by
  unfold unknownGuest
  dsimp only
  split
  · exact h.still (drop_still _ _ _)
  · split
    · exact hn _ h.keep
    · split
      · exact h.still (drop_still _ _ _)
      · next v _ =>
        have hevicted : TrackerLaw (s.withTable (without s.guest.table v.station)) := h.keep
        exact hn _ (hevicted.still (offer_still _ _)).keep

theorem guestSource_trackerLaw (h : TrackerLaw s) (a : Station) (b : NetAddr) (n : Nat) :
    TrackerLaw (guestSource a b n next s) := by
  have hdropped (r : DropReason) (o : Origin) : TrackerLaw (drop r o s) := h.still (drop_still r o s)
  unfold guestSource
  dsimp only
  split
  · exact hdropped _ _
  · split
    · exact hdropped _ _
    · split
      · unfold knownGuest
        exact (hdropped _ _).ite ((hdropped _ _).ite (hn _ h.keep))
      · exact unknownGuest_trackerLaw hn h a b n

end

theorem sourceCheck_trackerLaw (h : TrackerLaw s) {next : Option (Fin 32) → State → State}
    (hn : ∀ i t, TrackerLaw t → TrackerLaw (next i t)) (port : Segment) (a : Station) (b : NetAddr) (n : Nat) :
    TrackerLaw (sourceCheck port a b n next s) := by
  unfold sourceCheck
  split
  · exact hn _ _ h
  · split
    · split
      · exact hn _ _ h
      · exact h.still (drop_still _ _ _)
    · exact guestSource_trackerLaw (hn none) h _ _ _
    · exact hn _ _ h

theorem sortFrame_trackerLaw (h : TrackerLaw s) (port : Segment) (bs : Bytes) : TrackerLaw (sortFrame port bs s) := by
  have hdropped : TrackerLaw (drop .unsupported (receivedOrigin port (sourceStation bs)) s) :=
    h.still (drop_still _ _ s)
  have hipv4 : TrackerLaw (ipv4Frame port bs s) := by
    unfold ipv4Frame
    split
    · exact hdropped
    · exact sourceCheck_trackerLaw h (fun _ _ => deliverLocal_trackerLaw _) _ _ _ _
  have harp : TrackerLaw (sourceCheck port (sourceStation bs) (word32 bs 28) bs.length
      (fun _ s => arpFrame port bs s) s) :=
    sourceCheck_trackerLaw h (fun _ t ht => ht.still (arpFrame_still _ _ t)) _ _ _ _
  exact (hdropped.ite hipv4).ite (harp.ite ((joinRequests_trackerLaw h _ _ _).ite hdropped))

theorem receiveFrame_trackerLaw (h : TrackerLaw s) (port : Segment) (fcs : Bool) (bs : Bytes) :
    TrackerLaw (receiveFrame port fcs bs s) := by
  unfold receiveFrame
  exact h.ite ((h.still (offer_still _ _)).ite (h.ite (sortFrame_trackerLaw (h.still (offer_still _ _)) _ _)))

end Sys2Proof.Machine

/-! SUPPORT. Every command keeps the tracker law (R86). -/

namespace Sys2Proof.Machine

/- The proofs below run one after another: run together, their waiting threads outgrow the memory a check may use. -/
set_option Elab.async false

variable {c : Instr} {s t : State}

/-! ## The command event (R183, R188) -/

section
variable {q : Requester} {i : Instr} {code : Nat} {run : State → CmdResult}

theorem openCommand_trackerLaw (h : TrackerLaw s) (hrun : ∀ {s}, TrackerLaw s → TrackerLaw (run s).state) :
    TrackerLaw (openCommand q i code run s) := by
  obtain ⟨_, htaken⟩ := takeRequest_eq i s
  have hstart : TrackerLaw (takeRequest i s) := by
    rw [htaken]
    exact h.keep
  exact (hrun hstart).still (openCommand_still q i code run s)

theorem lockedCommand_trackerLaw (h : TrackerLaw s) (hrun : ∀ {s}, TrackerLaw s → TrackerLaw (run s).state) :
    TrackerLaw (lockedCommand q i code run s) := by
  refine openCommand_trackerLaw h fun {s} h => ?_
  split
  · exact (hrun h).keep
  · exact h

end

/-! ## The writes (R187) -/

theorem writePortsRun_trackerLaw (h : TrackerLaw s) (first : BitVec 32) (es : List PortsWrite) :
    TrackerLaw (writePortsRun first es s).state := by
  refine writeSingle_state h fun w => ?_
  unfold writePortsEntry
  split
  · exact h
  · split
    · exact h
    · split
      · exact h
      · exact deliveries_trackerLaw h.keep

theorem writeOfficeRun_trackerLaw (h : TrackerLaw s) (first : BitVec 32) (es : List OfficeStation) :
    TrackerLaw (writeOfficeRun first es s).state := by
  refine writeMany_state h ?_
  dsimp only
  split
  · exact h
  · exact h.keep

theorem writeWindowRun_trackerLaw (h : TrackerLaw s) (k : BankId) (first : BitVec 32) (es : List WindowWrite) :
    TrackerLaw (writeWindowRun k first es s).state := by
  unfold writeWindowRun
  split
  · exact h
  · exact writeNamed_state h h.keep

theorem writeDefaultsRun_trackerLaw (h : TrackerLaw s) (k : BankId) (first : BitVec 32) (es : List DefaultWrite) :
    TrackerLaw (writeDefaultsRun k first es s).state := by
  unfold writeDefaultsRun
  split
  · exact h
  · exact writeNamed_state h h.keep

theorem writeIdentityRun_trackerLaw (h : TrackerLaw s) (first : BitVec 32) (es : List (BitVec 32)) :
    TrackerLaw (writeIdentityRun first es s).state := by
  refine writeMany_state h ?_
  dsimp only
  split
  · exact h.keep
  · exact h

theorem writeMetersRun_trackerLaw (h : TrackerLaw s) (first : BitVec 32) (es : List MeterWrite) :
    TrackerLaw (writeMetersRun first es s).state := by
  refine writeMany_state h ?_
  dsimp only
  split
  · exact h
  · exact foldl_trackerLaw (fun _ _ h => setMeter_trackerLaw h _ _) _ h

theorem writeThresholdsRun_trackerLaw (h : TrackerLaw s) (first : BitVec 32) (es : List PairWrite) :
    TrackerLaw (writeThresholdsRun first es s).state := writeMany_state h h.keep

theorem writeGuestRun_trackerLaw (h : TrackerLaw s) (first : BitVec 32) (es : List GuestWrite) :
    TrackerLaw (writeGuestRun first es s).state := writeSingle_state h fun _ => h.keep

/-- R84: a till of the table that is not written stays as it was. -/
theorem tillsWritten_outside {first : BitVec 32} {ws : List TillWrite} {n : Fin 32}
    (h : ¬ (first.toNat - 1 ≤ n.val ∧ n.val < first.toNat - 1 + ws.length)) :
    (tillsWritten s first ws)[n] = s.tills[n] := by
  simp only [tillsWritten, writeRun, Fin.getElem_fin, Vector.getElem_ofFn]
  split
  · next hlow => rw [List.getElem?_eq_none (by rw [List.length_map]; omega), Option.getD_none]
  · rfl

/-- R84: an entry left after the entries of some tills are freed was there, and is of another till. -/
theorem freeTills_eq_some {k : Tracker} {written : Fin 32 → Bool} {i : Fin 64} {r : OpenRequest}
    (h : (k.freeTills written).slots[i] = some r) : k.slots[i] = some r ∧ written r.till = false := by
  cases hi : k.slots[i] with
  | none => rw [freeTills_none written hi] at h; cases h
  | some x =>
    rw [freeTills_some written hi] at h
    split at h
    · cases h
    · next hx =>
      cases h
      exact ⟨rfl, Bool.eq_false_iff.2 hx⟩

/-- R84: the entries of the tills written are freed, so that every entry left is of a till with its terms. -/
theorem writeTillsRun_trackerLaw (h : TrackerLaw s) (first : BitVec 32) (ws : List TillWrite) :
    TrackerLaw (writeTillsRun first ws s).state := by
  refine writeNamed_state h (h.of_within (fun i r hr => ⟨r, (freeTills_eq_some hr).1, rfl⟩) fun i r hr => ?_)
  exact congrArg TillEntry.terms (tillsWritten_outside (of_decide_eq_false (freeTills_eq_some hr).2))

theorem writeTrackerRun_trackerLaw (h : TrackerLaw s) (first : BitVec 32) (ws : List TrackerWrite) :
    TrackerLaw (writeTrackerRun first ws s).state :=
  writeSingle_state h fun _ => h.of_within (.of_slots rfl) fun _ _ _ => rfl

theorem writeScheduleRun_trackerLaw (h : TrackerLaw s) (first : BitVec 32) (es : List ScheduleWrite) :
    TrackerLaw (writeScheduleRun first es s).state := by
  refine writeMany_state h ?_
  split
  · exact h
  · exact h.keep

/-- A write of a table with one index whose entry is nothing to the request tracker and the tills. -/
theorem writeSingle_trackerLaw {α : Type} {first : BitVec 32} {entries : List α} {take : α → State → CmdResult}
    (h : TrackerLaw s)
    (hk : ∀ w s, (take w s).state.tracker = s.tracker ∧ (take w s).state.tills = s.tills) :
    TrackerLaw (writeSingle first entries take s).state :=
  writeSingle_state h fun w => h.keep (hk w s).1 (hk w s).2

/-- R187: what the bytes of a WRITE spell keeps the law as the write of its table does. -/
theorem writeRunOf_trackerLaw {q : Requester} {table : Byte} {first : BitVec 32} {count : BitVec 16} {data : Bytes}
    {run : State → CmdResult} (hrun : writeRunOf q table first count data = some run) (h : TrackerLaw s) :
    TrackerLaw (run s).state := by
  unfold writeRunOf at hrun
  split at hrun <;> cases hrun
  · exact writePortsRun_trackerLaw h _ _
  · exact writeOfficeRun_trackerLaw h _ _
  · exact writeWindowRun_trackerLaw h _ _ _
  · exact writeDefaultsRun_trackerLaw h _ _ _
  · exact writeIdentityRun_trackerLaw h _ _
  · exact writeSingle_trackerLaw h fun _ _ => ⟨rfl, rfl⟩
  · exact writeMetersRun_trackerLaw h _ _
  · exact writeThresholdsRun_trackerLaw h _ _
  · exact writeSingle_trackerLaw h fun _ _ => ⟨rfl, rfl⟩
  · exact writeTillsRun_trackerLaw h _ _
  · exact writeTrackerRun_trackerLaw h _ _
  · exact writeSingle_trackerLaw h fun _ _ => ⟨rfl, rfl⟩
  · exact writeSingle_trackerLaw h fun _ _ => ⟨rfl, rfl⟩
  · exact writeSingle_trackerLaw h fun _ _ => ⟨rfl, rfl⟩
  · exact writeScheduleRun_trackerLaw h _ _
  · exact writeSingle_trackerLaw h fun _ _ => ⟨rfl, rfl⟩
  · exact writeSingle_trackerLaw h fun _ _ => ⟨rfl, rfl⟩
  · exact h

/-! ## The other commands -/

theorem withCursor_trackerLaw (h : TrackerLaw s) (p : Party) (x : Cursor) : TrackerLaw (s.withCursor p x) :=
  h.keep (State.withCursor_tracker _ _ _) (State.withCursor_tills _ _ _)

theorem readTable_trackerLaw (h : TrackerLaw s) (q : Requester) (table : Byte) (first : BitVec 32) (count : BitVec 16) :
    TrackerLaw (readTable q table first count s).state := by
  unfold readTable
  split
  · exact h
  · split
    · exact h
    · exact withCursor_trackerLaw h _ _

theorem readOn_trackerLaw (h : TrackerLaw s) (q : Requester) (count : BitVec 16) :
    TrackerLaw (readOn q count s).state := by
  unfold readOn
  split
  · exact h
  · exact withCursor_trackerLaw h _ _

theorem swapRun_trackerLaw (h : TrackerLaw s) : TrackerLaw (swapRun s).state := by
  unfold swapRun
  split
  · exact h
  · exact h.keep

theorem openRun_trackerLaw (h : TrackerLaw s) : TrackerLaw (openRun s).state := by
  have hopened : TrackerLaw (s.withPart .running) := h.keep
  unfold openRun
  split
  · exact h
  · exact (replay_trackerLaw hopened).ite hopened

/-- R98: CLOSE empties the open request table. -/
theorem closeRun_trackerLaw (h : TrackerLaw s) : TrackerLaw (closeRun s).state := by
  unfold closeRun
  split
  · exact h.of_empty (by rw [done, quiet_tracker (closePart_quiet s)]; rfl)
  · exact h

theorem profileRun_trackerLaw (h : TrackerLaw s) (v : Byte) : TrackerLaw (profileRun v s).state := by
  unfold profileRun
  split
  · exact setProfile_trackerLaw h _ _
  · exact setProfile_trackerLaw h _ _
  · exact h

theorem labelsRun_trackerLaw (h : TrackerLaw s) (v : Byte) : TrackerLaw (labelsRun v s).state := by
  unfold labelsRun
  split
  · exact setLabelWindow_trackerLaw h _ _
  · exact h

theorem guestRun_trackerLaw (h : TrackerLaw s) (v : Byte) : TrackerLaw (guestRun v s).state := by
  unfold guestRun
  split
  · exact setGuestState_trackerLaw h _ _
  · exact h

theorem callRun_trackerLaw (h : TrackerLaw s) : TrackerLaw (callRun s).state := by
  unfold callRun
  split
  · exact nightCall_trackerLaw h
  · exact h

theorem stopRun_trackerLaw (h : TrackerLaw s) : TrackerLaw (stopRun s).state := by
  unfold stopRun
  split
  · exact h
  · exact closeSession_trackerLaw h

theorem discardRun_trackerLaw (h : TrackerLaw s) : TrackerLaw (discardRun s).state := by
  unfold discardRun
  split
  · exact h.keep.quiet (compareChanged_quiet _ _ _)
  · exact h

theorem adjustQueuesRun_trackerLaw (h : TrackerLaw s) (w : QueueLimitsWrite) :
    TrackerLaw (adjustQueuesRun w s).state := by
  unfold adjustQueuesRun
  split
  · exact h
  · exact nightFollow_trackerLaw h.keep

theorem barRun_trackerLaw (h : TrackerLaw s) (a : Station) : TrackerLaw (barRun a s).state := by
  unfold barRun
  split
  · exact h
  · exact h.keep

theorem unbarRun_trackerLaw (h : TrackerLaw s) (a : Station) : TrackerLaw (unbarRun a s).state := by
  unfold unbarRun
  split
  · exact h
  · split
    · exact h.keep
    · exact h

theorem configureRun_trackerLaw (h : TrackerLaw s) (ws : Vector CounterWrite 8) (g : GroupControls) :
    TrackerLaw (configureRun ws g s).state := by
  unfold configureRun
  split
  · exact h.keep
  · exact h.keep

theorem startRun_trackerLaw (h : TrackerLaw s) (form : Byte) : TrackerLaw (startRun form s).state := by
  unfold startRun
  split
  · exact h.keep
  · exact h.keep

theorem clearRun_trackerLaw (h : TrackerLaw s) (ns : List Byte) : TrackerLaw (clearRun ns s).state := by
  unfold clearRun
  split
  · exact h.keep
  · exact h.keep

theorem alertClearRun_trackerLaw (h : TrackerLaw s) (xs : List Byte) : TrackerLaw (alertClearRun xs s).state := by
  unfold alertClearRun
  split
  · exact h.keep
  · exact h.keep

theorem claimRun_trackerLaw (h : TrackerLaw s) (p : Party) : TrackerLaw (claimRun p s).state := by
  unfold claimRun
  split
  · exact h.keep
  · exact h.keep

theorem releaseRun_trackerLaw (h : TrackerLaw s) (p : Party) : TrackerLaw (releaseRun p s).state := by
  unfold releaseRun
  split
  · exact h.keep
  · exact h.keep

/-! ## The events -/

theorem afterLinkLoss_trackerLaw (h : TrackerLaw s) (g : Segment) : TrackerLaw (afterLinkLoss g s) := by
  cases g with
  | uplink =>
    unfold afterLinkLoss nightLinkLoss
    exact TrackerLaw.ite h.keep h.keep
  | label => exact labelRecovery_trackerLaw h.keep
  | till => exact h.keep
  | guest => exact h.keep
  | office => exact h.keep

theorem meterRelease_trackerLaw (h : TrackerLaw s) (m : Meter) : TrackerLaw (if (s.meters.get m).hold = [] then s
    else if m = .transfer then nightFollow (releaseMeter m s) else releaseMeter m s) :=
  have hreleased := releaseMeter_trackerLaw h m
  h.ite ((nightFollow_trackerLaw hreleased).ite hreleased)

/-! ## Every command -/

theorem exec_trackerLaw (h : exec c s = .next t) (hl : TrackerLaw s) : TrackerLaw t := by
  cases c <;> cases h
  case deviceReset => exact hl.of_empty rfl
  case linkUp g v => exact hl.keep.asleep (afterLinkUp_asleep g _)
  case linkLoss g => exact (afterLinkLoss_trackerLaw hl.keep g).ite hl
  case frameReceived g fcs bs => exact receiveFrame_trackerLaw hl g fcs bs
  case egressTransmissionEnd p => exact TrackerLaw.ite hl.keep hl
  case uplinkTransmissionEnd => exact (nightFollow_trackerLaw (hl.keep.still (depart_still _))).ite hl
  case msTickAdvance => exact hl.keep
  case meterRelease m => exact meterRelease_trackerLaw hl m
  case guestAging => exact TrackerLaw.ite hl.keep hl
  case secondAdvance => exact (fireEntries_trackerLaw hl.keep).ite hl
  case waitingExpiry i =>
    split
    · next hr => exact expireWaiting_trackerLaw hl (dueRequest_some hr)
    · exact hl
  case heldOverExpiry i =>
    split
    · exact expireHeldOver_trackerLaw hl _ _
    · exact hl
  case wake m => exact overUplink_trackerLaw hl _ (wakeMessage_trackerLaw hl m)
  case grant m w d x => exact overUplink_trackerLaw hl _ (grantMessage_trackerLaw hl m w d x)
  case ack m n => exact overUplink_trackerLaw hl _ (ackMessage_trackerLaw hl m n)
  case labelsMessage m b ws => exact overUplink_trackerLaw hl _ (labelsMessage_trackerLaw hl m b ws)
  case finish m => exact overUplink_trackerLaw hl _ (finishMessage_trackerLaw hl m)
  case callTimerExpiry => exact (failSession_trackerLaw hl.keep).ite hl
  case backoffTimerExpiry => exact (placeCall_trackerLaw hl _).ite hl
  case ackTimerExpiry => exact (ackExpires_trackerLaw hl).ite hl
  case settleTimerExpiry => exact (closeSession_trackerLaw hl).ite hl
  case ready a n => exact overLabel_trackerLaw hl _ (readyMessage_trackerLaw hl n)
  case outcome a n v => exact overLabel_trackerLaw hl _ (outcomeMessage_trackerLaw hl a n v)
  case pacingTimerExpiry => exact (deliveries_trackerLaw hl.keep).ite hl
  case outcomeTimeout n =>
    split
    · exact takeOutcome_trackerLaw hl _ _ _
    · exact hl
  case alertTimerExpiry => exact (hl.keep.still (alertTest_still _)).ite hl
  case leaseExpiry => exact TrackerLaw.ite hl.keep hl
  case identify q => exact openCommand_trackerLaw hl id
  case read q x i n => exact openCommand_trackerLaw hl fun h => readTable_trackerLaw h q x i n
  case readNext q n => exact openCommand_trackerLaw hl fun h => readOn_trackerLaw h q n
  case write q x i n bs =>
    split
    · next hrun => exact lockedCommand_trackerLaw hl (writeRunOf_trackerLaw hrun)
    · exact openCommand_trackerLaw hl id
  case writePorts q i es => exact lockedCommand_trackerLaw hl fun h => writePortsRun_trackerLaw h i es
  case writeOfficeStations q i es => exact lockedCommand_trackerLaw hl fun h => writeOfficeRun_trackerLaw h i es
  case writeWindow q k i es => exact lockedCommand_trackerLaw hl fun h => writeWindowRun_trackerLaw h k i es
  case writeDefaults q k i es => exact lockedCommand_trackerLaw hl fun h => writeDefaultsRun_trackerLaw h k i es
  case writeBankIdentity q i es => exact lockedCommand_trackerLaw hl fun h => writeIdentityRun_trackerLaw h i es
  case writeUplink => exact lockedCommand_trackerLaw hl fun h => writeSingle_trackerLaw h fun _ _ => ⟨rfl, rfl⟩
  case writeMeters q i es => exact lockedCommand_trackerLaw hl fun h => writeMetersRun_trackerLaw h i es
  case writeThresholds q i es => exact lockedCommand_trackerLaw hl fun h => writeThresholdsRun_trackerLaw h i es
  case writeGuest => exact lockedCommand_trackerLaw hl fun h => writeSingle_trackerLaw h fun _ _ => ⟨rfl, rfl⟩
  case writeTills q i es => exact lockedCommand_trackerLaw hl fun h => writeTillsRun_trackerLaw h i es
  case writeTracker q i es => exact lockedCommand_trackerLaw hl fun h => writeTrackerRun_trackerLaw h i es
  case writePool => exact lockedCommand_trackerLaw hl fun h => writeSingle_trackerLaw h fun _ _ => ⟨rfl, rfl⟩
  case writeNight => exact lockedCommand_trackerLaw hl fun h => writeSingle_trackerLaw h fun _ _ => ⟨rfl, rfl⟩
  case writeLabel => exact lockedCommand_trackerLaw hl fun h => writeSingle_trackerLaw h fun _ _ => ⟨rfl, rfl⟩
  case writeSchedule q i es => exact lockedCommand_trackerLaw hl fun h => writeScheduleRun_trackerLaw h i es
  case writeAlerts => exact lockedCommand_trackerLaw hl fun h => writeSingle_trackerLaw h fun _ _ => ⟨rfl, rfl⟩
  case writeAgent => exact lockedCommand_trackerLaw hl fun h => writeSingle_trackerLaw h fun _ _ => ⟨rfl, rfl⟩
  case swap q => exact lockedCommand_trackerLaw hl swapRun_trackerLaw
  case openPart q => exact lockedCommand_trackerLaw hl openRun_trackerLaw
  case closePart q => exact lockedCommand_trackerLaw hl closeRun_trackerLaw
  case restart q => exact lockedCommand_trackerLaw hl fun h => h.keep.quiet (restartPart_quiet _)
  case setClock q d x => exact lockedCommand_trackerLaw hl fun h => clockSet_trackerLaw h _ _
  case profile q v => exact lockedCommand_trackerLaw hl fun h => profileRun_trackerLaw h v
  case labels q v => exact lockedCommand_trackerLaw hl fun h => labelsRun_trackerLaw h v
  case guest q v => exact lockedCommand_trackerLaw hl fun h => guestRun_trackerLaw h v
  case call q => exact lockedCommand_trackerLaw hl callRun_trackerLaw
  case stop q => exact lockedCommand_trackerLaw hl stopRun_trackerLaw
  case journalDiscard q => exact lockedCommand_trackerLaw hl discardRun_trackerLaw
  case adjustQueues q w => exact lockedCommand_trackerLaw hl fun h => adjustQueuesRun_trackerLaw h w
  case bar q a => exact lockedCommand_trackerLaw hl fun h => barRun_trackerLaw h a
  case unbar q a => exact lockedCommand_trackerLaw hl fun h => unbarRun_trackerLaw h a
  case countersConfigure q ws g => exact lockedCommand_trackerLaw hl fun h => configureRun_trackerLaw h ws g
  case countersStart q => exact lockedCommand_trackerLaw hl fun h => startRun_trackerLaw h q.form
  case countersClear q ns => exact lockedCommand_trackerLaw hl fun h => clearRun_trackerLaw h ns
  case alertClear q xs => exact lockedCommand_trackerLaw hl fun h => alertClearRun_trackerLaw h xs
  case labelClear q => exact lockedCommand_trackerLaw hl fun h => h.keep
  case claim q => exact openCommand_trackerLaw hl fun h => claimRun_trackerLaw h q.party
  case release q => exact openCommand_trackerLaw hl fun h => releaseRun_trackerLaw h q.party
  case unknownCommand q code => exact openCommand_trackerLaw hl id

/-- Settles O8: an entry is made for an enabled till below its open limit and of a new key alone, and a till whose terms
are written keeps no entry. -/
theorem everyStepKeepsTheTrackerLaw : Obligations.EveryStepKeepsTheTrackerLaw := by
  intro s t hl h
  unfold step at h
  split at h
  · exact exec_trackerLaw h hl
  · split at h
    · exact exec_trackerLaw h hl
    · cases h
      exact hl

end Sys2Proof.Machine

/-! SUPPORT. The expiry of open requests (R93 to R95), and the notices to a till (R95, R105, R199). -/

namespace Sys2Proof.Machine

/- The proofs below run one after another: run together, their waiting threads outgrow the memory a check may use. -/
set_option Elab.async false

variable {s t : State} {i : Fin 64} {r : OpenRequest}

/-! ## The deadline (R19, R93, R94) -/

/-- R19: an entry whose deadline has been reached is due in the state it is in. -/
theorem dueRequest_reached (hr : s.tracker.slots[i] = some r) (hdue : (s.tick - r.deadline).toNat < 2 ^ 31)
    {x : RequestState} (hx : r.state = x) : dueRequest s i x = some r := by
  rw [dueRequest, hr]
  exact if_pos ⟨hx, decide_eq_true hdue⟩

theorem dueRequest_early (hr : s.tracker.slots[i] = some r) (hearly : 2 ^ 31 ≤ (s.tick - r.deadline).toNat)
    (x : RequestState) : dueRequest s i x = none := by
  rw [dueRequest, hr]
  exact if_neg fun h => Nat.not_lt.2 hearly (of_decide_eq_true h.2)

theorem exec_waitingExpiry_due (h : dueRequest s i .waiting = some r) :
    exec (.waitingExpiry i) s = .next (expireWaiting i r s) := by
  show execWaitingExpiry i s = _
  rw [execWaitingExpiry, h]

theorem exec_heldOverExpiry_due (h : dueRequest s i .heldOver = some r) :
    exec (.heldOverExpiry i) s = .next (expireHeldOver i r s) := by
  show execHeldOverExpiry i s = _
  rw [execHeldOverExpiry, h]

theorem exec_waitingExpiry_early (h : dueRequest s i .waiting = none) : exec (.waitingExpiry i) s = .next s := by
  show execWaitingExpiry i s = _
  rw [execWaitingExpiry, h]

theorem exec_heldOverExpiry_early (h : dueRequest s i .heldOver = none) : exec (.heldOverExpiry i) s = .next s := by
  show execHeldOverExpiry i s = _
  rw [execHeldOverExpiry, h]

/-! ## The notice (R95, R105, R199) -/

/-- R13, R15: a notice to an enabled till joins the TILL egress queue. -/
theorem originate_notice_egress {e : TillEntry} (hrun : s.running = true) (hup : s.up .till = true)
    (hroom : s.egress.till.length < 64) {a : NetAddr} (he : s.tillAt a = some e) (v w : Service) (payload : Bytes) :
    (originate ⟨.notice, .till, a, v, w, payload⟩ (presentEgress .till) s).egress
      = { s.egress with till := s.egress.till ++ [{
        kind := .notice
        bytes := udpFrame s.freeSerial e.station s.station s.ports.gateways.till a v w payload
        entryTick := s.tick, origin := ⟨false, none, .till, none⟩ }] } := by
  have hfound : resolve s none .till a = .ok e.station := by
    rw [resolve_till hup, he]
    rfl
  rw [originate, hfound]
  exact (congrArg State.egress (presentEgress_room (s := { s with freeSerial := s.freeSerial + 1 }) .till
    (s.datagramFrame ⟨.notice, .till, a, v, w, payload⟩ e.station) (.inl hrun) hup hroom)).trans rfl

/-- R95, R105: a till is told by a notice, whatever event is counted after it. -/
theorem notice_tillTold (a : NetAddr) (v w : Service) (payload : Bytes) (o : Occurrence) (s : State) :
    s.tillTold a v w payload (offer o (originate ⟨.notice, .till, a, v, w, payload⟩ (presentEgress .till) s)) := by
  intro e hrun hd hup hroom he
  have hstill := originate_still ⟨.notice, .till, a, v, w, payload⟩ (presentEgress_still .till) s
  rw [offer_egress ((still_destination hstill).trans hd), originate_notice_egress hrun hup hroom he]

theorem State.tillTold.of_egress {a : NetAddr} {v w : Service} {payload : Bytes} {u : State}
    (h : s.tillTold a v w payload t) (he : s.alerts.destination = none → u.egress = t.egress) :
    s.tillTold a v w payload u := fun e hrun hd hup hroom htill => (he hd).trans (h e hrun hd hup hroom htill)

theorem holdOverBytes_eq (up : Bool) (tag : BitVec 32) (a : NetAddr) (resends : Nat) :
    holdOverBytes (if up then 6 else 7) tag a resends
      = [3, if up then 6 else 7, 0, 0] ++ be32 tag ++ be32 a ++ [BitVec.ofNat 8 resends] := by
  cases up <;> rfl

/-! ## The entry after its notice (R93) -/

/-- R93: what becomes of an entry held over. -/
def State.heldOver (s : State) (r : OpenRequest) : Option OpenRequest :=
  if s.tracker.lateWindow = 0 then none
  else some { r with state := .heldOver, deadline := s.deadlineIn s.tracker.lateWindow }

theorem heldOverAfter_still (i : Fin 64) (r : OpenRequest) (s : State) :
    (heldOverAfter i r s).still = (s.setSlot i (s.heldOver r)).still := by
  unfold heldOverAfter State.heldOver
  split
  · exact offer_still _ _
  · rfl

theorem heldOverAfter_egress (hd : s.alerts.destination = none) (i : Fin 64) (r : OpenRequest) :
    (heldOverAfter i r s).egress = s.egress := by
  unfold heldOverAfter
  split
  · exact offer_egress (s := s.setSlot i none) hd _
  · rfl

/-- An entry held over in a state that is still the same. -/
theorem setSlot_heldOver_of_still (h : t.still = s.still) (i : Fin 64) (r : OpenRequest) :
    (t.setSlot i (t.heldOver r)).still = (s.setSlot i (s.heldOver r)).still := by
  have hentry : t.heldOver r = s.heldOver r := by
    simp only [State.heldOver, State.deadlineIn, still_tracker h, still_tick h]
  rw [hentry, State.setSlot, still_tracker h]
  exact congrArg (fun x : State => { x with tracker := s.tracker.setSlot i (s.heldOver r) }) h

theorem expireWaiting_freed (h : s.tills[r.till].holdOver = false) : expireWaiting i r s
    = offer ⟨.tracker .expired, 1, ⟨r.mark, r.windowIndex, .till, none⟩, none⟩ (s.setSlot i none) := by
  rw [expireWaiting, if_neg (by rw [h]; decide)]
  rfl

/-- R93, R95: an entry whose till permits hold-over is held over after its notice. -/
theorem expireWaiting_heldOver (h : s.tills[r.till].holdOver = true) (i : Fin 64) :
    (expireWaiting i r s).still = (s.setSlot i (s.heldOver r)).still
      ∧ s.tillTold s.tills[r.till].address r.originalService r.tillService
        ([3, if s.up .uplink then 6 else 7, 0, 0] ++ be32 r.tag ++ be32 r.originalAddress
          ++ [BitVec.ofNat 8 r.resends]) (expireWaiting i r s) := by
  have hstill := noticed_still (holdOverNotice s r (if s.up .uplink then 6 else 7))
    (occur (.tracker .holdOverNotice) r.origin) s
  rw [expireWaiting, if_pos h, ← holdOverBytes_eq]
  constructor
  · rw [heldOverAfter_still, setSlot_heldOver_of_still hstill]
  · exact (notice_tillTold _ _ _ _ _ s).of_egress fun hd =>
      heldOverAfter_egress ((still_destination hstill).trans hd) i r

/-- Settles O32: a due entry is freed, or held over after its notice; an entry that is not due stays. -/
theorem openRequestExpires : Obligations.OpenRequestExpires := by
  intro i r s hr
  refine ⟨fun hdue hstate => ?abandoned, fun hdue hstate hno => ?expired, fun hdue hstate hyes => ?held,
    fun hearly => ⟨exec_heldOverExpiry_early (dueRequest_early hr hearly _),
      exec_waitingExpiry_early (dueRequest_early hr hearly _)⟩⟩
  case abandoned => exact exec_heldOverExpiry_due (dueRequest_reached hr hdue hstate)
  case expired =>
    rw [exec_waitingExpiry_due (dueRequest_reached hr hdue hstate), expireWaiting_freed hno]
    rfl
  case held =>
    obtain ⟨hstill, htold⟩ := expireWaiting_heldOver hyes i
    exact ⟨_, exec_waitingExpiry_due (dueRequest_reached hr hdue hstate), hstill, htold⟩

end Sys2Proof.Machine

/-! SUPPORT. READ and READ NEXT (R184, R186, R195). -/

namespace Sys2Proof.Machine

/- The proofs below run one after another: run together, their waiting threads outgrow the memory a check may use. -/
set_option Elab.async false

variable {s t u : State} {q : Requester} {table : Table} {first count n : Nat}

/-! ## The tables (R187) -/

/-- R187: a table read by its code has that code. -/
theorem num8_tableCode {code : Byte} (h : tableOf code = some table) : num8 (tableCode table) = [code] := by
  unfold tableOf at h
  split at h
  · cases h
  · next hcode =>
    obtain ⟨hlt, htable⟩ := List.getElem?_eq_some_iff.1 h
    have hplace : tables.idxOf table = code.toNat - 1 := by
      rw [← htable]
      exact List.Nodup.idxOf_getElem (by decide) _ hlt
    have hpos : code.toNat ≠ 0 := fun hzero => hcode (BitVec.eq_of_toNat_eq hzero)
    rw [num8, tableCode, hplace, Nat.sub_add_cancel (Nat.one_le_iff_ne_zero.2 hpos), BitVec.ofNat_toNat,
      BitVec.setWidth_eq]

/-- R183: taking a request changes no table's number of entries. -/
theorem takeRequest_tableEntries_length (i : Instr) (s : State) (table : Table) :
    (tableEntries (takeRequest i s) table).length = (tableEntries s table).length := by
  obtain ⟨_, htaken⟩ := takeRequest_eq i s
  rw [htaken]
  cases table <;> rfl

/-- R183: taking a request changes no cursor. -/
theorem takeRequest_cursor (i : Instr) (s : State) (p : Party) :
    (takeRequest i s).agent.cursor p = s.agent.cursor p := by
  obtain ⟨_, htaken⟩ := takeRequest_eq i s
  rw [htaken]
  cases p <;> rfl

/-! ## The parts of an answer (R184, R195) -/

/-- R184: entries that fit stay in one group. -/
theorem groupEntries_fits {room : Nat} (es : List Bytes) (group : List Bytes) (size : Nat)
    (h : size + (es.map List.length).sum ≤ room) : groupEntries room group size es = [group ++ es] := by
  induction es generalizing group size with
  | nil => rw [groupEntries, List.append_nil]
  | cons e es ih =>
    rw [List.map_cons, List.sum_cons] at h
    rw [groupEntries, if_pos (.inl (by omega)), ih _ _ (by omega), List.append_assoc]
    rfl

/-! ## The entries read (R186) -/

theorem entriesRead_eq (hn : n = min (max 1 (min 256 count))
      ((tableEntries u table).length - (first - (tableRange table).1))) :
    entriesRead u table first count = ((tableEntries u table).drop (first - (tableRange table).1)).take n := by
  rw [entriesRead, clamp_eq_max_min (by decide), List.take_eq_take_iff, List.length_drop, hn]
  omega

theorem entriesRead_length (hn : n = min (max 1 (min 256 count))
      ((tableEntries u table).length - (first - (tableRange table).1))) :
    (entriesRead u table first count).length = n := by
  rw [entriesRead_eq hn, List.length_take, List.length_drop, hn]
  omega

/-- R186: the status of a READ. -/
theorem readFrom_status (hlength : (entriesRead u table first count).length = n) :
    (readFrom q table first count u).status
      = if (tableEntries u table).length ≤ first - (tableRange table).1 + n then .endOfTable
        else if count = 0 ∨ 256 < count then .adjusted else .ok := by
  have hclamped : (clamp 1 256 count != count) = decide (count = 0 ∨ 256 < count) := by
    rw [clamp_eq_max_min (by decide), bne_eq_decide_ne]
    exact decide_eq_decide.2 (by omega)
  simp only [readFrom, reachesEnd, hlength, okUnless, hclamped, decide_eq_true_eq]

theorem readFrom_state (hlength : (entriesRead u table first count).length = n) :
    (readFrom q table first count u).state = u.withCursor q.party ⟨table, first + n⟩ := by rw [readFrom, hlength]

/-- R184, R195: entries that fit one part are answered in it. -/
theorem readFrom_parts (hlength : (entriesRead u table first count).length = n)
    (hfits : ((entriesRead u table first count).map List.length).sum ≤ partRoom q - 7) :
    (readFrom q table first count u).parts
      = [num8 (tableCode table) ++ num32 first ++ num16 n ++ (entriesRead u table first count).flatten] := by
  rw [readFrom, groupEntries_fits _ _ _ (by omega), List.nil_append, ← hlength]
  rfl

/-- R184, R186: what a READ from a place does, and its answer where its entries fit one part. -/
theorem respond_readFrom (code : Nat) (hlength : (entriesRead u table first count).length = n) :
    (respond q code (readFrom q table first count u)).still = (u.withCursor q.party ⟨table, first + n⟩).still
      ∧ (((entriesRead u table first count).map List.length).sum ≤ partRoom q - 7 →
        respond q code (readFrom q table first count u) = answerTo q code (readFrom q table first count u).status
          (num8 (tableCode table) ++ num32 first ++ num16 n ++ (entriesRead u table first count).flatten)
          (u.withCursor q.party ⟨table, first + n⟩)) := by
  refine ⟨by rw [respond_still, readFrom_state hlength], fun hfits => ?_⟩
  rw [answerTo, ← readFrom_parts hlength hfits, ← readFrom_state (q := q) hlength]

/-- R186: what a READ does from a place after its request has been taken, in the words of the statement. -/
theorem respond_readFrom_taken {status : Nat → Nat → Status} (hstatus : ∀ reached length, status reached length
      = if length ≤ reached then .endOfTable else if count = 0 ∨ 256 < count then .adjusted else .ok)
    (hn : n = min (max 1 (min 256 count)) ((tableEntries s table).length - (first - (tableRange table).1)))
    (i : Instr) (code : Nat) (ht : t = respond q code (readFrom q table first count (takeRequest i s))) :
    t.still = ((takeRequest i s).withCursor q.party ⟨table, first + n⟩).still
      ∧ ∀ entries, entries = ((tableEntries (takeRequest i s) table).drop (first - (tableRange table).1)).take n →
        (entries.map List.length).sum ≤ partRoom q - 7 →
        t = answerTo q code (status (first - (tableRange table).1 + n) (tableEntries s table).length)
          (num8 (tableCode table) ++ num32 first ++ num16 n ++ entries.flatten)
          ((takeRequest i s).withCursor q.party ⟨table, first + n⟩) := by
  subst ht
  rw [← takeRequest_tableEntries_length i s table] at hn
  obtain ⟨hstill, hanswer⟩ := respond_readFrom (q := q) code (entriesRead_length hn)
  refine ⟨hstill, fun entries hentries hfits => ?_⟩
  rw [← entriesRead_eq hn] at hentries
  subst hentries
  rw [hanswer hfits, readFrom_status (entriesRead_length hn), hstatus, takeRequest_tableEntries_length]

/-! ## READ and READ NEXT (R186) -/

/-- R184: the room of a part's entries, after the table code, the first index and their count. -/
theorem partRoom_localParty (h : q.party = .localParty) : partRoom q - 7 = 1485 := by
  rw [partRoom, h]
  rfl

theorem partRoom_remoteParty (h : q.party = .remoteParty) : partRoom q - 7 = 1385 := by
  rw [partRoom, h]
  rfl

section
variable {code : Byte} {index : BitVec 32} {number : BitVec 16}

theorem exec_read (h : tableOf code = some table) (hlow : (tableRange table).1 ≤ index.toNat)
    (hhigh : index.toNat ≤ (tableRange table).2) (s : State) : exec (.read q code index number) s
      = .next (respond q 0x02
        (readFrom q table index.toNat number.toNat (takeRequest (.read q code index number) s))) := by
  show Host.Outcome.next (respond q 0x02 (readTable q code index number _)) = _
  rw [readTable, h]
  dsimp only
  rw [if_neg (by omega)]

theorem exec_read_refused (h : tableOf code = none ∨ ∃ t, tableOf code = some t ∧
      (index.toNat < (tableRange t).1 ∨ (tableRange t).2 < index.toNat)) (s : State) :
    exec (.read q code index number) s
      = .next (answerTo q 0x02 .badIndex [] (takeRequest (.read q code index number) s)) := by
  show Host.Outcome.next (respond q 0x02 (readTable q code index number _)) = _
  rw [readTable]
  rcases h with h | ⟨t, h, hout⟩
  · rw [h]
    rfl
  · rw [h]
    dsimp only
    rw [if_pos hout]
    rfl

theorem exec_readNext {c : Cursor} (h : s.agent.cursor q.party = some c) : exec (.readNext q number) s
    = .next (respond q 0x03
      (readFrom q c.table c.position number.toNat (takeRequest (.readNext q number) s))) := by
  show Host.Outcome.next (respond q 0x03 (readOn q number _)) = _
  rw [readOn, takeRequest_cursor, h]

theorem exec_readNext_unset (h : s.agent.cursor q.party = none) : exec (.readNext q number) s
    = .next (answerTo q 0x03 .state [] (takeRequest (.readNext q number) s)) := by
  show Host.Outcome.next (respond q 0x03 (readOn q number _)) = _
  rw [readOn, takeRequest_cursor, h]
  rfl

end

/-! ## A READ of one till (R83, R99) -/

theorem tillBytes_length (s : State) (i : Fin 32) : (tillBytes s i).length = 19 := by
  rw [tillBytes]
  cases s.tills[i].lastAccepted <;> rfl

theorem takeRequest_tillBytes (c : Instr) (s : State) (i : Fin 32) : tillBytes (takeRequest c s) i = tillBytes s i := by
  rw [tillBytes, takeRequest_tills, takeRequest_tracker]
  rfl

theorem tillEntries_length (s : State) : (tableEntries s .tills).length = 32 := by
  rw [tableEntries, List.length_map, List.length_finRange]

/-- R186: the entry of one till. -/
theorem tillEntries_one (s : State) (i : Fin 32) : ((tableEntries s .tills).drop i).take 1 = [tillBytes s i] := by
  have hlt : i.val < (tableEntries s .tills).length := (tillEntries_length s).symm ▸ i.isLt
  rw [List.drop_eq_getElem_cons hlt, List.take_succ_cons, List.take_zero]
  simp [tableEntries]

/-- R184: the entry of one till fits one part. -/
theorem tillBytes_fits (q : Requester) (s : State) (i : Fin 32) :
    ([tillBytes s i].map List.length).sum ≤ partRoom q - 7 := by
  rw [List.map_singleton, List.sum_singleton, tillBytes_length, partRoom]
  cases q.party <;> decide

/-- R186: a READ of one till is answered by its entry, in one part. -/
theorem exec_read_till {index : BitVec 32} {status : Nat → Nat → Status}
    (hstatus : ∀ reached length, status reached length = if length ≤ reached then .endOfTable
      else if (1 : BitVec 16).toNat = 0 ∨ 256 < (1 : BitVec 16).toNat then .adjusted else .ok)
    {i : Fin 32} (hi : index.toNat = i.val + 1) (s : State) : exec (.read q 13 index 1) s
      = .next (answerTo q 0x02 (status (i.val + 1) 32) ([13] ++ be32 index ++ [0, 1] ++ tillBytes s i)
          ((takeRequest (.read q 13 index 1) s).withCursor q.party ⟨.tills, i.val + 2⟩)) := by
  have hplace : index.toNat - (tableRange .tills).1 = i.val := by rw [hi]; rfl
  have hone : 1 = min (max 1 (min 256 (1 : BitVec 16).toNat))
      ((tableEntries s .tills).length - (index.toNat - (tableRange .tills).1)) := by
    rw [tillEntries_length, hplace, show (1 : BitVec 16).toNat = 1 from rfl]
    omega
  have hentry : [tillBytes s i] = ((tableEntries (takeRequest (.read q 13 index 1) s) .tills).drop
      (index.toNat - (tableRange .tills).1)).take 1 := by rw [hplace, tillEntries_one, takeRequest_tillBytes]
  obtain ⟨-, hanswer⟩ := respond_readFrom_taken (q := q) hstatus hone (.read q 13 index 1) 0x02 rfl
  rw [exec_read (table := .tills) rfl (hi ▸ Nat.le_add_left _ _) (hi ▸ i.isLt),
    hanswer _ hentry (tillBytes_fits q s i), hplace, tillEntries_length,
    num8_tableCode (code := 13) rfl, num32_toNat, hi, List.flatten_singleton]
  rfl

/-- Settles O46: a READ is refused, or answered from its place, in one part where its entries fit. -/
theorem readsMoveTheCursor : Obligations.ReadsMoveTheCursor := by
  intro q code first count status s hstatus
  have hroom {entries : List Bytes} (h : (entries.map List.length).sum
      ≤ (match q.party with | .localParty => 1485 | .remoteParty => 1385)) :
      (entries.map List.length).sum ≤ partRoom q - 7 := by
    cases hparty : q.party <;> rw [hparty] at h
    · rwa [partRoom_localParty hparty]
    · rwa [partRoom_remoteParty hparty]
  refine ⟨fun hrefused => exec_read_refused hrefused s, fun table n htable hlow hhigh hn => ?read,
    exec_readNext_unset, fun c n hc hn => ?next, fun i hcode hcount hfirst => ?till⟩
  case read =>
    obtain ⟨hstill, hanswer⟩ := respond_readFrom_taken hstatus hn (.read q code first count) 0x02 rfl
    refine ⟨_, exec_read htable hlow hhigh s, hstill, fun entries hentries hfits => ?_⟩
    rw [hanswer entries hentries (hroom hfits), num8_tableCode htable, num32_toNat]
    rfl
  case next =>
    obtain ⟨hstill, hanswer⟩ := respond_readFrom_taken hstatus hn (.readNext q count) 0x03 rfl
    exact ⟨_, exec_readNext hc, hstill, fun entries hentries hfits => hanswer entries hentries (hroom hfits)⟩
  case till =>
    subst hcode hcount
    have hend : status (i.val + 1) 32 = if i = 31 then .endOfTable else .ok := by
      rw [hstatus]
      refine if_congr ?_ rfl rfl
      omega
    rw [exec_read_till hstatus hfirst, hend, tillBytes]
    simp only [← List.append_assoc]
    cases s.tills[i].lastAccepted <;> rfl

end Sys2Proof.Machine

/-! SUPPORT. The stock of the part: the journal with its pointers, the counts of the buffer pool, and the label updates queued
and in flight (R108, R113, R142); what one change of it can be; and that each change keeps the laws of the pool and of the
journal. -/

namespace Sys2Proof.Machine

/- The proofs below run one after another: run together, their waiting threads outgrow the memory a check may use. -/
set_option Elab.async false

/-! ## The stock and its changes -/

/-- The journal, the blocks of the pool, and the label updates that hold a block (R108, R113, R142). -/
structure Stock where
  journal : Journal
  free : Nat
  journalHeld : Nat
  labelHeld : Nat
  queue : List LabelUpdate
  inFlight : List LabelUpdate

/-- The stock of a state. -/
def State.stock (s : State) : Stock where
  journal := s.journal
  free := s.pool.free
  journalHeld := s.pool.journalHeld
  labelHeld := s.pool.labelHeld
  queue := s.label.queue
  inFlight := s.label.inFlight

/-- One change of the stock: what the events of the part can do to the journal, the pool's counts and the label lists. -/
inductive Stock.Change (x : Stock) : Stock → Prop
  /-- R1, R118, R158: device reset. -/
  | reset : Change x ⟨⟨[], 1, 1, 1⟩, 131072, 0, 0, [], []⟩
  /-- R104: a record appended, with the next sequence and blocks that are free. -/
  | appended (r : JournalRecord) : r.sequence = x.journal.nextSeq → r.blocks ≤ x.free → Change x { x with
      journal := { x.journal with records := x.journal.records ++ [r], nextSeq := x.journal.nextSeq + 1 }
      free := x.free - r.blocks, journalHeld := x.journalHeld + r.blocks }
  /-- R131: unsent records sent. -/
  | sent (n : Nat) : n ≤ x.journal.records.length - x.journal.outstanding → Change x { x with
      journal := { x.journal with nextToSend := x.journal.nextToSend + BitVec.ofNat 32 n } }
  /-- R128, R132, R134, R140: next-to-send back at oldest. -/
  | rewound : Change x { x with journal := { x.journal with nextToSend := x.journal.oldest } }
  /-- R114, R129: outstanding records removed, oldest first. -/
  | acked (n : Nat) : n ≤ x.journal.outstanding → Change x { x with
      journal := x.journal.removeOldest n
      free := x.free + blocksOf (x.journal.records.take n)
      journalHeld := x.journalHeld - blocksOf (x.journal.records.take n) }
  /-- R116: the journal discarded. -/
  | discarded : Change x { x with
      journal := { x.journal with records := [], oldest := x.journal.nextSeq, nextToSend := x.journal.nextSeq }
      free := x.free + x.journalHeld, journalHeld := x.journalHeld - x.journalHeld }
  /-- R137, R144: an update for a label number that is not queued, in a free block. -/
  | queued (u : LabelUpdate) : holdsLabel x.queue u.number = false → 1 ≤ x.free → Change x { x with
      queue := x.queue ++ [u], free := x.free - 1, labelHeld := x.labelHeld + 1 }
  /-- R144: a queued update superseded in its place. -/
  | superseded (w : LabelWire) : Change x { x with queue := supersedeIn x.queue w }
  /-- R147: the first queued update whose label number is not in flight goes in flight. -/
  | delivered (u v : LabelUpdate) : x.inFlight.length < 16 →
      x.queue.find? (fun y => !holdsLabel x.inFlight y.number) = some u → v.number = u.number → Change x { x with
      queue := x.queue.eraseP fun y => !holdsLabel x.inFlight y.number, inFlight := x.inFlight ++ [v] }
  /-- R149, R150, R152: an update in flight gone, with its block. -/
  | freed (number : BitVec 24) : holdsLabel x.inFlight number = true → Change x { x with
      inFlight := x.inFlight.eraseP (·.number == number), free := x.free + 1, labelHeld := x.labelHeld - 1 }
  /-- R150: an update in flight back in the queue. -/
  | returned (u : LabelUpdate) : holdsLabel x.inFlight u.number = true → holdsLabel x.queue u.number = false →
      Change x { x with queue := x.queue ++ [u], inFlight := x.inFlight.eraseP (·.number == u.number) }
  /-- R154: every update in flight back at the head of the queue, or superseded and gone with its block. -/
  | recovered : Change x { x with
      queue := (x.inFlight.filter fun u => !holdsLabel x.queue u.number).map LabelUpdate.returned ++ x.queue
      inFlight := []
      free := x.free + (x.inFlight.filter fun u => holdsLabel x.queue u.number).length
      labelHeld := x.labelHeld - (x.inFlight.filter fun u => holdsLabel x.queue u.number).length }

/-! ## The journal in sequence (R113) -/

/-- The journal law, of the journal itself (R113, R129). -/
def Journal.InSequence (j : Journal) : Prop :=
  (∀ (k : Nat) (h : k < j.records.length), j.records[k].sequence = j.oldest + BitVec.ofNat 32 k)
    ∧ j.nextSeq = j.oldest + BitVec.ofNat 32 j.records.length
    ∧ j.outstanding ≤ j.records.length

section
variable {j : Journal} (h : j.InSequence)
include h

theorem Journal.InSequence.append {r : JournalRecord} (hr : r.sequence = j.nextSeq) :
    ({ j with records := j.records ++ [r], nextSeq := j.nextSeq + 1 } : Journal).InSequence := by
  obtain ⟨hrecords, hnext, hout⟩ := h
  refine ⟨fun k hk => ?_, ?_, hout.trans (by simp)⟩
  · rw [List.getElem_append]
    split
    · exact hrecords k _
    · next hlast =>
      obtain rfl : k = j.records.length := by
        have := hk.trans_eq (List.length_append ..)
        simp only [List.length_singleton] at this
        omega
      simpa only [List.getElem_singleton, hr] using hnext
  · show j.nextSeq + 1 = j.oldest + BitVec.ofNat 32 (j.records ++ [r]).length
    rw [hnext, List.length_append, List.length_singleton, BitVec.ofNat_add, BitVec.add_assoc]
    rfl

/-- R131: unsent records may be sent. -/
theorem Journal.InSequence.send {n : Nat} (hn : n ≤ j.records.length - j.outstanding) :
    ({ j with nextToSend := j.nextToSend + BitVec.ofNat 32 n } : Journal).InSequence := by
  obtain ⟨hrecords, hnext, hout⟩ := h
  refine ⟨hrecords, hnext, ?_⟩
  have hsum : (j.nextToSend + BitVec.ofNat 32 n - j.oldest).toNat ≤ j.outstanding + n := by
    rw [Journal.outstanding]
    bv_omega
  have hroom : j.outstanding + n ≤ j.records.length := by omega
  exact hsum.trans hroom

theorem Journal.InSequence.rewind : ({ j with nextToSend := j.oldest } : Journal).InSequence :=
  ⟨h.1, h.2.1, by simp [Journal.outstanding]⟩

/-- R114: outstanding records may be removed, oldest first. -/
theorem Journal.InSequence.removeOldest {n : Nat} (hn : n ≤ j.outstanding) : (j.removeOldest n).InSequence := by
  obtain ⟨hrecords, hnext, hout⟩ := h
  refine ⟨fun k hk => ?_, ?_, ?_⟩
  · simp only [Journal.removeOldest, List.getElem_drop, hrecords, BitVec.ofNat_add, BitVec.add_assoc]
  · simp only [Journal.removeOldest, List.length_drop, hnext, BitVec.add_assoc, ← BitVec.ofNat_add]
    rw [Nat.add_sub_cancel' (hn.trans hout)]
  · have hleft : (j.nextToSend - (j.oldest + BitVec.ofNat 32 n)).toNat = j.outstanding - n := by
      rw [Journal.outstanding] at hn ⊢
      bv_omega
    rw [Journal.removeOldest, List.length_drop]
    exact hleft.trans_le (Nat.sub_le_sub_right hout n)

omit h in
/-- R116: an empty journal, its pointers at the next sequence, is in sequence. -/
theorem Journal.inSequence_empty (n : Seq) : (⟨[], n, n, n⟩ : Journal).InSequence :=
  ⟨nofun, by simp, by simp [Journal.outstanding]⟩

end

/-! ## The pool whole (R108) -/

theorem blocksOf_append (rs rs' : List JournalRecord) : blocksOf (rs ++ rs') = blocksOf rs + blocksOf rs' := by
  simp [blocksOf]

theorem blocksOf_take_add_drop (n : Nat) (rs : List JournalRecord) :
    blocksOf (rs.take n) + blocksOf (rs.drop n) = blocksOf rs := by
  rw [← blocksOf_append, List.take_append_drop]

/-- The pool law, of the stock (R108, R142). -/
def Stock.Whole (x : Stock) : Prop :=
  x.free + x.journalHeld + x.labelHeld = 131072
    ∧ x.journalHeld = blocksOf x.journal.records
    ∧ x.labelHeld = x.queue.length + x.inFlight.length

theorem length_eraseP_holdsLabel {updates : List LabelUpdate} {number : BitVec 24}
    (h : holdsLabel updates number = true) :
    (updates.eraseP (·.number == number)).length + 1 = updates.length := by
  obtain ⟨u, hu, hnumber⟩ := List.any_eq_true.1 h
  rw [List.length_eraseP_of_mem hu hnumber]
  have := List.length_pos_of_mem hu
  omega

/-- Every change of the stock keeps the blocks of the pool at 131,072, and its counts at what the lists hold. -/
theorem Stock.Change.whole {x y : Stock} (hc : x.Change y) (h : x.Whole) : y.Whole := by
  obtain ⟨hsum, hjournal, hlabel⟩ := h
  cases hc with
  | reset => exact ⟨rfl, rfl, rfl⟩
  | appended r _ hfree =>
    refine ⟨?_, ?_, hlabel⟩
    · show x.free - r.blocks + (x.journalHeld + r.blocks) + x.labelHeld = 131072
      omega
    · show x.journalHeld + r.blocks = blocksOf (x.journal.records ++ [r])
      rw [blocksOf_append, hjournal]
      rfl
  | sent n _ => exact ⟨hsum, hjournal, hlabel⟩
  | rewound => exact ⟨hsum, hjournal, hlabel⟩
  | acked n _ =>
    have hparts := blocksOf_take_add_drop n x.journal.records
    refine ⟨?_, ?_, hlabel⟩
    · show x.free + blocksOf (x.journal.records.take n) + (x.journalHeld - blocksOf (x.journal.records.take n))
        + x.labelHeld = 131072
      omega
    · show x.journalHeld - blocksOf (x.journal.records.take n) = blocksOf (x.journal.records.drop n)
      omega
  | discarded =>
    refine ⟨?_, Nat.sub_self _, hlabel⟩
    show x.free + x.journalHeld + (x.journalHeld - x.journalHeld) + x.labelHeld = 131072
    omega
  | queued u _ hfree =>
    refine ⟨?_, hjournal, ?_⟩
    · show x.free - 1 + x.journalHeld + (x.labelHeld + 1) = 131072
      omega
    · show x.labelHeld + 1 = (x.queue ++ [u]).length + x.inFlight.length
      rw [List.length_append, List.length_singleton]
      omega
  | superseded w => exact ⟨hsum, hjournal, by rw [hlabel, supersedeIn, List.length_map]⟩
  | delivered u v _ hfind _ =>
    refine ⟨hsum, hjournal, ?_⟩
    have hmem := List.mem_of_find?_eq_some hfind
    have hpos := List.length_pos_of_mem hmem
    show x.labelHeld = (x.queue.eraseP _).length + (x.inFlight ++ [v]).length
    rw [List.length_eraseP_of_mem hmem (List.find?_some hfind), List.length_append, List.length_singleton]
    omega
  | freed number hholds =>
    have hlength := length_eraseP_holdsLabel hholds
    refine ⟨?_, hjournal, ?_⟩
    · show x.free + 1 + x.journalHeld + (x.labelHeld - 1) = 131072
      omega
    · show x.labelHeld - 1 = x.queue.length + (x.inFlight.eraseP _).length
      omega
  | returned u hholds _ =>
    have hlength := length_eraseP_holdsLabel hholds
    refine ⟨hsum, hjournal, ?_⟩
    show x.labelHeld = (x.queue ++ [u]).length + (x.inFlight.eraseP _).length
    rw [List.length_append, List.length_singleton]
    omega
  | recovered =>
    have hparts := List.length_eq_length_filter_add (l := x.inFlight) fun u => holdsLabel x.queue u.number
    refine ⟨?_, hjournal, ?_⟩
    · show x.free + _ + x.journalHeld + (x.labelHeld - _) = 131072
      omega
    · show x.labelHeld - _ = (List.map _ _ ++ x.queue).length + 0
      rw [List.length_append, List.length_map]
      omega

theorem Stock.Change.inSequence {x y : Stock} (hc : x.Change y) (h : x.journal.InSequence) :
    y.journal.InSequence := by
  cases hc with
  | reset => exact Journal.inSequence_empty 1
  | appended r hr _ => exact h.append hr
  | sent n hn => exact h.send hn
  | rewound => exact h.rewind
  | acked n hn => exact h.removeOldest hn
  | discarded => exact Journal.inSequence_empty _
  | _ => exact h

/-! ## The stock from one state to another -/

/-- One state leads to another by changes of the stock, and whatever is nothing to the stock. -/
def Stocks (s t : State) : Prop := Relation.ReflTransGen Stock.Change s.stock t.stock

variable {s t u : State}

theorem Stocks.refl (s : State) : Stocks s s := Relation.ReflTransGen.refl

theorem Stocks.trans (h : Stocks s t) (h' : Stocks t u) : Stocks s u := Relation.ReflTransGen.trans h h'

theorem Stocks.change (h : Stocks s t) (hc : t.stock.Change u.stock) : Stocks s u := .tail h hc

/-- What leaves the stock as it was. -/
theorem Stocks.keep (h : Stocks s t) (e : u.stock = t.stock := by rfl) : Stocks s u := by
  rw [Stocks, e]
  exact h

theorem stock_of_quiet (h : t.quiet = s.quiet) : t.stock = s.stock := by
  simp only [State.stock, quiet_journal h, quiet_pool h, quiet_label h]

theorem stock_of_still (h : t.still = s.still) : t.stock = s.stock := stock_of_quiet (quiet_of_still h)

theorem Stocks.still (h : Stocks s t) (e : u.still = t.still) : Stocks s u := h.keep (stock_of_still e)

theorem Stocks.quiet (h : Stocks s t) (e : u.quiet = t.quiet) : Stocks s u := h.keep (stock_of_quiet e)

/-- An operation that is taken under a condition, and another where it fails. -/
theorem Stocks.ite {p : Prop} [Decidable p] (ht : Stocks s t) (hu : Stocks s u) : Stocks s (if p then t else u) := by
  split
  · exact ht
  · exact hu

theorem foldl_stocks {α : Type} {f : State → α → State} (hf : ∀ t a, Stocks s t → Stocks s (f t a)) (l : List α)
    (h : Stocks s t) : Stocks s (l.foldl f t) := by
  induction l generalizing t with
  | nil => exact h
  | cons a l ih => exact ih (hf t a h)

/-- R108, R113: the laws of the pool and of the journal go on through every change of the stock. -/
theorem Stocks.laws (h : Stocks s t) (hpool : PoolLaw s) (hjournal : JournalLaw s) : PoolLaw t ∧ JournalLaw t := by
  have key {y : Stock} (hy : Relation.ReflTransGen Stock.Change s.stock y) : y.Whole ∧ y.journal.InSequence := by
    induction hy with
    | refl => exact ⟨hpool, hjournal⟩
    | tail _ hc ih => exact ih.imp hc.whole hc.inSequence
  exact key h

end Sys2Proof.Machine

/-! SUPPORT. What the meters, forwarding, the request tracker, the night engine, the label engine and the schedule do to the
stock (R108, R113, R142). -/

namespace Sys2Proof.Machine

/- The proofs below run one after another: run together, their waiting threads outgrow the memory a check may use. -/
set_option Elab.async false

variable {s t : State}

/-! ## Meters and forwarding (R28, R29, R58 to R64, R75 to R77) -/

theorem setMeter_stocks (h : Stocks s t) (i : Meter) (m : ShareMeter) : Stocks s (t.setMeter i m) :=
  h.keep.quiet (setMeter_quiet t i m)

theorem presentMeter_stocks (h : Stocks s t) (i : Meter) (q : UplinkQueue) (f : Frame) :
    Stocks s (presentMeter i q f t) :=
  let ⟨_, hm⟩ := presentMeter_quiet i q f t
  h.keep.quiet hm

theorem releaseMeter_stocks (h : Stocks s t) (i : Meter) : Stocks s (releaseMeter i t) := by
  have hreleased (t : State) (x : HeldFrame) (h : Stocks s t) : Stocks s (releaseOne i t x) := by
    refine Stocks.quiet ?_ (releaseOne_quiet i t x)
    unfold State.chargedFor
    exact h.keep
  unfold releaseMeter
  exact h.ite (foldl_stocks hreleased _ (setMeter_stocks h _ _))

theorem jointTest_stocks (h : Stocks s t) (a : Station) (f : Frame) : Stocks s (jointTest a f t) := by
  have htested (g : GuestEntry → GuestEntry) (m : ShareMeter) : Stocks s ((t.withGuest a g).setMeter .guest m) :=
    setMeter_stocks h.keep _ _
  unfold jointTest
  dsimp only
  split
  · exact (setMeter_stocks h _ _).still (offer_still _ _)
  · exact ((htested _ _).still (offer_still _ _)).ite
      (((htested _ _).still (presentUplink_still _ _ _)).ite ((htested _ _).still (offer_still _ _)))

theorem setProfile_stocks (h : Stocks s t) (v : DayNight) (o : LevelOrigin) : Stocks s (setProfile v o t) := by
  unfold setProfile
  exact h.keep.ite (h.keep.quiet (switchProfile_quiet _ _ _))

theorem forwardFrame_stocks (h : Stocks s t) (p : Passage) (copy : LookupCopy) : Stocks s (forwardFrame p copy t) := by
  unfold forwardFrame deliverForwarded
  dsimp only
  split
  · exact h.still (drop_still _ _ _)
  · split
    · exact h.still (drop_still _ _ _)
    · split
      case h_5 =>
        split
        · exact jointTest_stocks h _ _
        · exact presentMeter_stocks h _ _ _
        · exact h.still (presentUplink_still _ _ _)
      all_goals exact h.still (presentEgress_still _ _ _)

/-! ## The request tracker (R30, R87 to R95) -/

theorem trackNew_stocks (h : Stocks s t) (p : Passage) (copy : LookupCopy) (n : Fin 32) (tag : BitVec 32) :
    Stocks s (trackNew p copy n tag t) := by
  unfold trackNew
  dsimp only
  split
  · exact h.still (offer_still _ _)
  · split
    · exact (h.still (offer_still _ _)).still (sendTracked_still _ _ _)
    · exact (h.keep.still (offer_still _ _)).still (sendTracked_still _ _ _)

/-- R87: each test of a Track frame drops it, and the last lets through a repeat or a new request. -/
theorem trackFrame_stocks (h : Stocks s t) (p : Passage) (copy : LookupCopy) : Stocks s (trackFrame p copy t) := by
  have hkeyed (n : Fin 32) : Stocks s (trackKeyed p copy n t) := by
    unfold trackKeyed
    dsimp only
    split
    · split
      · exact h.keep.still (sendTracked_still _ _ _)
      · exact trackNew_stocks h _ _ _ _
    · exact trackNew_stocks h _ _ _ _
  unfold trackFrame
  dsimp only
  repeat' split
  case h_2.isFalse.isFalse => exact hkeyed _
  all_goals exact h.still (drop_still _ _ _)

theorem replyFrame_stocks (h : Stocks s t) (p : Passage) (i : Fin 64) (r : OpenRequest) :
    Stocks s (replyFrame p i r t) := by
  have hfreed (o : Occurrence) : Stocks s ((if r.state = .heldOver then offer o t else t).setSlot i none) :=
    ((h.still (offer_still _ _)).ite h).keep
  unfold replyFrame
  dsimp only
  split
  · exact h.still (drop_still _ _ _)
  · split
    · exact (hfreed _).still (drop_still _ _ _)
    · exact (hfreed _).still (presentEgress_still _ _ _)

theorem expireWaiting_stocks (h : Stocks s t) (i : Fin 64) (r : OpenRequest) : Stocks s (expireWaiting i r t) := by
  unfold expireWaiting
  exact ((h.still (noticed_still _ _ t)).keep.still (heldOverAfter_still _ _ _)).ite (h.keep.still (offer_still _ _))

theorem expireHeldOver_stocks (h : Stocks s t) (i : Fin 64) (r : OpenRequest) : Stocks s (expireHeldOver i r t) :=
  h.keep.still (offer_still _ _)

/-! ## The night engine (R121 to R140) -/

theorem length_packRecords_le (n room : Nat) (rs : List JournalRecord) : (packRecords n room rs).length ≤ rs.length := by
  induction n generalizing room rs with
  | zero => exact Nat.zero_le _
  | succ n ih =>
    cases rs with
    | nil => exact Nat.zero_le _
    | cons r rs =>
      unfold packRecords
      split
      · exact Nat.succ_le_succ (ih _ _)
      · exact Nat.zero_le _

/-- R131: a send event carries unsent records alone. -/
theorem sendRecords_stocks (h : Stocks s t) : Stocks s (sendRecords t) := by
  obtain ⟨m, hm⟩ := sendRecords_quiet t
  have hunsent : t.nextRecords.length ≤ t.journal.records.length - t.journal.outstanding :=
    (length_packRecords_le _ _ _).trans_eq (List.length_drop ..)
  have hsent : Stocks s t.recordsTaken := h.change (.sent _ hunsent)
  exact hsent.keep.quiet hm

theorem sendWhile_stocks (n : Nat) (h : Stocks s t) : Stocks s (sendWhile n t) := by
  induction n generalizing t with
  | zero => exact h
  | succ n ih =>
    unfold sendWhile
    split
    · exact ih (sendRecords_stocks h)
    · exact h

theorem nightFollow_stocks (h : Stocks s t) : Stocks s (nightFollow t) := by
  have hsent := sendWhile_stocks t.night.window h
  unfold nightFollow completionTest
  exact (hsent.still (sendDrained_still _)).keep.ite hsent

theorem failSession_stocks (h : Stocks s t) : Stocks s (failSession t) := by
  unfold failSession
  exact Stocks.ite h.keep (h.keep.still (raise_still _ _))

theorem placeCall_stocks (h : Stocks s t) (n : Nat) : Stocks s (placeCall n t) :=
  (h.keep.still (sendOpen_still { t with night := { t.night with attempts := n, backoffTimer := none } })).keep

theorem nightCall_stocks (h : Stocks s t) : Stocks s (nightCall t) := by
  unfold nightCall
  exact (placeCall_stocks h _).ite h

theorem grantTaken_stocks (h : Stocks s t) (window : Byte) : Stocks s (grantTaken window t) := by
  unfold grantTaken
  split
  · exact h.change .rewound
  · exact h.keep
  · exact h

theorem removeAcked_stocks (h : Stocks s t) {n : Nat} (hn : n ≤ t.journal.outstanding) :
    Stocks s (removeAcked n t) := by
  have hacked : Stocks s { t with
      journal := t.journal.removeOldest n
      pool := t.pool.freeJournal (blocksOf (t.journal.records.take n)) } := h.change (.acked n hn)
  exact hacked.quiet (compareChanged_quiet _ _ _)

/-- R129: an ACK that covers more than is outstanding is counted, and removes nothing. -/
theorem takeAck_stocks (h : Stocks s t) (a : Station) (n : Seq) : Stocks s (takeAck a n t) := by
  unfold takeAck
  dsimp only
  split
  · exact h.still (offer_still _ _)
  · next hn =>
    have hremoved := removeAcked_stocks h (Nat.le_of_not_lt hn)
    exact (nightFollow_stocks hremoved.keep).ite hremoved

theorem ackExpires_stocks (h : Stocks s t) : Stocks s (ackExpires t) := by
  unfold ackExpires
  exact (nightFollow_stocks (h.change .rewound)).ite (failSession_stocks h.keep)

theorem closeSession_stocks (h : Stocks s t) : Stocks s (closeSession t) :=
  (h.still (sendClosed_still t)).change .rewound

theorem finishSession_stocks (h : Stocks s t) : Stocks s (finishSession t) := by
  unfold finishSession
  exact (closeSession_stocks h).ite h

/-! ## The label engine (R137 to R154) -/

/-- R137: each update of a LABELS message takes the place of a queued one, or a free block. -/
theorem takeUpdates_stocks (a : Station) (ws : List LabelWire) (h : Stocks s t) : Stocks s (takeUpdates a ws t).1 := by
  induction ws generalizing t with
  | nil => exact h
  | cons w ws ih =>
    unfold takeUpdates
    split
    · have hsuperseded : Stocks s { t with label := { t.label with queue := supersedeIn t.label.queue w } } :=
        h.change (.superseded w)
      exact ih (hsuperseded.still (offer_still _ _))
    · next hnew =>
      split
      · next hfits =>
        have hfree : 1 ≤ t.pool.free := (Nat.le_add_right _ _).trans (of_decide_eq_true hfits)
        exact ih (h.change (.queued (newUpdate w t.tick) (Bool.eq_false_iff.2 hnew) hfree))
      · exact h

theorem inFlight_lt_of_deliveryOpen (h : t.deliveryOpen = true) : t.label.inFlight.length < 16 := by
  simp only [State.deliveryOpen, Bool.and_eq_true, decide_eq_true_eq] at h
  exact h.2

theorem deliverWhile_stocks (n : Nat) (h : Stocks s t) : Stocks s (deliverWhile n t) := by
  induction n generalizing t with
  | zero => exact h
  | succ n ih =>
    unfold deliverWhile
    split
    · next hopen =>
      split
      · next b u _ hfind =>
        have hsent : Stocks s (t.sentInFlight u) :=
          h.change (.delivered u _ (inFlight_lt_of_deliveryOpen hopen) hfind rfl)
        exact ih (hsent.still (deliverOne_still b u t))
      · exact h
    · exact h

theorem deliveries_stocks (h : Stocks s t) : Stocks s (deliveries t) := deliverWhile_stocks 16 h

theorem labelRecovery_stocks (h : Stocks s t) : Stocks s (labelRecovery t) := by
  have hrecovered : Stocks s { t with
      label := t.label.recovered, pool := t.pool.freeLabel t.label.lostAtRecovery.length } := h.change .recovered
  exact hrecovered.quiet (labelRecovery_quiet t)

section
variable {number : BitVec 24} (hin : holdsLabel t.label.inFlight number = true)
include hin

/-- R149: an update that has left the in-flight list gives its block back. -/
theorem freeLabelBlock_landed_stocks (h : Stocks s t) : Stocks s (freeLabelBlock (t.landed number)) := by
  have hfreed : Stocks s { t.landed number with pool := t.pool.freeLabel 1 } := h.change (.freed number hin)
  exact hfreed.quiet (compareChanged_quiet _ _ _)

/-- R152: the undelivered list holds no block. -/
theorem giveUp_landed_stocks (h : Stocks s t) (u : LabelUpdate) (why : GivenUp) (o : Origin) :
    Stocks s (giveUp u why o (t.landed number)) := by
  have hfreed := freeLabelBlock_landed_stocks hin h
  have hlost : Stocks s (loseOldest (freeLabelBlock (t.landed number))) := by
    unfold loseOldest
    exact hfreed.ite ((hfreed.keep.still (offer_still _ _)).still (raise_still _ _))
  exact hlost.keep.still (offer_still _ _)

theorem returnUpdate_landed_stocks (h : Stocks s t) {u : LabelUpdate} (hu : u.number = number) (o : Origin) :
    Stocks s (returnUpdate u o (t.landed number)) := by
  subst hu
  unfold returnUpdate
  split
  · exact (freeLabelBlock_landed_stocks hin h).still (offer_still _ _)
  · next hnew => exact h.change (.returned u.returned hin (Bool.eq_false_iff.2 hnew))

/-- R149: an outcome frees the block of its update, or brings it back to the queue. -/
theorem applyOutcome_landed_stocks (h : Stocks s t) {u : LabelUpdate} (hu : u.number = number) (x : LabelOutcome)
    (o : Origin) : Stocks s (applyOutcome u x o (t.landed number)) := by
  unfold applyOutcome
  split
  · exact (freeLabelBlock_landed_stocks hin h).still (offer_still _ _)
  · exact giveUp_landed_stocks hin h _ _ _
  · exact (giveUp_landed_stocks hin h _ _ _).ite (returnUpdate_landed_stocks hin h (u := u.failed) hu _)

end

theorem takeOutcome_stocks (h : Stocks s t) (number : BitVec 24) (x : LabelOutcome) (o : Origin) :
    Stocks s (takeOutcome number x o t) := by
  unfold takeOutcome
  split
  · exact h.still (offer_still _ _)
  · next u hfind =>
    have hnumber := List.find?_some hfind
    have hin : holdsLabel t.label.inFlight number = true :=
      List.any_eq_true.2 ⟨u, List.mem_of_find?_eq_some hfind, hnumber⟩
    exact deliveries_stocks (applyOutcome_landed_stocks hin h (beq_iff_eq.1 hnumber) _ _)

/-! ## Clock and schedule (R159 to R166) -/

theorem setLabelWindow_stocks (h : Stocks s t) (v : Gate) (o : LevelOrigin) : Stocks s (setLabelWindow v o t) := by
  unfold setLabelWindow
  exact (deliveries_stocks h.keep).ite h.keep

theorem setGuestState_stocks (h : Stocks s t) (v : Gate) (o : LevelOrigin) : Stocks s (setGuestState v o t) := by
  unfold setGuestState
  exact Stocks.ite h.keep h.keep

theorem act_stocks (h : Stocks s t) (action : ScheduleAction) (o : LevelOrigin) : Stocks s (act action o t) := by
  cases action with
  | dayProfile => exact setProfile_stocks h _ _
  | nightProfile => exact setProfile_stocks h _ _
  | labelsOpen => exact setLabelWindow_stocks h _ _
  | labelsClosed => exact setLabelWindow_stocks h _ _
  | guestOpen => exact setGuestState_stocks h _ _
  | guestClosed => exact setGuestState_stocks h _ _
  | call => exact nightCall_stocks h

theorem fireEntries_stocks (h : Stocks s t) : Stocks s (fireEntries t) := by
  unfold fireEntries
  exact (foldl_stocks (fun _ _ h => (act_stocks h _ _).ite h) _ h).ite h

theorem replay_stocks (h : Stocks s t) : Stocks s (replay t) := by
  refine foldl_stocks (fun t k h => ?_) _ h
  unfold replayKind
  split
  · exact h
  · exact act_stocks h _ _

theorem clockSet_stocks (h : Stocks s t) (day second : Nat) : Stocks s (clockSet day second t) := by
  unfold clockSet
  exact (replay_stocks h.keep).ite h.keep

end Sys2Proof.Machine

/-! SUPPORT. What the messages, the spool unit and the receive path do to the stock (R5 to R12, R101 to R107, R120, R146). -/

namespace Sys2Proof.Machine

/- The proofs below run one after another: run together, their waiting threads outgrow the memory a check may use. -/
set_option Elab.async false

variable {s t : State}

/-! ## Messages (R120, R146) -/

theorem ifTaken_stocks (h : Stocks s t) (m : NightSource) (inRange : Bool) {take : State → State}
    (ht : Stocks s (take t)) : Stocks s (ifTaken m inRange take t) := by
  unfold ifTaken
  exact ht.ite (h.still (offer_still _ _))

theorem wakeMessage_stocks (h : Stocks s t) (m : NightSource) : Stocks s (wakeMessage m t) :=
  ifTaken_stocks h m _ (nightCall_stocks h)

/-- R161: a GRANT may set the clock, and a replay follows. -/
theorem grantMessage_stocks (h : Stocks s t) (m : NightSource) (window : Byte) (day : BitVec 16)
    (second : BitVec 32) : Stocks s (grantMessage m window day second t) := by
  have htaken := grantTaken_stocks h window
  refine ifTaken_stocks h m _ ?_
  unfold takeGrant
  exact (nightFollow_stocks ((clockSet_stocks htaken _ _).ite htaken)).ite h

theorem ackMessage_stocks (h : Stocks s t) (m : NightSource) (n : Seq) : Stocks s (ackMessage m n t) :=
  ifTaken_stocks h m _ (takeAck_stocks h _ _)

theorem labelsMessage_stocks (h : Stocks s t) (m : NightSource) (batch : BitVec 32) (ws : List LabelWire) :
    Stocks s (labelsMessage m batch ws t) := by
  refine ifTaken_stocks h m _ ?_
  unfold takeLabels
  exact (deliveries_stocks (((takeUpdates_stocks _ ws h).quiet (compareChanged_quiet _ _ _)).still
    (sendLabelAck_still _ _ _))).ite (h.still (offer_still _ _))

theorem finishMessage_stocks (h : Stocks s t) (m : NightSource) : Stocks s (finishMessage m t) :=
  ifTaken_stocks h m _ (finishSession_stocks h)

theorem overUplink_stocks (h : Stocks s t) (a : Station) {take : State → State} (ht : Stocks s (take t)) :
    Stocks s (overUplink a take t) := by
  unfold overUplink
  exact h.ite ((h.still (drop_still _ _ _)).ite ht)

theorem nightDatagram_stocks (h : Stocks s t) (a : Station) (b : NetAddr) (v : Service) (payload : Bytes) :
    Stocks s (nightDatagram a b v payload t) := by
  unfold nightDatagram
  split
  · exact wakeMessage_stocks h _
  · exact grantMessage_stocks h _ _ _ _
  · exact ackMessage_stocks h _ _
  · exact labelsMessage_stocks h _ _ _
  · exact finishMessage_stocks h _
  · exact h.still (offer_still _ _)

theorem readyMessage_stocks (h : Stocks s t) (slots : Byte) : Stocks s (readyMessage slots t) :=
  deliveries_stocks h.keep

theorem outcomeMessage_stocks (h : Stocks s t) (a : Station) (n : BitVec 24) (v : Byte) :
    Stocks s (outcomeMessage a n v t) := by
  unfold outcomeMessage
  split
  · exact h.still (drop_still _ _ _)
  · exact (h.still (drop_still _ _ _)).ite (takeOutcome_stocks h _ _ _)

theorem overLabel_stocks (h : Stocks s t) (a : Station) {take : State → State} (ht : Stocks s (take t)) :
    Stocks s (overLabel a take t) := by
  unfold overLabel
  exact h.ite ((h.still (drop_still _ _ _)).ite ((h.still (drop_still _ _ _)).ite ht))

theorem baseStationDatagram_stocks (h : Stocks s t) (a : Station) (payload : Bytes) :
    Stocks s (baseStationDatagram a payload t) := by
  unfold baseStationDatagram
  split
  · exact readyMessage_stocks h _
  · exact outcomeMessage_stocks h _ _ _
  · exact h.still (drop_still _ _ _)

/-! ## The spool unit (R101 to R107) -/

/-- R102 to R105: a till answered by a notice, and the event counted, are nothing to the stock. -/
theorem answerTill_still (p : Passage) (copy : LookupCopy) (n : Fin 32) (kind code : Nat) (number sequence : Seq)
    (event : SpoolEvent) (s : State) : (answerTill p copy n kind code number sequence event s).still = s.still :=
  noticed_still _ _ s

/-- R109: a record that fits the pool has blocks that are free. -/
theorem blocks_le_of_journalFits {x : Pool} {k : Nat} (h : x.journalFits k = true) : k ≤ x.free :=
  (Nat.le_add_right _ _).trans (of_decide_eq_true h)

theorem append_stocks (h : Stocks s t) (n : Fin 32) (number : Seq) {payload : Bytes}
    (hfits : t.pool.journalFits (blocksFor payload.length) = true) : Stocks s (append n number payload t) := by
  have happended : Stocks s (({ t with
      journal := { t.journal with
        records := t.journal.records ++ [newRecord t n number payload], nextSeq := t.journal.nextSeq + 1 }
      pool := t.pool.takeJournal (blocksFor payload.length) } : State).withLastAccepted n number) :=
    h.change (.appended (newRecord t n number payload) rfl (blocks_le_of_journalFits hfits))
  exact happended.quiet (compareChanged_quiet _ _ _)

theorem appendNew_stocks (h : Stocks s t) (p : Passage) (copy : LookupCopy) (n : Fin 32) (number : Seq) :
    Stocks s (appendNew p copy n number t) := by
  unfold appendNew
  dsimp only
  split
  · next hfits => exact nightFollow_stocks ((append_stocks h n number hfits).still (answerTill_still ..))
  · exact h.still (answerTill_still ..)

theorem checkRecord_stocks (h : Stocks s t) (p : Passage) (copy : LookupCopy) (n : Fin 32) :
    Stocks s (checkRecord p copy n t) := by
  unfold checkRecord deduplicate
  dsimp only
  repeat' split
  case h_1 => exact appendNew_stocks h _ _ _ _
  case h_2.isFalse.isTrue => exact appendNew_stocks h _ _ _ _
  case h_2.isFalse.isFalse => exact appendNew_stocks (h.still (offer_still _ _)) _ _ _ _
  all_goals exact h.still (answerTill_still ..)

/-- R101: each test of a Spool frame drops it, and the last lets it through. -/
theorem spoolFrame_stocks (h : Stocks s t) (p : Passage) (copy : LookupCopy) : Stocks s (spoolFrame p copy t) := by
  unfold spoolFrame
  dsimp only
  repeat' split
  case h_2.isFalse.isFalse.isFalse => exact checkRecord_stocks h _ _ _
  all_goals exact h.still (drop_still _ _ _)

/-! ## The receive path (R5 to R12, R25, R71 to R73, R91) -/

theorem joinRequests_stocks (h : Stocks s t) (port : Segment) (a : Station) (r : Request) :
    Stocks s (joinRequests port a r t) := by
  unfold joinRequests setAlertDestination
  split
  · split
    · exact h.keep.still (alertTest_still _)
    · exact h.keep
  · exact h.still (offer_still _ _)

theorem lookupFrame_stocks (h : Stocks s t) (p : Passage) : Stocks s (lookupFrame p t) := by
  have hlooked : Stocks s (t.lookedUp p) := h.keep.still (lookedUp_still t p)
  rw [lookupFrame_eq]
  unfold takeAction
  split
  · exact forwardFrame_stocks hlooked _ _
  · exact trackFrame_stocks hlooked _ _
  · exact spoolFrame_stocks hlooked _ _
  · exact hlooked.still (drop_still _ _ _)

theorem passOn_stocks (h : Stocks s t) (p : Passage) : Stocks s (passOn p t) := by
  unfold passOn
  split
  · split
    · exact replyFrame_stocks h _ _ _
    · exact lookupFrame_stocks h _
  · exact lookupFrame_stocks h _

theorem deliverLocal_stocks (p : Passage) (h : Stocks s t) : Stocks s (deliverLocal p t) := by
  have hdropped (r : DropReason) (o : Origin) : Stocks s (drop r o t) := h.still (drop_still r o t)
  have hrequest : Stocks s (remoteRequest p.bytes p.ip t) := (joinRequests_stocks h _ _ _).ite (hdropped _ _)
  have hnight := nightDatagram_stocks h (sourceStation p.bytes) p.ip.source (p.ip.sourceService.getD 0)
    (udpPayload p.bytes p.ip)
  have hlabel := baseStationDatagram_stocks h (sourceStation p.bytes) (udpPayload p.bytes p.ip)
  have hrunning : Stocks s (deliverRunning p t) := (hnight.ite (hdropped _ _)).ite
    ((hlabel.ite (hdropped _ _)).ite ((hdropped _ _).ite (passOn_stocks h p)))
  unfold deliverLocal
  exact hrequest.ite (hrunning.ite (hdropped _ _))

section
variable {next : State → State} (hn : ∀ u, Stocks s u → Stocks s (next u))
include hn

theorem guestSource_stocks (h : Stocks s t) (a : Station) (b : NetAddr) (n : Nat) :
    Stocks s (guestSource a b n next t) := by
  have hdropped (r : DropReason) (o : Origin) : Stocks s (drop r o t) := h.still (drop_still r o t)
  have hunknown : Stocks s (unknownGuest a b n next t) := by
    unfold unknownGuest
    refine (hdropped _ _).ite ((hn _ h.keep).ite ?_)
    split
    · exact hdropped _ _
    · next v _ =>
      have hevicted : Stocks s (t.withTable (without t.guest.table v.station)) := h.keep
      exact hn _ (hevicted.still (offer_still _ _)).keep
  unfold guestSource knownGuest
  refine (hdropped _ _).ite ((hdropped _ _).ite ?_)
  split
  · exact (hdropped _ _).ite ((hdropped _ _).ite (hn _ h.keep))
  · exact hunknown

end

theorem sourceCheck_stocks (h : Stocks s t) {next : Option (Fin 32) → State → State}
    (hn : ∀ i u, Stocks s u → Stocks s (next i u)) (port : Segment) (a : Station) (b : NetAddr) (n : Nat) :
    Stocks s (sourceCheck port a b n next t) := by
  unfold sourceCheck
  split
  · exact hn _ _ h
  · split
    · split
      · exact hn _ _ h
      · exact h.still (drop_still _ _ _)
    · exact guestSource_stocks (hn none) h _ _ _
    · exact hn _ _ h

theorem sortFrame_stocks (h : Stocks s t) (port : Segment) (bs : Bytes) : Stocks s (sortFrame port bs t) := by
  have hdropped : Stocks s (drop .unsupported (receivedOrigin port (sourceStation bs)) t) := h.still (drop_still _ _ t)
  have hipv4 : Stocks s (ipv4Frame port bs t) := by
    unfold ipv4Frame
    split
    · exact hdropped
    · exact sourceCheck_stocks h (fun _ _ => deliverLocal_stocks _) _ _ _ _
  have harp : Stocks s (sourceCheck port (sourceStation bs) (word32 bs 28) bs.length
      (fun _ u => arpFrame port bs u) t) :=
    sourceCheck_stocks h (fun _ u hu => hu.still (arpFrame_still _ _ u)) _ _ _ _
  exact (hdropped.ite hipv4).ite (harp.ite ((joinRequests_stocks h _ _ _).ite hdropped))

theorem receiveFrame_stocks (h : Stocks s t) (port : Segment) (fcs : Bool) (bs : Bytes) :
    Stocks s (receiveFrame port fcs bs t) := by
  unfold receiveFrame
  exact h.ite ((h.still (offer_still _ _)).ite (h.ite (sortFrame_stocks (h.still (offer_still _ _)) _ _)))

end Sys2Proof.Machine

/-! SUPPORT. Every command as changes of the stock, and with them the laws of the pool and of the journal (R108, R113). -/

namespace Sys2Proof.Machine

/- The proofs below run one after another: run together, their waiting threads outgrow the memory a check may use. -/
set_option Elab.async false

variable {c : Instr} {s t : State}

/-! ## The command event (R183, R188) -/

section
variable {q : Requester} {i : Instr} {code : Nat} {run : State → CmdResult}

theorem openCommand_stocks (hrun : ∀ t, Stocks s t → Stocks s (run t).state) :
    Stocks s (openCommand q i code run s) := by
  obtain ⟨_, htaken⟩ := takeRequest_eq i s
  have hstart : Stocks s (takeRequest i s) := by
    rw [htaken]
    exact (Stocks.refl s).keep
  exact (hrun _ hstart).still (openCommand_still q i code run s)

theorem lockedCommand_stocks (hrun : ∀ t, Stocks s t → Stocks s (run t).state) :
    Stocks s (lockedCommand q i code run s) :=
  openCommand_stocks fun t ht => by
    split
    · exact (hrun t ht).keep
    · exact ht

/-- A command whose run leaves the stock as it was. -/
theorem openCommand_stock_kept (h : ∀ t, (run t).state.stock = t.stock) : Stocks s (openCommand q i code run s) :=
  openCommand_stocks fun t ht => ht.keep (h t)

/-- A lock-requiring command whose run leaves the stock as it was. -/
theorem lockedCommand_stock_kept (h : ∀ t, (run t).state.stock = t.stock) : Stocks s (lockedCommand q i code run s) :=
  lockedCommand_stocks fun t ht => ht.keep (h t)

end

/-! ## The writes (R187) -/

section
variable {α : Type} {first : BitVec 32} {entries : List α}

/-- A write of a table with one index whose entry is nothing to the stock. -/
theorem writeSingle_stock {take : α → State → CmdResult} (h : ∀ w s, (take w s).state.stock = s.stock) (s : State) :
    (writeSingle first entries take s).state.stock = s.stock :=
  writeSingle_state (P := fun t => t.stock = s.stock) rfl fun w => h w s

/-- A write of a table with several indices whose entries are nothing to the stock. -/
theorem writeMany_stock {low high : Nat} {take : State → CmdResult} (h : (take s).state.stock = s.stock) :
    (writeMany low high first entries take s).state.stock = s.stock :=
  writeMany_state (P := fun t => t.stock = s.stock) rfl h

theorem writeNamed_stock {low high : Nat} {fault : Option Nat} {take : State → CmdResult}
    (h : (take s).state.stock = s.stock) : (writeNamed low high first entries fault take s).state.stock = s.stock :=
  writeNamed_state (P := fun t => t.stock = s.stock) rfl h

end

/-- R147: a PORTS write is followed by delivery events. -/
theorem writePortsRun_stocks (h : Stocks s t) (first : BitVec 32) (es : List PortsWrite) :
    Stocks s (writePortsRun first es t).state := by
  refine writeSingle_state h fun w => ?_
  unfold writePortsEntry
  split
  · exact h
  · split
    · exact h
    · split
      · exact h
      · exact deliveries_stocks h.keep

/-- R63: the meters written are compared, and nothing to the stock. -/
theorem writeMetersRun_stocks (h : Stocks s t) (first : BitVec 32) (es : List MeterWrite) :
    Stocks s (writeMetersRun first es t).state := by
  refine writeMany_state h ?_
  dsimp only
  split
  · exact h
  · exact foldl_stocks (fun _ _ h => setMeter_stocks h _ _) _ h

theorem writeOfficeRun_stock (first : BitVec 32) (es : List OfficeStation) (s : State) :
    (writeOfficeRun first es s).state.stock = s.stock := by
  refine writeMany_stock ?_
  dsimp only
  split <;> rfl

theorem writeWindowRun_stock (k : BankId) (first : BitVec 32) (es : List WindowWrite) (s : State) :
    (writeWindowRun k first es s).state.stock = s.stock := by
  unfold writeWindowRun
  split
  · rfl
  · exact writeNamed_stock rfl

theorem writeDefaultsRun_stock (k : BankId) (first : BitVec 32) (es : List DefaultWrite) (s : State) :
    (writeDefaultsRun k first es s).state.stock = s.stock := by
  unfold writeDefaultsRun
  split
  · rfl
  · exact writeNamed_stock rfl

theorem writeIdentityRun_stock (first : BitVec 32) (es : List (BitVec 32)) (s : State) :
    (writeIdentityRun first es s).state.stock = s.stock := by
  refine writeMany_stock ?_
  dsimp only
  split <;> rfl

theorem writeScheduleRun_stock (first : BitVec 32) (es : List ScheduleWrite) (s : State) :
    (writeScheduleRun first es s).state.stock = s.stock := by
  refine writeMany_stock ?_
  split <;> rfl

theorem writeThresholdsRun_stock (first : BitVec 32) (es : List PairWrite) (s : State) :
    (writeThresholdsRun first es s).state.stock = s.stock := writeMany_stock rfl

theorem writeTillsRun_stock (first : BitVec 32) (es : List TillWrite) (s : State) :
    (writeTillsRun first es s).state.stock = s.stock := writeNamed_stock (by simp only [State.stock, doneClamped])

/-- R187: what the bytes of a WRITE spell does to the stock what the write of its table does. -/
theorem writeRunOf_stocks {q : Requester} {table : Byte} {first : BitVec 32} {count : BitVec 16} {data : Bytes}
    {run : State → CmdResult} (hrun : writeRunOf q table first count data = some run) (h : Stocks s t) :
    Stocks s (run t).state := by
  unfold writeRunOf at hrun
  split at hrun <;> cases hrun
  case h_1 => exact writePortsRun_stocks h _ _
  case h_2 => exact h.keep (writeOfficeRun_stock _ _ t)
  case h_3 => exact h.keep (writeWindowRun_stock _ _ _ t)
  case h_4 => exact h.keep (writeDefaultsRun_stock _ _ _ t)
  case h_5 => exact h.keep (writeIdentityRun_stock _ _ t)
  case h_7 => exact writeMetersRun_stocks h _ _
  case h_8 => exact h.keep (writeThresholdsRun_stock _ _ t)
  case h_10 => exact h.keep (writeTillsRun_stock _ _ t)
  case h_15 => exact h.keep (writeScheduleRun_stock _ _ t)
  case h_18 => exact h
  all_goals exact h.keep (writeSingle_stock (fun _ _ => rfl) t)

/-! ## The other commands -/

theorem withCursor_stock (s : State) (p : Party) (x : Cursor) : (s.withCursor p x).stock = s.stock := by
  cases p <;> rfl

theorem readTable_stock (q : Requester) (table : Byte) (first : BitVec 32) (count : BitVec 16) (s : State) :
    (readTable q table first count s).state.stock = s.stock := by
  unfold readTable
  split
  · rfl
  · split
    · rfl
    · exact withCursor_stock _ _ _

theorem readOn_stock (q : Requester) (count : BitVec 16) (s : State) : (readOn q count s).state.stock = s.stock := by
  unfold readOn
  split
  · rfl
  · exact withCursor_stock _ _ _

theorem swapRun_stock (s : State) : (swapRun s).state.stock = s.stock := by
  unfold swapRun
  split <;> rfl

theorem barRun_stock (a : Station) (s : State) : (barRun a s).state.stock = s.stock := by
  unfold barRun
  split <;> rfl

theorem unbarRun_stock (a : Station) (s : State) : (unbarRun a s).state.stock = s.stock := by
  unfold unbarRun
  split
  · rfl
  · split <;> rfl

theorem configureRun_stock (ws : Vector CounterWrite 8) (g : GroupControls) (s : State) :
    (configureRun ws g s).state.stock = s.stock := by
  unfold configureRun
  split <;> rfl

theorem startRun_stock (form : Byte) (s : State) : (startRun form s).state.stock = s.stock := by
  unfold startRun
  split <;> rfl

theorem clearRun_stock (ns : List Byte) (s : State) : (clearRun ns s).state.stock = s.stock := by
  unfold clearRun
  split <;> rfl

theorem alertClearRun_stock (xs : List Byte) (s : State) : (alertClearRun xs s).state.stock = s.stock := by
  unfold alertClearRun
  split <;> rfl

theorem claimRun_stock (p : Party) (s : State) : (claimRun p s).state.stock = s.stock := by
  unfold claimRun
  split <;> rfl

theorem releaseRun_stock (p : Party) (s : State) : (releaseRun p s).state.stock = s.stock := by
  unfold releaseRun
  split <;> rfl

theorem openRun_stocks (h : Stocks s t) : Stocks s (openRun t).state := by
  have hopened : Stocks s (t.withPart .running) := h.keep
  unfold openRun
  split
  · exact h
  · exact (replay_stocks hopened).ite hopened

/-- R17, R135: the forced stop of a session takes next-to-send back to oldest. -/
theorem forcedStop_stocks (h : Stocks s t) : Stocks s (forcedStop t) := by
  unfold forcedStop
  exact h.ite (closeSession_stocks h)

theorem closeRun_stocks (h : Stocks s t) : Stocks s (closeRun t).state := by
  have hclosing : Stocks s t.closing := h.keep
  unfold closeRun
  split
  · exact labelRecovery_stocks (forcedStop_stocks hclosing).keep
  · exact h

/-- R18, R140, R154: forwarding restart takes next-to-send back to oldest, and the updates in flight to the queue. -/
theorem restartPart_stocks (h : Stocks s t) : Stocks s (restartPart t) := by
  have hrestarting : Stocks s t.restarting := h.keep
  have hmeters : Stocks s (meterList.foldl restartMeter t.restarting) :=
    foldl_stocks (fun _ _ h => setMeter_stocks h _ _) _ hrestarting
  rw [restartPart_eq]
  exact labelRecovery_stocks (hmeters.change .rewound)

theorem profileRun_stocks (h : Stocks s t) (v : Byte) : Stocks s (profileRun v t).state := by
  unfold profileRun
  split
  · exact setProfile_stocks h _ _
  · exact setProfile_stocks h _ _
  · exact h

theorem labelsRun_stocks (h : Stocks s t) (v : Byte) : Stocks s (labelsRun v t).state := by
  unfold labelsRun
  split
  · exact setLabelWindow_stocks h _ _
  · exact h

theorem guestRun_stocks (h : Stocks s t) (v : Byte) : Stocks s (guestRun v t).state := by
  unfold guestRun
  split
  · exact setGuestState_stocks h _ _
  · exact h

theorem callRun_stocks (h : Stocks s t) : Stocks s (callRun t).state := by
  unfold callRun
  split
  · exact nightCall_stocks h
  · exact h

theorem stopRun_stocks (h : Stocks s t) : Stocks s (stopRun t).state := by
  unfold stopRun
  split
  · exact h
  · exact closeSession_stocks h

theorem discardRun_stocks (h : Stocks s t) : Stocks s (discardRun t).state := by
  have hdiscarded : Stocks s { t with
      journal := { t.journal with records := [], oldest := t.journal.nextSeq, nextToSend := t.journal.nextSeq }
      pool := t.pool.freeJournal t.pool.journalHeld } := h.change .discarded
  unfold discardRun
  split
  · exact hdiscarded.quiet (compareChanged_quiet _ _ _)
  · exact h

theorem adjustQueuesRun_stocks (h : Stocks s t) (w : QueueLimitsWrite) : Stocks s (adjustQueuesRun w t).state := by
  unfold adjustQueuesRun
  split
  · exact h
  · exact nightFollow_stocks h.keep

/-! ## The events -/

theorem afterLinkUp_stocks (h : Stocks s t) (g : Segment) : Stocks s (afterLinkUp g t) := by
  have hdeparted : Stocks s (if g = .uplink then nightFollow (depart t) else t) :=
    (nightFollow_stocks (h.still (depart_still t))).ite h
  unfold afterLinkUp
  exact (hdeparted.still (alertTest_still _)).ite hdeparted

theorem afterLinkLoss_stocks (h : Stocks s t) (g : Segment) : Stocks s (afterLinkLoss g t) := by
  cases g with
  | uplink =>
    unfold afterLinkLoss nightLinkLoss
    exact Stocks.ite h.keep h.keep
  | label => exact labelRecovery_stocks h.keep
  | till => exact h.keep
  | guest => exact h.keep
  | office => exact h.keep

theorem meterRelease_stocks (h : Stocks s t) (m : Meter) : Stocks s (if (t.meters.get m).hold = [] then t
    else if m = .transfer then nightFollow (releaseMeter m t) else releaseMeter m t) :=
  have hreleased := releaseMeter_stocks h m
  h.ite ((nightFollow_stocks hreleased).ite hreleased)

/-! ## Every command -/

/-- Every command is changes of the stock. -/
theorem exec_stocks (h : exec c s = .next t) : Stocks s t := by
  have same : Stocks s s := .refl s
  cases c <;> cases h
  case deviceReset => exact same.change .reset
  case linkUp g v => exact afterLinkUp_stocks same.keep g
  case linkLoss g => exact (afterLinkLoss_stocks same.keep g).ite same
  case frameReceived g fcs bs => exact receiveFrame_stocks same g fcs bs
  case egressTransmissionEnd p => exact Stocks.ite same.keep same
  case uplinkTransmissionEnd => exact (nightFollow_stocks (same.keep.still (depart_still _))).ite same
  case msTickAdvance => exact same.keep
  case meterRelease m => exact meterRelease_stocks same m
  case guestAging => exact Stocks.ite same.keep same
  case secondAdvance => exact (fireEntries_stocks same.keep).ite same
  case waitingExpiry i =>
    split
    · exact expireWaiting_stocks same _ _
    · exact same
  case heldOverExpiry i =>
    split
    · exact expireHeldOver_stocks same _ _
    · exact same
  case wake m => exact overUplink_stocks same _ (wakeMessage_stocks same m)
  case grant m w d x => exact overUplink_stocks same _ (grantMessage_stocks same m w d x)
  case ack m n => exact overUplink_stocks same _ (ackMessage_stocks same m n)
  case labelsMessage m b ws => exact overUplink_stocks same _ (labelsMessage_stocks same m b ws)
  case finish m => exact overUplink_stocks same _ (finishMessage_stocks same m)
  case callTimerExpiry => exact (failSession_stocks same.keep).ite same
  case backoffTimerExpiry => exact (placeCall_stocks same _).ite same
  case ackTimerExpiry => exact (ackExpires_stocks same).ite same
  case settleTimerExpiry => exact (closeSession_stocks same).ite same
  case ready a n => exact overLabel_stocks same _ (readyMessage_stocks same n)
  case outcome a n v => exact overLabel_stocks same _ (outcomeMessage_stocks same a n v)
  case pacingTimerExpiry => exact (deliveries_stocks same.keep).ite same
  case outcomeTimeout n =>
    split
    · exact takeOutcome_stocks same _ _ _
    · exact same
  case alertTimerExpiry => exact (same.keep.still (alertTest_still _)).ite same
  case leaseExpiry => exact Stocks.ite same.keep same
  case write q x i n bs =>
    split
    · next hrun => exact lockedCommand_stocks fun _ => writeRunOf_stocks hrun
    · exact openCommand_stock_kept fun _ => rfl
  case read q x i n => exact openCommand_stock_kept (readTable_stock q x i n)
  case readNext q n => exact openCommand_stock_kept (readOn_stock q n)
  case writePorts q i es => exact lockedCommand_stocks fun _ h => writePortsRun_stocks h i es
  case writeMeters q i es => exact lockedCommand_stocks fun _ h => writeMetersRun_stocks h i es
  case writeOfficeStations q i es => exact lockedCommand_stock_kept (writeOfficeRun_stock i es)
  case writeWindow q k i es => exact lockedCommand_stock_kept (writeWindowRun_stock k i es)
  case writeDefaults q k i es => exact lockedCommand_stock_kept (writeDefaultsRun_stock k i es)
  case writeBankIdentity q i es => exact lockedCommand_stock_kept (writeIdentityRun_stock i es)
  case writeThresholds q i es => exact lockedCommand_stock_kept (writeThresholdsRun_stock i es)
  case writeTills q i es => exact lockedCommand_stock_kept (writeTillsRun_stock i es)
  case writeSchedule q i es => exact lockedCommand_stock_kept (writeScheduleRun_stock i es)
  case swap q => exact lockedCommand_stock_kept swapRun_stock
  case openPart q => exact lockedCommand_stocks fun _ => openRun_stocks
  case closePart q => exact lockedCommand_stocks fun _ => closeRun_stocks
  case restart q => exact lockedCommand_stocks fun _ => restartPart_stocks
  case setClock q d x => exact lockedCommand_stocks fun _ h => clockSet_stocks h _ _
  case profile q v => exact lockedCommand_stocks fun _ h => profileRun_stocks h v
  case labels q v => exact lockedCommand_stocks fun _ h => labelsRun_stocks h v
  case guest q v => exact lockedCommand_stocks fun _ h => guestRun_stocks h v
  case call q => exact lockedCommand_stocks fun _ => callRun_stocks
  case stop q => exact lockedCommand_stocks fun _ => stopRun_stocks
  case journalDiscard q => exact lockedCommand_stocks fun _ => discardRun_stocks
  case adjustQueues q w => exact lockedCommand_stocks fun _ h => adjustQueuesRun_stocks h w
  case bar q a => exact lockedCommand_stock_kept (barRun_stock a)
  case unbar q a => exact lockedCommand_stock_kept (unbarRun_stock a)
  case countersConfigure q ws g => exact lockedCommand_stock_kept (configureRun_stock ws g)
  case countersStart q => exact lockedCommand_stock_kept (startRun_stock q.form)
  case countersClear q ns => exact lockedCommand_stock_kept (clearRun_stock ns)
  case alertClear q xs => exact lockedCommand_stock_kept (alertClearRun_stock xs)
  case claim q => exact openCommand_stock_kept (claimRun_stock q.party)
  case release q => exact openCommand_stock_kept (releaseRun_stock q.party)
  case identify => exact openCommand_stock_kept fun _ => rfl
  case unknownCommand => exact openCommand_stock_kept fun _ => rfl
  case labelClear => exact lockedCommand_stock_kept fun _ => rfl
  all_goals exact lockedCommand_stock_kept (writeSingle_stock fun _ _ => rfl)

/-- Settles O9: a step is changes of the stock, and each of them keeps both laws. -/
theorem everyStepKeepsThePoolAndJournalLaws : Obligations.EveryStepKeepsThePoolAndJournalLaws := by
  intro s t hpool hjournal h
  unfold step at h
  split at h
  · exact (exec_stocks h).laws hpool hjournal
  · split at h
    · exact (exec_stocks h).laws hpool hjournal
    · cases h
      exact ⟨hpool, hjournal⟩

end Sys2Proof.Machine

/-! SUPPORT. R114, R129, R130: what an ACK of the collector removes, and how the ack timer runs on. -/

namespace Sys2Proof.Machine

/- The proofs below run one after another: run together, their waiting threads outgrow the memory a check may use. -/
set_option Elab.async false

variable {s t : State} {timer : Option Timer} {m : NightSource} {sequence : Seq}

/-! ## The ack timer through the send events (R130, R131) -/

/-- R130, R131: DRAINING, within a window of one octet, with records outstanding, so that no send event restarts the ack
timer and no completion test ends the session. -/
structure State.AckRuns (s : State) (timer : Option Timer) : Prop where
  draining : s.night.state = .draining
  window : s.night.window ≤ 255
  outstanding : 0 < s.journal.outstanding
  ackTimer : s.night.ackTimer = timer

theorem length_packRecords_le_count (n room : Nat) (rs : List JournalRecord) :
    (packRecords n room rs).length ≤ n := by
  induction rs generalizing n room with
  | nil => cases n <;> simp [packRecords]
  | cons r rest ih =>
    cases n with
    | zero => simp [packRecords]
    | succ n =>
      unfold packRecords
      split
      · simpa using ih n _
      · simp

/-- R131: the records of one message bring outstanding to the window at most. -/
theorem length_nextRecords_le (s : State) : s.nextRecords.length ≤ s.night.window - s.journal.outstanding :=
  length_packRecords_le_count _ _ _

/-- R131: within a window of one octet a send event raises outstanding by the records it carries. -/
theorem recordsTaken_outstanding (hw : s.night.window ≤ 255) (hroom : s.journal.outstanding < s.night.window) :
    s.recordsTaken.journal.outstanding = s.journal.outstanding + s.nextRecords.length := by
  have hlen := length_nextRecords_le s
  have hsum : s.journal.nextToSend + BitVec.ofNat 32 s.nextRecords.length - s.journal.oldest
      = (s.journal.nextToSend - s.journal.oldest) + BitVec.ofNat 32 s.nextRecords.length := by
    bv_omega
  unfold Journal.outstanding at *
  show (s.journal.nextToSend + BitVec.ofNat 32 s.nextRecords.length - s.journal.oldest).toNat = _
  rw [hsum, BitVec.toNat_add, BitVec.toNat_ofNat]
  omega

theorem State.AckRuns.sendRecords (h : s.AckRuns timer) (hsend : s.canSend = true) : (sendRecords s).AckRuns timer := by
  have hroom : s.journal.outstanding < s.night.window := by
    simp only [State.canSend, Bool.and_eq_true, decide_eq_true_eq] at hsend
    tauto
  obtain ⟨hdraining, hwindow, hsome, htimer⟩ := h
  obtain ⟨_, hq⟩ := sendRecords_quiet s
  have hnight : (Machine.sendRecords s).night = s.recordsTaken.night := (Machine.quiet_night hq).trans rfl
  have hjournal : (Machine.sendRecords s).journal = s.recordsTaken.journal := (Machine.quiet_journal hq).trans rfl
  constructor
  · rw [hnight]; exact hdraining
  · rw [hnight]; exact hwindow
  · rw [hjournal, recordsTaken_outstanding hwindow hroom]; omega
  · rw [hnight]
    exact (if_neg (by omega)).trans htimer

theorem State.AckRuns.sendWhile (n : Nat) (h : s.AckRuns timer) : (sendWhile n s).AckRuns timer := by
  induction n generalizing s with
  | zero => exact h
  | succ n ih =>
    unfold Machine.sendWhile
    split
    next hsend => exact ih (h.sendRecords hsend)
    next => exact h

/-- R131, R133: with records outstanding what follows at the engine leaves DRAINING and the ack timer as they are. -/
theorem State.AckRuns.nightFollow (h : s.AckRuns timer) : (nightFollow s).AckRuns timer := by
  have hsent := h.sendWhile s.night.window
  have htest : ∀ u : State, u.AckRuns timer → completionTest u = u := fun u hu =>
    if_neg fun hc => absurd hc.2.1 (by have := hu.outstanding; omega)
  unfold Machine.nightFollow
  rwa [htest _ hsent]

/-! ## The records removed (R114, R129) -/

/-- R114: the state without its n oldest records, their blocks freed, before the journal pair's comparison. -/
def State.withoutOldest (s : State) (n : Nat) : State :=
  { s with
    journal := s.journal.removeOldest n
    pool := s.pool.freeJournal (blocksOf (s.journal.records.take n)) }

theorem removeAcked_quiet (n : Nat) (s : State) : (removeAcked n s).quiet = (s.withoutOldest n).quiet :=
  compareChanged_quiet _ _ _

/-- R129: past the records a sequence covers stands the sequence after it. -/
theorem oldest_add_covered (j : Journal) (sequence : Seq) :
    j.oldest + BitVec.ofNat 32 (j.covered sequence) = sequence + 1 := by
  unfold Journal.covered
  rw [BitVec.ofNat_toNat, BitVec.setWidth_eq]
  bv_omega

theorem removeOldest_covered (j : Journal) (sequence : Seq) :
    j.removeOldest (j.covered sequence)
      = { j with records := j.records.drop (j.covered sequence), oldest := sequence + 1 } := by
  rw [Journal.removeOldest, oldest_add_covered]

/-- R114: records removed within the span lower outstanding by their number. -/
theorem removeOldest_outstanding (j : Journal) {n : Nat} (h : n ≤ j.outstanding) :
    (j.removeOldest n).outstanding = j.outstanding - n := by
  unfold Journal.outstanding Journal.removeOldest at *
  dsimp only
  bv_omega

/-! ## The ACK (R129) -/

theorem exec_ack (hup : s.up .uplink = true) (hrun : s.running = true) (hfrom : s.fromCollector m = true) :
    exec (.ack m sequence) s = .next (takeAck m.station sequence s) := by
  show Host.Outcome.next (overUplink _ _ _) = _
  simp [overUplink, ackMessage, ifTaken, hup, hrun, hfrom]

theorem takeAck_stale (station : Station) (h : s.journal.outstanding < s.journal.covered sequence) :
    takeAck station sequence s = offer (occur (.night .staleAck) (receivedOrigin .uplink station)) s :=
  if_pos h

theorem takeAck_draining (station : Station) (h : s.journal.covered sequence ≤ s.journal.outstanding)
    (hstate : s.night.state = .draining) :
    takeAck station sequence s
      = nightFollow (ackTimerAfter (s.journal.covered sequence) (removeAcked (s.journal.covered sequence) s)) :=
  (if_neg (by omega)).trans (if_pos hstate)

theorem takeAck_not_draining (station : Station) (h : s.journal.covered sequence ≤ s.journal.outstanding)
    (hstate : s.night.state ≠ .draining) :
    takeAck station sequence s = removeAcked (s.journal.covered sequence) s :=
  (if_neg (by omega)).trans (if_neg hstate)

theorem takeAck_asleep (station : Station) (h : s.journal.covered sequence ≤ s.journal.outstanding) :
    (takeAck station sequence s).asleep = (s.withoutOldest (s.journal.covered sequence)).asleep := by
  have hremoved := asleep_of_quiet (removeAcked_quiet (s.journal.covered sequence) s)
  by_cases hstate : s.night.state = .draining
  · rw [takeAck_draining station h hstate, nightFollow_asleep, ← hremoved]
    rfl
  · rw [takeAck_not_draining station h hstate, hremoved]

/-- R130: in DRAINING, with records left outstanding, the ack timer restarts when records were removed. -/
theorem takeAck_restarts (station : Station) (hstate : s.night.state = .draining) (hwindow : s.night.window ≤ 255)
    (hsome : 0 < s.journal.covered sequence) (hleft : s.journal.covered sequence < s.journal.outstanding) :
    (takeAck station sequence s).AckRuns (s.timer s.night.settings.ackTimeout) := by
  have hq := removeAcked_quiet (s.journal.covered sequence) s
  have hnight : (removeAcked (s.journal.covered sequence) s).night = s.night := (Machine.quiet_night hq).trans rfl
  have htick : (removeAcked (s.journal.covered sequence) s).tick = s.tick := (quiet_tick hq).trans rfl
  have hout : (removeAcked (s.journal.covered sequence) s).journal.outstanding
      = s.journal.outstanding - s.journal.covered sequence :=
    (congrArg Journal.outstanding (quiet_journal hq)).trans (removeOldest_outstanding s.journal hleft.le)
  rw [takeAck_draining station hleft.le hstate]
  refine State.AckRuns.nightFollow ⟨?_, ?_, ?_, ?_⟩
  · exact (congrArg Night.state hnight).trans hstate
  · exact (congrArg Night.window hnight).trans_le hwindow
  · exact hout.trans_gt (by omega)
  · refine ((if_neg (by omega)).trans (if_neg (by omega))).trans ?_
    simp only [State.timer, hnight, htick]

/-- Settles O35: outside the span the event alone is counted; within it the records go in every state, and DRAINING goes on
by send events that leave the timer running. -/
theorem ackRemovesTheRecordsItCovers : Obligations.AckRemovesTheRecordsItCovers := by
  unfold Obligations.AckRemovesTheRecordsItCovers
  rintro m sequence _ _ _ s hup hrun hfrom rfl rfl rfl
  rw [exec_ack hup hrun hfrom]
  refine ⟨fun h => congrArg Host.Outcome.next (takeAck_stale m.station h), fun h => ⟨_, rfl, ?_, ?_, ?_⟩⟩
  · refine (takeAck_asleep m.station h).trans ?_
    unfold State.withoutOldest
    rw [removeOldest_covered]
    rfl
  · intro hstate
    rw [takeAck_not_draining m.station h hstate]
    have hq := removeAcked_quiet (s.journal.covered sequence) s
    exact ⟨(quiet_night hq).trans rfl, (quiet_meters hq).trans rfl,
      (congrArg Journal.nextToSend (quiet_journal hq)).trans rfl⟩
  · intro hstate hwindow hsome hleft
    have hruns := takeAck_restarts m.station hstate hwindow hsome hleft
    exact ⟨hruns.draining, hruns.ackTimer⟩

end Sys2Proof.Machine

/-! SUPPORT. R105, R178: what a notice to a till is built from, and the operations that leave it as it was while no
alert destination is set. -/

namespace Sys2Proof.Machine

/- The proofs below run one after another: run together, their waiting threads outgrow the memory a check may use. -/
set_option Elab.async false

variable {s t u : State}

/-! ## The free serial without an alert destination (R173, R176, R178) -/

theorem countOne_freeSerial (o : Occurrence) (s : State) (i : Fin 8) : (countOne o s i).freeSerial = s.freeSerial := by
  unfold countOne
  dsimp only
  split
  · split
    · split <;> rfl
    · rfl
  · rfl

theorem countEvent_freeSerial (o : Occurrence) (s : State) : (countEvent o s).freeSerial = s.freeSerial := by
  unfold countEvent
  generalize List.finRange 8 = l
  induction l generalizing s with
  | nil => rfl
  | cons i l ih => rw [List.foldl_cons, ih, countOne_freeSerial]

theorem offer_freeSerial (hd : s.alerts.destination = none) (o : Occurrence) :
    (offer o s).freeSerial = s.freeSerial := by
  rw [offer_of_no_destination hd, countEvent_freeSerial]

theorem raise_freeSerial (hd : s.alerts.destination = none) (x : AlertSource) :
    (raise x s).freeSerial = s.freeSerial :=
  (congrArg State.freeSerial (alertTest_of_no_destination (s := { s with alerts := s.alerts.raise x }) hd)).trans rfl

theorem comparePair_freeSerial (hd : s.alerts.destination = none) (i : PairId) :
    (comparePair i s).freeSerial = s.freeSerial := by
  obtain ⟨u, hu⟩ : ∃ u : State,
      u = { s with thresholds := s.thresholds.set i ((s.thresholds.get i).compared (s.watched i)) } := ⟨_, rfl⟩
  have hserial : u.freeSerial = s.freeSerial := by rw [hu]
  have hdu : u.alerts.destination = none := by rw [hu]; exact hd
  unfold comparePair
  dsimp only
  rw [← hu]
  split
  · split
    · rw [raise_freeSerial ((raise_destination _ _).trans hdu), raise_freeSerial hdu, hserial]
    · rw [raise_freeSerial hdu, hserial]
  · split
    · rw [raise_freeSerial hdu, hserial]
    · exact hserial

theorem compareChanged_freeSerial (hd : s.alerts.destination = none) (i : PairId) (before : Nat) :
    (compareChanged i before s).freeSerial = s.freeSerial := by
  unfold compareChanged
  split
  · rfl
  · exact comparePair_freeSerial hd i

/-! ## The egress queues through the night engine's sends (R131, R133) -/

theorem presentUplink_egress (hd : s.alerts.destination = none) (q : UplinkQueue) (f : Frame) :
    (presentUplink q f s).egress = s.egress := by
  unfold presentUplink presentUplinkWith
  split
  · exact offer_egress hd _
  · split
    · exact depart_egress (s := s.joinUplink q f) hd
    · exact offer_egress hd _

theorem presentMeter_egress (hd : s.alerts.destination = none) (i : Meter) (q : UplinkQueue) (f : Frame) :
    (presentMeter i q f s).egress = s.egress := by
  have hset (m : ShareMeter) : (s.setMeter i m).egress = s.egress := egress_of_core (setMeter_core hd i m)
  have hdset (m : ShareMeter) : (s.setMeter i m).alerts.destination = none := (setMeter_destination s i m).trans hd
  unfold presentMeter
  dsimp only
  split
  · exact (presentUplink_egress (hdset _) _ _).trans (hset _)
  · exact (offer_egress (hdset _) _).trans (hset _)

/-- R13: a datagram sent by what leaves the egress queues as they are leaves them so. -/
theorem originate_egress (hd : s.alerts.destination = none) (d : Datagram) {present : Frame → State → State}
    (hp : ∀ (f : Frame) (v : State), v.alerts.destination = none → (present f v).egress = v.egress) :
    (originate d present s).egress = s.egress := by
  unfold originate
  split
  · exact offer_egress hd _
  · exact hp _ { s with freeSerial := s.freeSerial + 1 } hd

theorem sendRecords_egress (hd : s.alerts.destination = none) : (sendRecords s).egress = s.egress :=
  (originate_egress ((offer_destination _ s.recordsTaken).trans hd) _ fun _ _ hv => presentMeter_egress hv _ _ _).trans
    (offer_egress (s := s.recordsTaken) hd _)

theorem sendRecords_destination (s : State) : (sendRecords s).alerts.destination = s.alerts.destination := by
  obtain ⟨_, hq⟩ := sendRecords_quiet s
  exact (quiet_destination hq).trans rfl

theorem sendWhile_egress (n : Nat) (hd : s.alerts.destination = none) :
    (sendWhile n s).egress = s.egress ∧ (sendWhile n s).alerts.destination = none := by
  induction n generalizing s with
  | zero => exact ⟨rfl, hd⟩
  | succ n ih =>
    unfold sendWhile
    split
    · obtain ⟨hegress, hnone⟩ := ih ((sendRecords_destination s).trans hd)
      exact ⟨hegress.trans (sendRecords_egress hd), hnone⟩
    · exact ⟨rfl, hd⟩

theorem completionTest_egress (hd : s.alerts.destination = none) : (completionTest s).egress = s.egress := by
  unfold completionTest
  split
  · exact originate_egress hd _ fun _ _ hv => presentUplink_egress hv _ _
  · rfl

/-- R131, R133: what follows at the engine goes by the uplink. -/
theorem nightFollow_egress (hd : s.alerts.destination = none) : (nightFollow s).egress = s.egress := by
  obtain ⟨hegress, hnone⟩ := sendWhile_egress s.night.window hd
  exact (completionTest_egress hnone).trans hegress

/-! ## States that build the same notice (R13, R105) -/

/-- Two states that build the same notice for a till and hold the same egress queues to put it in, unless an alert could
have been sent between them. -/
structure State.TellsAs (s u : State) : Prop where
  running : u.running = s.running
  links : u.links = s.links
  station : u.station = s.station
  tick : u.tick = s.tick
  ports : u.ports = s.ports
  destination : u.alerts.destination = s.alerts.destination
  stations : ∀ a, (u.tillAt a).map (·.station) = (s.tillAt a).map (·.station)
  egress : s.alerts.destination = none → u.egress = s.egress
  freeSerial : s.alerts.destination = none → u.freeSerial = s.freeSerial

theorem State.TellsAs.refl (s : State) : s.TellsAs s :=
  ⟨rfl, rfl, rfl, rfl, rfl, rfl, fun _ => rfl, fun _ => rfl, fun _ => rfl⟩

theorem State.TellsAs.trans (h : s.TellsAs t) (h' : t.TellsAs u) : s.TellsAs u where
  running := h'.running.trans h.running
  links := h'.links.trans h.links
  station := h'.station.trans h.station
  tick := h'.tick.trans h.tick
  ports := h'.ports.trans h.ports
  destination := h'.destination.trans h.destination
  stations a := (h'.stations a).trans (h.stations a)
  egress hd := (h'.egress (h.destination.trans hd)).trans (h.egress hd)
  freeSerial hd := (h'.freeSerial (h.destination.trans hd)).trans (h.freeSerial hd)

theorem State.TellsAs.of_quiet (h : u.quiet = s.quiet) (hegress : s.alerts.destination = none → u.egress = s.egress)
    (hserial : s.alerts.destination = none → u.freeSerial = s.freeSerial) : s.TellsAs u where
  running := running_of_quiet h
  links := Machine.quiet_links h
  station := Machine.quiet_station h
  tick := Machine.quiet_tick h
  ports := Machine.quiet_ports h
  destination := quiet_destination h
  stations a := by rw [State.tillAt, Machine.quiet_tills h]; rfl
  egress := hegress
  freeSerial := hserial

theorem offer_tellsAs (o : Occurrence) (s : State) : s.TellsAs (offer o s) :=
  .of_quiet (quiet_of_still (offer_still o s)) (offer_egress · o) (offer_freeSerial · o)

theorem compareChanged_tellsAs (i : PairId) (before : Nat) (s : State) : s.TellsAs (compareChanged i before s) :=
  .of_quiet (compareChanged_quiet i before s) (fun hd => egress_of_core (compareChanged_core hd i before))
    (compareChanged_freeSerial · i before)

theorem lookedUp_tellsAs (s : State) (p : Passage) : s.TellsAs (s.lookedUp p) :=
  State.TellsAs.trans (t := { s with classifier := s.classifier.hit p.port (lookupCopy s.classifier p.port p.ip) })
    ⟨rfl, rfl, rfl, rfl, rfl, rfl, fun _ => rfl, fun _ => rfl, fun _ => rfl⟩ (offer_tellsAs _ _)

/-- An entry changed in nothing that a search looks at or takes from what it finds is nothing to that search. -/
theorem map_find?_set {α β : Type} (l : List α) (i : Nat) (x : α) {p : α → Bool} {f : α → β}
    (h : ∀ hi : i < l.length, p x = p l[i] ∧ f x = f l[i]) :
    ((l.set i x).find? p).map f = (l.find? p).map f := by
  induction l generalizing i with
  | nil => rfl
  | cons y l ih =>
    cases i with
    | zero =>
      obtain ⟨hp, hf⟩ := h (Nat.succ_pos _)
      have hpy : p x = p y := hp
      have hfy : f x = f y := hf
      simp only [List.set_cons_zero, List.find?_cons, hpy]
      split
      · simp only [Option.map_some, hfy]
      · rfl
    | succ i =>
      simp only [List.set_cons_succ, List.find?_cons]
      split
      · rfl
      · exact ih i fun hi => h (Nat.succ_lt_succ hi)

/-- R4, R104: the last accepted record number of a till is nothing to the resolution of a till's address. -/
theorem withLastAccepted_stations (s : State) (n : Fin 32) (number : Seq) (a : NetAddr) :
    ((s.withLastAccepted n number).tillAt a).map (·.station) = (s.tillAt a).map (·.station) := by
  unfold State.tillAt State.withLastAccepted
  rw [Vector.toList_set]
  exact map_find?_set _ _ _ fun _ => ⟨rfl, rfl⟩

/-- R105: a till at an address is told by a state that builds the notice as the one before it did. -/
theorem State.TellsAs.tillTold (h : s.TellsAs u) (a : NetAddr) (v w : Service) (payload : Bytes) (o : Occurrence) :
    s.tillTold a v w payload (offer o (originate ⟨.notice, .till, a, v, w, payload⟩ (presentEgress .till) u)) := by
  intro e hrun hd hup hroom he
  obtain ⟨e', he', hstation⟩ : ∃ e', u.tillAt a = some e' ∧ e'.station = e.station :=
    Option.map_eq_some_iff.1 ((h.stations a).trans (congrArg _ he))
  have htold := notice_tillTold a v w payload o u e' (h.running.trans hrun) (h.destination.trans hd)
    (by rwa [State.up, h.links]) (by rwa [h.egress hd]) he'
  rw [htold, h.egress hd, h.freeSerial hd, hstation, h.station, h.ports, h.tick]

end Sys2Proof.Machine

/-! SUPPORT. The spool unit: from a frame received on TILL to the record checks, and each of their outcomes (R101 to
R107, R112). -/

namespace Sys2Proof.Machine

/- The proofs below run one after another: run together, their waiting threads outgrow the memory a check may use. -/
set_option Elab.async false

variable {s t u v : State} {p : Passage} {copy : LookupCopy} {n : Fin 32} {number : Seq}

/-! ## To the record checks (R101) -/

/-- R101: a Spool frame of its till that passes the tests goes on to the record checks. -/
theorem spoolFrame_checked (hp : p.port = .till) (hrun : s.running = true) (hn : p.till = some n)
    (hholds : tillStillHolds s p n = true) (hproto : p.ip.protocol = 17) (hfrag : p.ip.unfragmented = true)
    (hpayload : p.ip.payloadOffset.isSome = true) (hsum : udpChecksumAccepted p.bytes p.ip = true) :
    spoolFrame p copy s = checkRecord p copy n s := by
  unfold spoolFrame
  dsimp only
  rw [if_neg (not_not_intro hp), if_neg (by simp [hrun]), hn]
  dsimp only
  rw [if_neg (by simp [hholds]), if_neg (by simp [hproto, hfrag, hpayload]), if_neg (by simp [hsum])]

/-- R5 to R10, R101: a Spool frame of an enabled till reaches the record checks once its hit is counted. -/
theorem exec_frameReceived_spool {bs : Bytes} {ip : Ipv4} (harrives : s.arrives .till bs ip)
    (hcopy : copy = lookupCopy s.classifier .till ip) (haction : copy.action = .spool)
    (hn : s.tillOf (word48 bs 6) ip.source = some n) (hproto : ip.protocol = 17) (hfrag : ip.unfragmented = true)
    (hpayload : ip.payloadOffset.isSome = true) (hsum : udpChecksumAccepted bs ip = true) :
    ∃ v, exec (.frameReceived .till true bs) s = .next (checkRecord ⟨.till, bs, ip, some n⟩ copy n v)
      ∧ v.still = ({ s with classifier := s.classifier.hit .till copy } : State).still ∧ s.TellsAs v := by
  obtain ⟨hup, hrun, hmin, hmax, hto, hbroad, htype, hip, hgate⟩ := harrives
  have hstill := offer_still ⟨.received .till, 1, ⟨false, none, .till, some (word48 bs 6)⟩, none⟩ s
  have htells := offer_tellsAs ⟨.received .till, 1, ⟨false, none, .till, some (word48 bs 6)⟩, none⟩ s
  rw [exec_frameReceived hup hmin hmax (.inl hto), sortFrame_ipv4 (hto ▸ hbroad) htype hip]
  generalize offer ⟨.received .till, 1, ⟨false, none, .till, some (word48 bs 6)⟩, none⟩ s = received at hstill htells
  have hrun' : received.running = true := htells.running.trans hrun
  have hgate' : received.isAnyGateway ip.destination = false := by
    rw [← hgate]
    simp only [State.isAnyGateway, State.isGateway, htells.ports]
  have hn' : received.tillOf (word48 bs 6) ip.source = some n := by
    rw [← hn]
    simp only [State.tillOf, still_tills hstill]
  obtain ⟨hlookup, hlooked⟩ := lookupFrame_of_still (p := ⟨.till, bs, ip, some n⟩) hstill hcopy
  refine ⟨received.lookedUp ⟨.till, bs, ip, some n⟩, ?_, hlooked, htells.trans (lookedUp_tellsAs _ _)⟩
  rw [sourceCheck_till hrun' hn', deliverLocal_of_no_gateway hrun' hgate',
    passOn_lookup (p := ⟨.till, bs, ip, some n⟩) (.inl nofun), hlookup, takeAction_spool haction,
    spoolFrame_checked rfl ((running_of_still hlooked).trans hrun) rfl ?_ hproto hfrag hpayload hsum]
  rw [tillStillHolds_of_tills (still_tills hlooked)]
  exact tillStillHolds_of_tillOf (s := s) hn

/-! ## The record checks (R102, R103) -/

theorem checkRecord_tooLong (h : 1024 < (udpPayload p.bytes p.ip).length) :
    checkRecord p copy n s = answerTill p copy n 2 3 0 0 .tooLong s := if_pos h

theorem checkRecord_malformed (hlong : (udpPayload p.bytes p.ip).length ≤ 1024)
    (h : (udpPayload p.bytes p.ip).length < copy.offset.toNat + 4) :
    checkRecord p copy n s = answerTill p copy n 2 4 0 0 .malformed s :=
  (if_neg (Nat.not_lt.2 hlong)).trans (if_pos h)

theorem checkRecord_good (hlong : (udpPayload p.bytes p.ip).length ≤ 1024)
    (h : copy.offset.toNat + 4 ≤ (udpPayload p.bytes p.ip).length) :
    checkRecord p copy n s = deduplicate p copy n (tagAt (udpPayload p.bytes p.ip) copy.offset) s :=
  (if_neg (Nat.not_lt.2 hlong)).trans (if_neg (Nat.not_lt.2 h))

/-- R103: a record number that is new to a till: none was accepted of it, or a number after the last in serial order. -/
def TillEntry.isNew (e : TillEntry) (number : Seq) : Prop :=
  ∀ last, e.lastAccepted = some last → 1 ≤ (number - last).toNat ∧ (number - last).toNat ≤ 2 ^ 31 - 1

/-- R103: a new record number goes on to the append, after a Gap event at most. -/
theorem deduplicate_new (h : s.tills[n].isNew number) :
    ∃ u, deduplicate p copy n number s = appendNew p copy n number u ∧ u.still = s.still ∧ s.TellsAs u := by
  unfold deduplicate
  split
  next => exact ⟨s, rfl, rfl, .refl s⟩
  next last hlast =>
    obtain ⟨hafter, hnear⟩ := h last hlast
    dsimp only [recordDistance]
    rw [if_neg (by omega)]
    split
    · exact ⟨s, rfl, rfl, .refl s⟩
    · exact ⟨_, rfl, offer_still _ s, offer_tellsAs _ s⟩

theorem deduplicate_duplicate {last : Seq} (hlast : s.tills[n].lastAccepted = some last)
    (h : number = last ∨ 2 ^ 31 ≤ (number - last).toNat) :
    deduplicate p copy n number s = answerTill p copy n 1 2 number 0 .duplicate s := by
  have hold : recordDistance last number = 0 ∨ 2 ^ 31 ≤ recordDistance last number :=
    h.imp_left fun he => by rw [recordDistance, he, BitVec.sub_self, BitVec.toNat_zero]
  unfold deduplicate
  rw [hlast]
  exact if_pos hold

/-! ## The append (R104, R109) -/

/-- R104: a state with a sale record appended, its blocks taken and its number accepted, before the comparison. -/
def State.withRecord (s : State) (n : Fin 32) (number : Seq) (payload : Bytes) : State :=
  ({ s with
      journal := { s.journal with
        records := s.journal.records ++ [newRecord s n number payload]
        nextSeq := s.journal.nextSeq + 1 }
      pool := s.pool.takeJournal (blocksFor payload.length) } : State).withLastAccepted n number

theorem append_eq (n : Fin 32) (number : Seq) (payload : Bytes) (s : State) :
    append n number payload s = compareChanged .journal s.pool.journalHeld (s.withRecord n number payload) := rfl

theorem withRecord_still (h : t.still = s.still) (n : Fin 32) (number : Seq) (payload : Bytes) :
    (t.withRecord n number payload).still = (s.withRecord n number payload).still := by
  have hcommutes (x : State) : (x.withRecord n number payload).still = x.still.withRecord n number payload := rfl
  rw [hcommutes, hcommutes, h]

theorem append_quiet (n : Fin 32) (number : Seq) (payload : Bytes) (s : State) :
    (append n number payload s).quiet = (s.withRecord n number payload).quiet := compareChanged_quiet _ _ _

theorem append_tellsAs (n : Fin 32) (number : Seq) (payload : Bytes) (s : State) :
    s.TellsAs (append n number payload s) :=
  State.TellsAs.trans (t := s.withRecord n number payload)
    ⟨rfl, rfl, rfl, rfl, rfl, rfl, fun a => (withLastAccepted_stations _ n number a).trans rfl, fun _ => rfl,
      fun _ => rfl⟩ (compareChanged_tellsAs _ _ _)

/-- R104: an append leaves each till's address. -/
theorem append_address (n : Fin 32) (number : Seq) (payload : Bytes) (s : State) :
    (append n number payload s).tills[n].address = s.tills[n].address := by
  rw [quiet_tills (append_quiet n number payload s)]
  simp [State.withRecord, State.withLastAccepted]

theorem appendNew_fits (h : s.pool.journalFits (blocksFor (udpPayload p.bytes p.ip).length) = true) :
    appendNew p copy n number s = nightFollow (answerTill p copy n 1 1 number s.journal.nextSeq .accepted
      (append n number (udpPayload p.bytes p.ip) s)) := if_pos h

theorem appendNew_full (h : s.pool.journalFits (blocksFor (udpPayload p.bytes p.ip).length) = false) :
    appendNew p copy n number s = answerTill p copy n 2 5 number 0 .full s := if_neg (by simp [h])

/-! ## The answer (R105) -/

/-- R105: what the till of a frame is told. -/
def State.tellsTill (s : State) (p : Passage) (payload : Bytes) (t : State) : Prop :=
  s.tillTold p.ip.source (p.ip.destinationService.getD 0) (p.ip.sourceService.getD 0) payload t

theorem answerTill_tells (h : s.TellsAs u) (haddress : u.tills[n].address = p.ip.source) (kind code : Nat)
    (sequence : Seq) (event : SpoolEvent) :
    s.tellsTill p (recordNoticeBytes kind code number sequence)
      (answerTill p copy n kind code number sequence event u) := by
  unfold answerTill tillNotice
  rw [haddress]
  exact h.tillTold _ _ _ _ _

theorem nightFollow_tells {payload : Bytes} (hu : u.alerts.destination = s.alerts.destination)
    (h : s.tellsTill p payload u) : s.tellsTill p payload (nightFollow u) :=
  State.tillTold.of_egress h fun hd => nightFollow_egress (hu.trans hd)

/-- R104, R105: a new record that fits is in the journal, and its till told its sequence. -/
theorem appendNew_accepted (h : s.TellsAs u) (haddress : u.tills[n].address = p.ip.source)
    (hfits : u.pool.journalFits (blocksFor (udpPayload p.bytes p.ip).length) = true) :
    s.tellsTill p (recordNoticeBytes 1 1 number u.journal.nextSeq) (appendNew p copy n number u)
      ∧ (appendNew p copy n number u).asleep = (u.withRecord n number (udpPayload p.bytes p.ip)).asleep := by
  have htells := h.trans (append_tellsAs n number (udpPayload p.bytes p.ip) u)
  rw [appendNew_fits hfits]
  constructor
  · refine nightFollow_tells ((still_destination (answerTill_still ..)).trans htells.destination) ?_
    exact answerTill_tells htells ((append_address ..).trans haddress) _ _ _ _
  · rw [nightFollow_asleep, asleep_of_still (answerTill_still ..), asleep_of_quiet (append_quiet ..)]

/-! ## The obligation -/

/-- Settles O24: the record checks decide among the answers, and an append alone changes more than the hit count. -/
theorem saleRecordIsJournaledOnce : Obligations.SaleRecordIsJournaledOnce := by
  unfold Obligations.SaleRecordIsJournaledOnce
  rintro bs ip copy n number _ good told s harrives hcopy haction hn hproto hfrag hpayload hsum hgood hnumber rfl htold
  obtain ⟨v, hexec, hstill, htells⟩ := exec_frameReceived_spool harrives hcopy haction hn hproto hfrag hpayload hsum
  have htills : v.tills = s.tills := (still_tills hstill).trans rfl
  have hpool : v.pool = s.pool := (still_pool hstill).trans rfl
  have haddress : v.tills[n].address = ip.source := by
    rw [htills]
    have hheld := tillStillHolds_of_tillOf (s := s) (p := ⟨.till, bs, ip, some n⟩) hn
    simp only [tillStillHolds, Bool.and_eq_true, beq_iff_eq] at hheld
    exact hheld.2
  -- an answer alone, from a state that is still the one looked up
  have answered (u : State) (hu : u.still = v.still) (hsu : s.TellsAs u) (kind code : Nat) (number sequence : Seq)
      (event : SpoolEvent) :
      told (answerTill ⟨.till, bs, ip, some n⟩ copy n kind code number sequence event u)
          (recordNoticeBytes kind code number sequence)
        ∧ (answerTill ⟨.till, bs, ip, some n⟩ copy n kind code number sequence event u).still
          = ({ s with classifier := s.classifier.hit .till copy } : State).still :=
    ⟨(htold _ _).2 (answerTill_tells (p := ⟨.till, bs, ip, some n⟩) hsu (by rwa [still_tills hu]) _ _ _ _),
      (answerTill_still ..).trans (hu.trans hstill)⟩
  have deduplicated (h : good) : checkRecord ⟨.till, bs, ip, some n⟩ copy n v
      = deduplicate ⟨.till, bs, ip, some n⟩ copy n number v := by
    obtain ⟨hfield, hlong⟩ := hgood.1 h
    rw [hnumber]
    exact checkRecord_good hlong hfield
  -- a new number is appended or refused in a state that is still the one looked up
  have appended (hnew : s.tills[n].isNew number) :
      ∃ u, deduplicate ⟨.till, bs, ip, some n⟩ copy n number v = appendNew ⟨.till, bs, ip, some n⟩ copy n number u
        ∧ u.still = v.still ∧ v.TellsAs u := deduplicate_new (by rwa [htills])
  refine ⟨_, hexec, fun h hnew hfits => ?accepted, fun h hnew hfull => ?full, fun h last hlast hold => ?duplicate,
    fun h => ?refused⟩
  case accepted =>
    obtain ⟨u, hdedup, hu, hvu⟩ := appended hnew
    have husill := hu.trans hstill
    obtain ⟨htells', hasleep⟩ := appendNew_accepted (p := ⟨.till, bs, ip, some n⟩) (copy := copy) (n := n)
      (number := number) (htells.trans hvu) (by rwa [still_tills hu])
      (decide_eq_true (by rw [still_pool hu, hpool]; exact hfits))
    rw [deduplicated h, hdedup]
    refine ⟨(htold _ _).2 ?_, hasleep.trans (asleep_of_still (withRecord_still husill _ _ _))⟩
    rw [still_journal husill] at htells'
    exact htells'
  case full =>
    obtain ⟨u, hdedup, hu, hvu⟩ := appended hnew
    rw [deduplicated h, hdedup, appendNew_full
      (decide_eq_false (by rw [still_pool hu, hpool]; exact Nat.not_le.2 hfull))]
    exact answered u hu (htells.trans hvu) 2 5 _ 0 .full
  case duplicate =>
    rw [deduplicated h, deduplicate_duplicate (by rw [htills]; exact hlast) hold]
    exact answered v rfl htells 1 2 _ 0 .duplicate
  case refused =>
    by_cases hlong : 1024 < (udpPayload bs ip).length
    · rw [checkRecord_tooLong (p := ⟨.till, bs, ip, some n⟩) hlong, if_pos hlong]
      exact answered v rfl htells 2 3 0 0 .tooLong
    · have hshort : (udpPayload bs ip).length < copy.offset.toNat + 4 := by
        rw [hgood] at h
        omega
      rw [checkRecord_malformed (p := ⟨.till, bs, ip, some n⟩) (Nat.not_lt.1 hlong) hshort, if_neg hlong]
      exact answered v rfl htells 2 4 0 0 .malformed

end Sys2Proof.Machine

/-! SUPPORT. The messages of the night engine (R121, R200) and where they wait; calls (R123, R127) and the end of a session
(R134, R135). -/

namespace Sys2Proof.Machine

/- The proofs below run one after another: run together, their waiting threads outgrow the memory a check may use. -/
set_option Elab.async false

variable {s t u : State} {m : NightSource}

/-! ## Where a night message waits (R13, R51, R121, R200) -/

/-- R13, R51: a datagram for UPLINK with the next-hop station present, room in TRANSFER and the transmitter busy. -/
theorem originate_waits {a : Station} (hrun : s.running = true) (hhop : s.ports.nextHop = some a)
    (hbusy : s.uplink.transmitting ≠ none) (hlimit : s.uplink.queues.transfer.length < s.uplink.limits.transfer)
    (htotal : queuedTotal s.uplink.queues < 256) (d : Datagram) (hd : d.segment = .uplink) :
    originate d (presentUplink .transfer) s
      = ({ s with freeSerial := s.freeSerial + 1 } : State).joinUplink .transfer (s.datagramFrame d a) := by
  have hresolved : resolve s none d.segment d.destination = .ok a := by
    rw [hd]
    exact congrArg stationOr hhop
  unfold originate
  rw [hresolved]
  exact presentUplink_busy (s := { s with freeSerial := s.freeSerial + 1 }) .transfer _ (.inl hrun) hlimit htotal hbusy

/-- R121: a night message sent in a state waits there. -/
theorem sendNight_waits (s : State) (code : Nat) (fields : Bytes) :
    s.nightWaits .night (BitVec.ofNat 8 code) fields (sendNight code fields s).uplink := by
  intro a hrun hhop hbusy hlimit htotal
  unfold sendNight
  rw [originate_waits hrun hhop hbusy hlimit htotal _ rfl]
  rfl

/-- R121, R123: the OPEN sent in a state waits there. -/
theorem sendOpen_waits (s : State) : s.nightWaits .opening 1 (be32 s.journal.oldest ++ be32 (s.journal.nextSeq - 1)
    ++ be32 (BitVec.ofNat 32 (s.pool.free - (s.pool.journalReserve - s.pool.journalHeld)))) (sendOpen s).uplink := by
  intro a hrun hhop hbusy hlimit htotal
  unfold sendOpen
  rw [originate_waits hrun hhop hbusy hlimit htotal _ rfl]
  rfl

/-- R13, R121: two states that build the same night message and hold the same uplink for it to join. -/
structure State.WritesAs (s u : State) : Prop where
  running : u.running = s.running
  station : u.station = s.station
  tick : u.tick = s.tick
  ports : u.ports = s.ports
  settings : u.night.settings = s.night.settings
  uplink : u.uplink = s.uplink
  freeSerial : u.freeSerial = s.freeSerial

theorem State.WritesAs.waits (h : s.WritesAs u) {kind : FrameKind} {code : Byte} {fields : Bytes} {v : Uplink}
    (hu : u.nightWaits kind code fields v) : s.nightWaits kind code fields v := by
  unfold State.nightWaits at *
  simpa only [h.running, h.station, h.tick, h.ports, h.settings, h.uplink, h.freeSerial] using hu

/-- R178: without an alert destination what leaves a state quiet and its uplink and free serial builds as it did. -/
theorem State.WritesAs.of_quiet (h : u.quiet = s.quiet) (huplink : u.uplink = s.uplink)
    (hserial : u.freeSerial = s.freeSerial) : s.WritesAs u where
  running := running_of_quiet h
  station := Machine.quiet_station h
  tick := Machine.quiet_tick h
  ports := Machine.quiet_ports h
  settings := congrArg Night.settings (Machine.quiet_night h)
  uplink := huplink
  freeSerial := hserial

theorem takeRequest_writesAs (i : Instr) (s : State) : s.WritesAs (takeRequest i s) := by
  obtain ⟨_, h⟩ := takeRequest_eq i s
  rw [h]
  exact ⟨rfl, rfl, rfl, rfl, rfl, rfl, rfl⟩

/-! ## Messages of the collector (R120) -/

/-- R120: a message that passes the tests is taken. -/
theorem collector_message (hup : s.up .uplink = true) (hrun : s.running = true) (hfrom : s.fromCollector m = true)
    {inRange : Bool} (hrange : inRange = true) (take : State → State) :
    overUplink m.station (ifTaken m inRange take) s = take s := by
  simp [overUplink, ifTaken, hup, hrun, hfrom, hrange]

/-- R120: a message that fails a test is Night-Foreign. -/
theorem foreign_message (hup : s.up .uplink = true) (hrun : s.running = true) {inRange : Bool}
    (h : s.fromCollector m = false ∨ inRange = false) (take : State → State) :
    overUplink m.station (ifTaken m inRange take) s = nightForeign m.station s := by
  rcases h with h | h <;> simp [overUplink, ifTaken, hup, hrun, h]

/-- R120, tests 1 and 2. -/
theorem fromCollector_iff (s : State) (m : NightSource) : s.fromCollector m = true ↔ s.night.settings.collector ≠ 0
    ∧ m.address = s.night.settings.collector ∧ m.service = s.night.settings.service
    ∧ m.branch = s.night.settings.branch ∧ m.epoch = s.night.settings.epoch := by
  simp only [State.fromCollector, Bool.and_eq_true, bne_iff_ne, beq_iff_eq, and_assoc, ne_eq]

/-! ## Calls (R123, R127) -/

/-- R123: the engine in CALLING with attempts at a count and the call timer started. -/
def State.called (s : State) (attempts : Nat) : Night :=
  { s.night.enter .calling with attempts := attempts, callTimer := s.timer s.night.settings.callTimeout }

theorem placeCall_still (n : Nat) (s : State) : (placeCall n s).still = ({ s with night := s.called n } : State).still := by
  obtain ⟨v, hv⟩ : ∃ v : State, v = { s with night := { s.night with attempts := n, backoffTimer := none } } := ⟨_, rfl⟩
  have hsent := sendOpen_still v
  have hnight : { (sendOpen v).night.enter .calling with
      callTimer := (sendOpen v).timer (sendOpen v).night.settings.callTimeout } = s.called n := by
    rw [State.timer, still_tick hsent, still_night hsent, hv]
    rfl
  have hcall : placeCall n s = { sendOpen v with night := s.called n } := by
    rw [← hnight, hv]
    rfl
  rw [hcall]
  refine (congrArg (fun x : State => { x with night := s.called n }) hsent).trans ?_
  rw [hv]
  rfl

theorem placeCall_waits (n : Nat) (s : State) : s.nightWaits .opening 1 (be32 s.journal.oldest
    ++ be32 (s.journal.nextSeq - 1)
    ++ be32 (BitVec.ofNat 32 (s.pool.free - (s.pool.journalReserve - s.pool.journalHeld)))) (placeCall n s).uplink := by
  have hwrites : s.WritesAs { s with night := { s.night with attempts := n, backoffTimer := none } } :=
    ⟨rfl, rfl, rfl, rfl, rfl, rfl, rfl⟩
  exact hwrites.waits (sendOpen_waits _)

/-- R123: the attempts of a call of any cause but the end of a backoff. -/
def Night.attemptsAtCall (n : Night) : Nat := if n.state = .backoff then n.attempts else 1

/-- R123: when a call leads to CALLING. -/
theorem callTaken_iff (s : State) : s.callTaken = true ↔ s.running = true ∧ s.night.settings.collector ≠ 0
    ∧ (s.night.state = .idle ∨ s.night.state = .failed ∨ s.night.state = .backoff) := by
  simp only [State.callTaken, State.callHeard, Bool.and_eq_true, Bool.or_eq_true, beq_iff_eq, bne_iff_ne, ne_eq,
    and_assoc, or_assoc]

theorem nightCall_taken (h : s.callTaken = true) : nightCall s = placeCall s.night.attemptsAtCall s := if_pos h

theorem nightCall_ignored (h : s.callTaken = false) : nightCall s = s := if_neg (by rw [h]; exact Bool.false_ne_true)

/-- R122, R123: the states in which a call is not taken. -/
theorem callTaken_eq_false (h : s.running = false ∨ s.night.settings.collector = 0 ∨ s.night.state = .calling
    ∨ s.night.state = .draining ∨ s.night.state = .settling) : s.callTaken = false := by
  rw [Bool.eq_false_iff, ne_eq, callTaken_iff]
  rintro ⟨hrun, hcollector, hstate⟩
  rcases h with h | h | h | h | h
  · rw [hrun] at h; cases h
  · exact hcollector h
  all_goals simp [h] at hstate

theorem takeRequest_callTaken (i : Instr) (s : State) : (takeRequest i s).callTaken = s.callTaken := by
  obtain ⟨_, h⟩ := takeRequest_eq i s
  rw [h]
  rfl

theorem takeRequest_called (i : Instr) (s : State) (n : Nat) : (takeRequest i s).called n = s.called n := by
  simp only [State.called, State.timer, takeRequest_night, takeRequest_tick]

/-- Settles O33: each call is a `placeCall`, and where none is placed the engine is left alone. -/
theorem callBeginsASession : Obligations.CallBeginsASession := by
  intro calling opened s hcalling hopened
  have hcalled (n : Nat) : calling n = s.called n := (hcalling n).trans rfl
  refine ⟨fun q hlock => ⟨fun hrun hcollector hstate => ?call, fun h => ?refused⟩,
    fun m hup hrun hfrom => ⟨fun hstate => ?wake, fun h => ?ignored⟩, fun hstate hdue => ?backoff⟩
  case call =>
    have htaken : (takeRequest (.call q) s).callTaken = true :=
      (takeRequest_callTaken _ s).trans ((callTaken_iff s).2 ⟨hrun, hcollector, hstate⟩)
    refine ⟨nightCall (takeRequest (.call q) s), lockedCommand_answers hlock (if_pos htaken), ?_, ?_⟩
    · rw [nightCall_taken htaken, placeCall_still, takeRequest_called, takeRequest_night, hcalled]
      rfl
    · rw [hopened, nightCall_taken htaken]
      refine (takeRequest_writesAs (.call q) s).waits ?_
      have hwaits := placeCall_waits (takeRequest (.call q) s).night.attemptsAtCall (takeRequest (.call q) s)
      rwa [takeRequest_pool, takeRequest_journal] at hwaits
  case refused =>
    have hrefused : (takeRequest (.call q) s).callTaken = false :=
      (takeRequest_callTaken _ s).trans (callTaken_eq_false h)
    exact lockedCommand_answers hlock (if_neg (by rw [hrefused]; exact Bool.false_ne_true))
  case wake =>
    obtain ⟨hcollector, -⟩ := (fromCollector_iff s m).1 hfrom
    have hexec : exec (.wake m) s = .next (placeCall s.night.attemptsAtCall s) := by
      rw [← nightCall_taken ((callTaken_iff s).2 ⟨hrun, hcollector, hstate⟩)]
      exact congrArg Host.Outcome.next (collector_message hup hrun hfrom rfl nightCall)
    refine ⟨_, hexec, ?_, (hopened _).2 (placeCall_waits _ s)⟩
    rw [placeCall_still, hcalled]
    rfl
  case ignored =>
    exact congrArg Host.Outcome.next ((collector_message hup hrun hfrom rfl nightCall).trans
      (nightCall_ignored (callTaken_eq_false (.inr (.inr h)))))
  case backoff =>
    refine ⟨placeCall (min 255 (s.night.attempts + 1)) s, congrArg Host.Outcome.next (if_pos ⟨hstate, hdue⟩), ?_,
      (hopened _).2 (placeCall_waits _ s)⟩
    rw [placeCall_still, hcalled]

/-! ## The end of a session (R134, R135) -/

/-- R134, R135: the state with the engine IDLE and next-to-send back at oldest. -/
def State.sessionEnded (s : State) : State :=
  { s with night := s.night.enter .idle, journal := { s.journal with nextToSend := s.journal.oldest } }

theorem closeSession_still (s : State) : (closeSession s).still = s.sessionEnded.still := by
  have hsent := sendClosed_still s
  unfold closeSession
  dsimp only
  rw [still_night hsent, still_journal hsent]
  exact congrArg (fun x : State => { x with
    night := s.night.enter .idle, journal := { s.journal with nextToSend := s.journal.oldest } }) hsent

theorem closeSession_waits (s : State) : s.nightWaits .night 5 [] (closeSession s).uplink := sendNight_waits s 5 []

/-- Settles O36: each end of a session is a `closeSession`. -/
theorem sessionEndsInIdle : Obligations.SessionEndsInIdle := by
  rintro _ _ s rfl rfl
  refine ⟨fun m hup hrun hfrom => ⟨fun hstate => ⟨closeSession s, ?finish, closeSession_still s, closeSession_waits s⟩,
      fun hdraining hsettling => ?ignored⟩,
    fun hstate hdue => ⟨closeSession s, congrArg Host.Outcome.next (if_pos ⟨hstate, hdue⟩), closeSession_still s,
      closeSession_waits s⟩,
    fun q hlock => ⟨fun hstate => ⟨closeSession (takeRequest (.stop q) s), ?stop, ?still, ?waits⟩, fun hidle => ?refused⟩⟩
  case finish =>
    exact congrArg Host.Outcome.next ((collector_message hup hrun hfrom rfl finishSession).trans (if_pos hstate))
  case ignored =>
    exact congrArg Host.Outcome.next ((collector_message hup hrun hfrom rfl finishSession).trans
      (if_neg fun h => h.elim hdraining hsettling))
  case stop => exact lockedCommand_answers hlock (if_neg (by rwa [takeRequest_night]))
  case still =>
    rw [closeSession_still, State.sessionEnded, takeRequest_night, takeRequest_journal]
    rfl
  case waits => exact (takeRequest_writesAs (.stop q) s).waits (closeSession_waits _)
  case refused => exact lockedCommand_answers hlock (if_pos (by rwa [takeRequest_night]))

/-! ## Messages that fail a test (R120, R138) -/

theorem grantInRange_eq_false {window : Byte} {second : BitVec 32} (h : window = 0 ∨ 86399 < second.toNat) :
    grantInRange window second = false := by
  rcases h with h | h
  · simp [grantInRange, h]
  · simp [grantInRange]; omega

/-- R120, test 4: what keeps a label update in range. -/
theorem labelInRange_iff (w : LabelWire) :
    labelInRange w = true ↔ w.number ≠ 0 ∧ w.page.toNat ≤ 7 ∧ w.text.length ≤ 24 := by
  simp only [labelInRange, Bool.and_eq_true, bne_iff_ne, decide_eq_true_eq, and_assoc, ne_eq]

/-- R120, test 4: the updates of a LABELS message are in range. -/
theorem labelsInRange_iff (ws : List LabelWire) : (!ws.isEmpty && ws.all labelInRange) = true ↔
    ws ≠ [] ∧ ∀ w ∈ ws, w.number ≠ 0 ∧ w.page.toNat ≤ 7 ∧ w.text.length ≤ 24 := by
  simp only [Bool.and_eq_true, Bool.not_eq_true', List.isEmpty_eq_false_iff, List.all_eq_true, labelInRange_iff]

/-- R138: outside DRAINING and SETTLING a LABELS message is Night-Foreign. -/
theorem takeLabels_foreign (h : ¬ (s.night.state = .draining ∨ s.night.state = .settling)) (a : Station)
    (batch : BitVec 32) (ws : List LabelWire) : takeLabels a batch ws s = nightForeign a s := if_neg h

/-- Settles O39: each of the five kinds comes to `nightForeign` by a test of R120, and LABELS by R138 too. -/
theorem foreignNightMessagesAreIgnored : Obligations.ForeignNightMessagesAreIgnored := by
  intro m window day second sequence batch updates c s hc hup hrun hfails
  suffices exec c s = .next (nightForeign m.station s) from ⟨this, offer_still _ s⟩
  have hforeign {inRange : Bool} (h : s.fromCollector m = false ∨ inRange = false) (take : State → State) :
      (.next (overUplink m.station (ifTaken m inRange take) s) : Host.Outcome State Fault Refusal)
        = .next (nightForeign m.station s) := congrArg Host.Outcome.next (foreign_message hup hrun h take)
  by_cases hfrom : s.fromCollector m = true
  case neg =>
    rw [Bool.not_eq_true] at hfrom
    simp only [List.mem_cons, List.not_mem_nil, or_false] at hc
    rcases hc with rfl | rfl | rfl | rfl | rfl
    all_goals exact hforeign (.inl hfrom) _
  case pos =>
    obtain ⟨hcollector, haddress, hservice, hbranch, hepoch⟩ := (fromCollector_iff s m).1 hfrom
    rcases hfails with h | h | h | h | h | ⟨rfl, h⟩ | ⟨rfl, h⟩
    · exact absurd h hcollector
    · exact absurd haddress h
    · exact absurd hservice h
    · exact absurd hbranch h
    · exact absurd hepoch h
    · exact hforeign (.inr (grantInRange_eq_false h)) _
    · by_cases hrange : (!updates.isEmpty && updates.all labelInRange) = true
      · obtain ⟨hne, hall⟩ := (labelsInRange_iff updates).1 hrange
        have hstate : ¬ (s.night.state = .draining ∨ s.night.state = .settling) := by
          rcases h with h | ⟨w, hw, h⟩ | ⟨hdraining, hsettling⟩
          · exact absurd h hne
          · obtain ⟨hnumber, hpage, htext⟩ := hall w hw
            rcases h with h | h | h
            · exact absurd h hnumber
            · omega
            · omega
          · exact fun h => h.elim hdraining hsettling
        exact congrArg Host.Outcome.next ((collector_message hup hrun hfrom hrange _).trans
          (takeLabels_foreign hstate _ _ _))
      · exact hforeign (.inr (Bool.not_eq_true _ ▸ hrange)) _

end Sys2Proof.Machine

/-! SUPPORT. The send events and the completion test from a state in DRAINING (R131, R133), and the expiry of the call timer
and of the ack timer (R124, R132, R139). -/

namespace Sys2Proof.Machine

/- The proofs below run one after another: run together, their waiting threads outgrow the memory a check may use. -/
set_option Elab.async false

variable {s t u : State}

/-! ## What the send events leave (R131, R133) -/

theorem asleep_oldest (h : t.asleep = s.asleep) : t.journal.oldest = s.journal.oldest :=
  show t.asleep.journal.oldest = s.asleep.journal.oldest by rw [h]

theorem asleep_nextSeq (h : t.asleep = s.asleep) : t.journal.nextSeq = s.journal.nextSeq :=
  show t.asleep.journal.nextSeq = s.asleep.journal.nextSeq by rw [h]

theorem asleep_window (h : t.asleep = s.asleep) : t.night.window = s.night.window :=
  show t.asleep.night.window = s.asleep.night.window by rw [h]

/-- R131: in DRAINING, within a window of one octet, with no more outstanding than the window. -/
structure State.WithinWindow (s : State) : Prop where
  draining : s.night.state = .draining
  window : s.night.window ≤ 255
  outstanding : s.journal.outstanding ≤ s.night.window

/-- R131: a send event is taken with fewer outstanding than the window. -/
theorem outstanding_lt_of_canSend (h : s.canSend = true) : s.journal.outstanding < s.night.window := by
  simp only [State.canSend, Bool.and_eq_true, decide_eq_true_eq] at h
  tauto

theorem State.WithinWindow.sendRecords (h : s.WithinWindow) (hsend : s.canSend = true) :
    (sendRecords s).WithinWindow := by
  obtain ⟨_, hq⟩ := sendRecords_quiet s
  have hnight : (Machine.sendRecords s).night = s.recordsTaken.night := (Machine.quiet_night hq).trans rfl
  have hjournal : (Machine.sendRecords s).journal = s.recordsTaken.journal := (Machine.quiet_journal hq).trans rfl
  have hroom := outstanding_lt_of_canSend hsend
  have hcarried := length_nextRecords_le s
  constructor
  · rw [hnight]; exact h.draining
  · rw [hnight]; exact h.window
  · rw [hnight, hjournal, recordsTaken_outstanding h.window hroom]
    show s.journal.outstanding + s.nextRecords.length ≤ s.night.window
    omega

theorem State.WithinWindow.sendWhile (n : Nat) (h : s.WithinWindow) : (sendWhile n s).WithinWindow := by
  induction n generalizing s with
  | zero => exact h
  | succ n ih =>
    unfold Machine.sendWhile
    split
    next hsend => exact ih (h.sendRecords hsend)
    next => exact h

theorem sendWhile_of_not_canSend (n : Nat) (h : s.canSend = false) : sendWhile n s = s := by
  cases n <;> simp [sendWhile, h]

/-- R133: with records in the journal, next-to-send at the next sequence leaves records outstanding. -/
theorem completionTest_of_records (h : s.journal.nextSeq ≠ s.journal.oldest) : completionTest s = s := by
  refine if_neg fun ⟨_, hout, hnext⟩ => h ?_
  unfold Journal.outstanding at hout
  bv_omega

/-- R131, R133: with records in the journal what follows at the engine stays in DRAINING and within the window. -/
theorem State.WithinWindow.nightFollow (h : s.WithinWindow) (hne : s.journal.nextSeq ≠ s.journal.oldest) :
    (nightFollow s).WithinWindow := by
  have hsent := sendWhile_asleep s.night.window s
  unfold Machine.nightFollow
  rw [completionTest_of_records (by rwa [asleep_nextSeq hsent, asleep_oldest hsent])]
  exact h.sendWhile _

/-- R131, R133: with records in the journal and no send event taken nothing follows. -/
theorem nightFollow_of_not_canSend (h : s.canSend = false) (hne : s.journal.nextSeq ≠ s.journal.oldest) :
    nightFollow s = s := by
  unfold nightFollow
  rw [sendWhile_of_not_canSend _ h, completionTest_of_records hne]

/-- R131: what holds send events back. -/
theorem canSend_eq_false (h : s.journal.nextToSend = s.journal.nextSeq
    ∨ s.uplink.limits.transfer ≤ s.uplink.queues.transfer.length ∨ s.meters.transfer.hold ≠ []) : s.canSend = false := by
  rw [Bool.eq_false_iff]
  intro hsend
  simp only [State.canSend, Bool.and_eq_true, bne_iff_ne, hasRoom_iff, List.isEmpty_iff] at hsend
  obtain ⟨⟨⟨⟨-, hnext⟩, hroom, -⟩, hhold⟩, -⟩ := hsend
  rcases h with h | h | h
  · exact hnext h
  · exact absurd hroom (Nat.not_lt.2 h)
  · exact h hhold

/-- R133: in DRAINING with an empty journal what follows at the engine is the completion test, which sends DRAINED. -/
theorem nightFollow_settles (hstate : s.night.state = .draining) (hnext : s.journal.nextToSend = s.journal.oldest)
    (hempty : s.journal.nextSeq = s.journal.oldest) : (nightFollow s).night.state = .settling
      ∧ (nightFollow s).journal = s.journal
      ∧ (nightFollow s).night.settleTimer = some ⟨s.tick, 1000 * s.night.settings.settleTimeout⟩
      ∧ s.nightWaits .night 3 (be32 (s.journal.oldest - 1)) (nightFollow s).uplink := by
  have hsent := sendDrained_still s
  have hout : s.journal.outstanding = 0 := by rw [Journal.outstanding, hnext, BitVec.sub_self]; rfl
  unfold nightFollow
  rw [sendWhile_of_not_canSend _ (canSend_eq_false (.inl (hnext.trans hempty.symm))), completionTest,
    if_pos ⟨hstate, hout, hnext.trans hempty.symm⟩]
  dsimp only
  refine ⟨rfl, still_journal hsent, ?_, ?_⟩
  · rw [State.timer, still_tick hsent, still_night hsent]
  · rw [← hnext]
    exact sendNight_waits s 3 _

/-! ## A source that stays pending (R173, R176) -/

section
variable {P : AlertUnit → Prop} {offer : Occurrence → State → State}
  (ho : ∀ o s, P s.alerts → P (offer o s).alerts)
include ho

/-- The queues leave of the alert unit what their events leave. -/
theorem departWith_alerts (h : P s.alerts) : P (departWith offer s).alerts := by
  unfold departWith
  split
  · split
    · exact h
    · split
      · exact h
      · next q _ _ f rest _ =>
        have htaken : P (offer (occur (.departure q) f.origin) (s.takeOff q f rest)).alerts := ho _ (s.takeOff q f rest) h
        dsimp only
        split
        · exact ho _ _ htaken
        · exact htaken
  · exact h

theorem presentOnWith_alerts (port : Segment) (f : Frame) (h : P s.alerts) : P (presentOnWith offer port f s).alerts := by
  have hegress (p : EgressPort) : P (presentEgressWith offer p f s).alerts := by
    unfold presentEgressWith
    split
    · exact ho _ _ h
    · split
      · exact ho _ _ h
      · split
        · exact h
        · exact ho _ _ h
  have huplink : P (presentUplinkWith offer .urgent f s).alerts := by
    unfold presentUplinkWith
    split
    · exact ho _ _ h
    · split
      · exact departWith_alerts ho h
      · exact ho _ _ h
  cases port
  case uplink => exact huplink
  all_goals exact hegress _

end

/-- R173: an event takes no source out of the pending set. -/
theorem countEvent_pending (x : Fin 14) (o : Occurrence) (s : State) (h : s.alerts.pending[x] ≠ none) :
    (countEvent o s).alerts.pending[x] ≠ none := by
  rw [(countEvent_counted o s).pending x]
  split
  · exact Option.some_ne_none _
  · exact h

/-- R178: a send event leaves every pending source pending. -/
theorem alertTest_pending {x : Fin 14} (h : s.alerts.pending[x] ≠ none) : (alertTest s).alerts.pending[x] ≠ none := by
  have hsent : (s.alerts.sent s.tick).pending[x] ≠ none := by
    have hmap : (s.alerts.sent s.tick).pending[x] = s.alerts.pending[x].map fun _ => AlertMark.reported :=
      Vector.getElem_map _ x.isLt
    rw [hmap, ne_eq, Option.map_eq_none_iff]
    exact h
  unfold alertTest
  split
  · exact h
  · split
    · exact presentOnWith_alerts (P := fun a => a.pending[x] ≠ none) (fun o s => countEvent_pending x o s) _ _ hsent
    · exact h

/-- R176: a source that is raised is pending. -/
theorem raise_is_pending (y : AlertSource) (s : State) : (raise y s).alerts.pending[alertIndex y] ≠ none := by
  refine alertTest_pending (s := { s with alerts := s.alerts.raise y }) ?_
  rw [raise_pending, if_pos rfl]
  exact Option.some_ne_none _

/-! ## Retries (R124, R132, R139) -/

/-- R139: a retry changes the retry total and its rollover flag. -/
theorem retried_eq (n : Night) : n.retried = { n with
    retryTotal := if n.retryTotal = 65535 then 0 else n.retryTotal + 1
    rollover := n.rollover || decide (n.retryTotal = 65535) } := by
  unfold Night.retried
  split
  · next h => simp [h]
  · next h => simp [h]

@[simp] theorem retried_settings (n : Night) : n.retried.settings = n.settings := by rw [retried_eq]
@[simp] theorem retried_attempts (n : Night) : n.retried.attempts = n.attempts := by rw [retried_eq]
@[simp] theorem retried_shortRetries (n : Night) : n.retried.shortRetries = n.shortRetries := by rw [retried_eq]

/-- R124, R132: a failed call or session in a state with the retry counted. -/
theorem failSession_backsOff (h : s.night.attempts < s.night.settings.longLimit + 1) :
    failSession s = { s with night := s.night.backedOff s.tick } := if_pos h

theorem failSession_fails (h : s.night.settings.longLimit + 1 ≤ s.night.attempts) :
    failSession s = raise .nightFailed { s with night := s.night.enter .failed } := if_neg (Nat.not_lt.2 h)

/-- R132: the state at the expiry of the ack timer below the short retry limit, before what follows at the engine. -/
def State.retrying (s : State) : State :=
  { s with
    night := { s.night.retried with shortRetries := s.night.retried.shortRetries + 1, ackTimer := none }
    journal := { s.journal with nextToSend := s.journal.oldest } }

theorem ackExpires_retries (h : s.night.shortRetries < s.night.settings.shortLimit) :
    ackExpires s = nightFollow s.retrying := if_pos (by simpa using h)

theorem ackExpires_fails (h : s.night.settings.shortLimit ≤ s.night.shortRetries) :
    ackExpires s = failSession { s with night := s.night.retried } := if_neg (by simpa using h)

/-- R124, R132: both timers end in a failed call or session with the retry counted. -/
theorem exec_timeout {c : Instr}
    (h : (c = .callTimerExpiry ∧ s.night.state = .calling ∧ timerDue s.tick s.night.callTimer = true)
      ∨ (c = .ackTimerExpiry ∧ s.night.state = .draining ∧ timerDue s.tick s.night.ackTimer = true
        ∧ s.night.settings.shortLimit ≤ s.night.shortRetries)) :
    exec c s = .next (failSession { s with night := s.night.retried }) := by
  rcases h with ⟨rfl, hstate, hdue⟩ | ⟨rfl, hstate, hdue, hlimit⟩
  · exact congrArg Host.Outcome.next (if_pos ⟨hstate, hdue⟩)
  · rw [← ackExpires_fails hlimit]
    exact congrArg Host.Outcome.next (if_pos ⟨hstate, hdue⟩)

/-- Settles O37: a failed session backs off or fails, and below the short retry limit the engine goes on from oldest. -/
theorem timeoutsBackOffOrFail : Obligations.TimeoutsBackOffOrFail := by
  rintro _ s rfl
  refine ⟨fun c hc => ⟨fun hattempts => ?backs, fun hattempts => ?fails⟩, fun hstate hdue hlimit =>
    ⟨nightFollow s.retrying, ?exec, ?asleep, fun hempty => ?settles, fun hne hwindow => ?within, fun hne hheld => ?stands⟩⟩
  case backs =>
    have hbacks := failSession_backsOff (s := { s with night := s.night.retried }) (by simpa using hattempts)
    rw [exec_timeout hc, hbacks, Night.backedOff, retried_eq]
    exact ⟨_, _, rfl⟩
  case fails =>
    refine ⟨_, (exec_timeout hc).trans (congrArg Host.Outcome.next
      (failSession_fails (s := { s with night := s.night.retried }) ?_)), ?_, raise_is_pending _ _⟩
    · simpa using hattempts
    · rw [raise_still, retried_eq]
      rfl
  case exec =>
    rw [← ackExpires_retries hlimit]
    exact congrArg Host.Outcome.next (if_pos ⟨hstate, hdue⟩)
  case asleep =>
    rw [nightFollow_asleep, State.retrying, retried_eq]
    rfl
  all_goals
    have hdraining : s.retrying.night.state = .draining := by rw [State.retrying, retried_eq]; exact hstate
  case settles =>
    obtain ⟨hsettling, hjournal, -⟩ := nightFollow_settles hdraining rfl hempty
    rw [hjournal]
    exact ⟨hsettling, rfl⟩
  case within =>
    have hw : s.retrying.night.window = s.night.window := by rw [State.retrying, retried_eq]
    have hnone : s.retrying.journal.outstanding = 0 := by
      show (s.journal.oldest - s.journal.oldest).toNat = 0
      rw [BitVec.sub_self]
      rfl
    have hbegin : s.retrying.WithinWindow := ⟨hdraining, hw ▸ hwindow, hnone ▸ Nat.zero_le _⟩
    have hafter := hbegin.nightFollow hne
    have hsame := nightFollow_asleep s.retrying
    have hout := hafter.outstanding
    rw [Journal.outstanding, asleep_oldest hsame, asleep_window hsame, hw] at hout
    exact ⟨hafter.draining, hout⟩
  case stands =>
    rw [nightFollow_of_not_canSend (s := s.retrying) (canSend_eq_false (.inr hheld)) hne, State.retrying, retried_eq]

end Sys2Proof.Machine

/-! SUPPORT. What a LABELS message makes of the label queue and the pool, and its LABEL-ACK (R137, R144, R200). -/

namespace Sys2Proof.Machine

/- The proofs below run one after another: run together, their waiting threads outgrow the memory a check may use. -/
set_option Elab.async false

variable {s t u : State} {m : NightSource}

/-! ## What a night message is built from, without an alert destination (R178) -/

theorem State.WritesAs.trans (h : s.WritesAs t) (h' : t.WritesAs u) : s.WritesAs u where
  running := h'.running.trans h.running
  station := h'.station.trans h.station
  tick := h'.tick.trans h.tick
  ports := h'.ports.trans h.ports
  settings := h'.settings.trans h.settings
  uplink := h'.uplink.trans h.uplink
  freeSerial := h'.freeSerial.trans h.freeSerial

theorem offer_writesAs (hd : s.alerts.destination = none) (o : Occurrence) : s.WritesAs (offer o s) :=
  .of_quiet (quiet_of_still (offer_still o s)) (offer_uplink hd o) (offer_freeSerial hd o)

theorem compareChanged_writesAs (hd : s.alerts.destination = none) (i : PairId) (before : Nat) :
    s.WritesAs (compareChanged i before s) :=
  .of_quiet (compareChanged_quiet i before s) (uplink_of_core (compareChanged_core hd i before))
    (compareChanged_freeSerial hd i before)

/-! ## The updates of a LABELS message (R137, R144) -/

/-- R144: the state with updates for new label numbers at the tail of the label queue, a block each. -/
def State.withUpdates (s : State) (ws : List LabelWire) : State :=
  { s with
    label := { s.label with queue := s.label.queue ++ ws.map (newUpdate · s.tick) }
    pool := { s.pool with free := s.pool.free - ws.length, labelHeld := s.pool.labelHeld + ws.length } }

theorem withUpdates_cons (w : LabelWire) (ws : List LabelWire) (s : State) :
    s.withUpdates (w :: ws) = (s.withUpdates [w]).withUpdates ws := by
  have hfree : s.pool.free - (ws.length + 1) = s.pool.free - 1 - ws.length := by omega
  have hheld : s.pool.labelHeld + (ws.length + 1) = s.pool.labelHeld + 1 + ws.length := by omega
  simp only [State.withUpdates, List.map_cons, List.map_nil, List.append_assoc, List.singleton_append, List.length_cons,
    List.length_nil, Nat.zero_add, hfree, hheld]

theorem labelFits_iff (p : Pool) : p.labelFits = true ↔ 1 + (p.journalReserve - p.journalHeld) ≤ p.free :=
  decide_eq_true_iff

theorem holdsLabel_append_single (l : List LabelUpdate) (w : LabelWire) (now : Tick) (number : BitVec 24) :
    holdsLabel (l ++ [newUpdate w now]) number = (holdsLabel l number || w.number == number) := by
  simp [holdsLabel, newUpdate]

/-- R137, R144: updates for distinct label numbers, none of them queued, for which blocks are free, are all taken. -/
theorem takeUpdates_new (a : Station) (ws : List LabelWire) (hdistinct : (ws.map fun w => w.number).Nodup)
    (hnew : ∀ w ∈ ws, holdsLabel s.label.queue w.number = false)
    (hfree : ws.length + (s.pool.journalReserve - s.pool.journalHeld) ≤ s.pool.free) :
    takeUpdates a ws s = (s.withUpdates ws, ws.length) := by
  induction ws generalizing s with
  | nil => simp [takeUpdates, State.withUpdates]
  | cons w ws ih =>
    rw [List.map_cons, List.nodup_cons] at hdistinct
    obtain ⟨hfirst, hrest⟩ := hdistinct
    rw [List.length_cons] at hfree
    have hfits : s.pool.labelFits = true := (labelFits_iff _).2 (by omega)
    have hnewRest : ∀ x ∈ ws, holdsLabel (s.withUpdates [w]).label.queue x.number = false := fun x hx => by
      have hne : (w.number == x.number) = false :=
        beq_eq_false_iff_ne.2 fun e => hfirst (e ▸ List.mem_map_of_mem hx)
      show holdsLabel (s.label.queue ++ [newUpdate w s.tick]) x.number = false
      rw [holdsLabel_append_single, hnew x (List.mem_cons_of_mem w hx), hne]
      rfl
    have hfreeRest : ws.length + (s.pool.journalReserve - s.pool.journalHeld) ≤ s.pool.free - 1 := by omega
    unfold takeUpdates
    rw [if_neg (by rw [hnew w List.mem_cons_self]; exact Bool.false_ne_true), if_pos hfits, withUpdates_cons,
      List.length_cons]
    have htaken := ih (s := s.withUpdates [w]) hrest hnewRest hfreeRest
    exact congrArg (fun r : State × Nat => (r.1, r.2 + 1)) htaken

/-- R144: the state with the queued update for the label number of a new one superseded in place. -/
def State.superseding (s : State) (w : LabelWire) : State :=
  { s with label := { s.label with queue := supersedeIn s.label.queue w } }

/-- R144: an update for a queued label number supersedes it. -/
theorem takeUpdates_supersedes (a : Station) {w : LabelWire} (h : holdsLabel s.label.queue w.number = true) :
    takeUpdates a [w] s = (offer (occur (.label .superseded) (receivedOrigin .uplink a)) (s.superseding w), 1) := if_pos h

/-- R137: an update for which no block is free is dropped. -/
theorem takeUpdates_dropped (a : Station) {w : LabelWire} (h : holdsLabel s.label.queue w.number = false)
    (hfull : s.pool.free < 1 + (s.pool.journalReserve - s.pool.journalHeld)) : takeUpdates a [w] s = (s, 0) := by
  unfold takeUpdates
  rw [if_neg (by rw [h]; exact Bool.false_ne_true), if_neg (by rw [labelFits_iff]; omega)]

theorem takeUpdates_levels (a : Station) (ws : List LabelWire) (s : State) : (takeUpdates a ws s).1.levels = s.levels := by
  induction ws generalizing s with
  | nil => rfl
  | cons w ws ih =>
    unfold takeUpdates
    split
    · exact (ih _).trans ((still_levels (offer_still _ (s.superseding w))).trans rfl)
    · split
      · exact ih _
      · rfl

/-! ## The LABEL-ACK (R137, R200) -/

/-- R137: a state after the updates of a LABELS message, its label pair compared and its LABEL-ACK sent. -/
def labelsAcked (batch : BitVec 32) (before : Nat) (r : State × Nat) : State :=
  sendLabelAck batch r.2 (compareChanged .label before r.1)

theorem labelsAcked_quiet (batch : BitVec 32) (before : Nat) (r : State × Nat) :
    (labelsAcked batch before r).quiet = r.1.quiet :=
  (quiet_of_still (sendLabelAck_still _ _ _)).trans (compareChanged_quiet _ _ _)

/-- R137, R200: the LABEL-ACK waits as the state before the message would have built it. -/
theorem labelsAcked_waits (batch : BitVec 32) (before n : Nat) (h : s.WritesAs u) (hd : u.alerts.destination = none) :
    s.nightWaits .night 4 (be32 batch ++ be16 (BitVec.ofNat 16 n)) (labelsAcked batch before (u, n)).uplink :=
  (h.trans (compareChanged_writesAs hd .label before)).waits (sendNight_waits _ 4 _)

/-- R137, R147: with the label window closed no delivery event follows a LABELS message. -/
theorem takeLabels_closed (hstate : s.night.state = .draining ∨ s.night.state = .settling)
    (hclosed : s.levels.labelWindow.value = .closed) (a : Station) (batch : BitVec 32) (ws : List LabelWire) :
    takeLabels a batch ws s = labelsAcked batch s.pool.labelHeld (takeUpdates a ws s) := by
  have hlevels : (labelsAcked batch s.pool.labelHeld (takeUpdates a ws s)).levels = s.levels :=
    (quiet_levels (labelsAcked_quiet _ _ _)).trans (takeUpdates_levels a ws s)
  refine (if_pos hstate).trans (deliverWhile_closed 16 (deliveryOpen_eq_false.2 (.inr (.inl ?_))))
  exact (congrArg (fun l : Levels => l.labelWindow.value) hlevels).trans hclosed

/-- Settles O40: the updates are taken one at a time, and the LABEL-ACK is built in the state they leave. -/
theorem labelUpdatesJoinTheQueue : Obligations.LabelUpdatesJoinTheQueue := by
  intro m batch updates acked s hup hrun hfrom hstate hclosed hne hrange hacked
  have htaken : overUplink m.station (labelsMessage m batch updates) s
      = labelsAcked batch s.pool.labelHeld (takeUpdates m.station updates s) :=
    (collector_message hup hrun hfrom ((labelsInRange_iff updates).2 ⟨hne, hrange⟩) _).trans
      (takeLabels_closed hstate hclosed _ _ _)
  refine ⟨_, congrArg Host.Outcome.next htaken, fun hdistinct hnew hfree => ?new, ?superseded, ?dropped⟩
  case new =>
    rw [takeUpdates_new m.station updates hdistinct hnew hfree]
    refine ⟨(hacked _ _).2 fun hd => labelsAcked_waits _ _ _ ⟨rfl, rfl, rfl, rfl, rfl, rfl, rfl⟩ hd, ?_⟩
    exact labelsAcked_quiet _ _ _
  case superseded =>
    rintro w rfl hqueued
    rw [takeUpdates_supersedes m.station hqueued]
    have hsuperseded : s.WritesAs (s.superseding w) := ⟨rfl, rfl, rfl, rfl, rfl, rfl, rfl⟩
    refine ⟨(hacked _ _).2 fun hd => ?_, (labelsAcked_quiet _ _ _).trans (quiet_of_still (offer_still _ (s.superseding w)))⟩
    have hd' : (s.superseding w).alerts.destination = none := hd
    exact labelsAcked_waits _ _ _ (hsuperseded.trans (offer_writesAs hd' _)) ((offer_destination _ _).trans hd')
  case dropped =>
    rintro w rfl hnew hfull
    rw [takeUpdates_dropped m.station hnew hfull]
    exact ⟨(hacked _ _).2 fun hd => labelsAcked_waits _ _ _ ⟨rfl, rfl, rfl, rfl, rfl, rfl, rfl⟩ hd,
      labelsAcked_quiet _ _ _⟩

end Sys2Proof.Machine

/-! SUPPORT. What an action of the schedule does (R162, R164), and the entries of one second (R163). -/

namespace Sys2Proof.Machine

/- The proofs below run one after another: run together, their waiting threads outgrow the memory a check may use. -/
set_option Elab.async false

variable {s t : State}

/-! ## One action (R162, R164) -/

/-- R164: the level settings after an action of the schedule; a Call sets none. -/
def Levels.taking (l : Levels) (action : ScheduleAction) (origin : LevelOrigin) : Levels :=
  match action with
  | .dayProfile => { l with profile := ⟨.day, origin⟩ }
  | .nightProfile => { l with profile := ⟨.night, origin⟩ }
  | .labelsOpen => { l with labelWindow := ⟨.opened, origin⟩ }
  | .labelsClosed => { l with labelWindow := ⟨.closed, origin⟩ }
  | .guestOpen => { l with guestState := ⟨.opened, origin⟩ }
  | .guestClosed => { l with guestState := ⟨.closed, origin⟩ }
  | .call => l

theorem Levels.taking_of_same (l : Levels) {action : ScheduleAction} {k : LevelKind} (h : levelKind action = some k)
    (origin : LevelOrigin) : (l.taking action origin).of k = (action, origin) := by
  cases action <;> cases h <;> rfl

theorem Levels.taking_of_ne (l : Levels) {action : ScheduleAction} {k : LevelKind} (h : levelKind action ≠ some k)
    (origin : LevelOrigin) : (l.taking action origin).of k = l.of k := by
  revert h
  cases action <;> cases k <;> simp [levelKind, Levels.taking, Levels.of]

/-- R162: what an action of the schedule makes of a state: its own level setting, the night engine where it is a Call, and
the meters, the guest unit and the label engine that follow the level settings. -/
structure Acts (action : ScheduleAction) (origin : LevelOrigin) (s t : State) : Prop where
  quiet : ∃ (m : Meters) (g : GuestUnit) (l : LabelEngine) (n : Night), t.quiet = ({ s with
    levels := s.levels.taking action origin, meters := m, guest := g, label := l, night := n } : State).quiet
  night : action ≠ .call → t.night = s.night
  window : t.night.window = s.night.window

section
variable {action : ScheduleAction} {origin : LevelOrigin}

theorem Acts.levels (h : Acts action origin s t) : t.levels = s.levels.taking action origin :=
  let ⟨_, _, _, _, hq⟩ := h.quiet
  (quiet_levels hq).trans rfl

theorem Acts.clock (h : Acts action origin s t) : t.clock = s.clock :=
  let ⟨_, _, _, _, hq⟩ := h.quiet
  (quiet_clock hq).trans rfl

theorem Acts.tick (h : Acts action origin s t) : t.tick = s.tick :=
  let ⟨_, _, _, _, hq⟩ := h.quiet
  (quiet_tick hq).trans rfl

theorem Acts.running (h : Acts action origin s t) : t.running = s.running :=
  let ⟨_, _, _, _, hq⟩ := h.quiet
  (running_of_quiet hq).trans rfl

/-- An action that leaves the night engine as it was. -/
theorem Acts.of_quiet {m : Meters} {g : GuestUnit} {l : LabelEngine} (h : t.quiet = ({ s with
    levels := s.levels.taking action origin, meters := m, guest := g, label := l } : State).quiet) :
    Acts action origin s t where
  quiet := ⟨m, g, l, s.night, h⟩
  night _ := (quiet_night h).trans rfl
  window := congrArg Night.window ((quiet_night h).trans rfl)

theorem setProfile_quiet (v : DayNight) (o : LevelOrigin) (s : State) :
    ∃ m, (setProfile v o s).quiet = ({ s.withProfile v o with meters := m } : State).quiet := by
  by_cases h : s.levels.profile.value = v
  · rw [setProfile_same h]
    exact ⟨s.meters, rfl⟩
  · exact ⟨_, (setProfile_changes h o).1⟩

theorem setLabelWindow_quiet (v : Gate) (o : LevelOrigin) (s : State) :
    ∃ l, (setLabelWindow v o s).quiet = ({ s.withLabelWindow v o with label := l } : State).quiet := by
  unfold setLabelWindow
  dsimp only
  split
  · obtain ⟨l, hl⟩ := deliveries_still (s.withLabelWindow v o)
    exact ⟨l, quiet_of_still hl⟩
  · exact ⟨s.label, rfl⟩

end

/-- R162: what each action does. -/
theorem act_acts (action : ScheduleAction) (origin : LevelOrigin) (s : State) :
    Acts action origin s (act action origin s) := by
  cases action with
  | dayProfile => exact let ⟨_, h⟩ := setProfile_quiet .day origin s; .of_quiet (g := s.guest) (l := s.label) h
  | nightProfile => exact let ⟨_, h⟩ := setProfile_quiet .night origin s; .of_quiet (g := s.guest) (l := s.label) h
  | labelsOpen => exact let ⟨_, h⟩ := setLabelWindow_quiet .opened origin s; .of_quiet (m := s.meters) (g := s.guest) h
  | labelsClosed => exact let ⟨_, h⟩ := setLabelWindow_quiet .closed origin s; .of_quiet (m := s.meters) (g := s.guest) h
  | guestOpen => exact .of_quiet (l := s.label) (congrArg State.quiet (setGuestState_eq .opened origin s))
  | guestClosed => exact .of_quiet (l := s.label) (congrArg State.quiet (setGuestState_eq .closed origin s))
  | call =>
    show Acts .call origin s (nightCall s)
    cases htaken : s.callTaken with
    | false =>
      rw [nightCall_ignored htaken]
      exact .of_quiet (m := s.meters) (g := s.guest) (l := s.label) rfl
    | true =>
      have hcalled := quiet_of_still (placeCall_still s.night.attemptsAtCall s)
      rw [nightCall_taken htaken]
      exact ⟨⟨s.meters, s.guest, s.label, _, hcalled⟩, fun h => absurd rfl h,
        (congrArg Night.window (quiet_night hcalled)).trans rfl⟩

/-! ## The entries of one second (R163) -/

section
variable (schedule : Vector ScheduleEntry 16) (second : Nat)

/-- R163: an entry fires at a second of day. -/
def FiresAt (i : Fin 16) : Prop := schedule[i].enabled = true ∧ schedule[i].second = second

variable {schedule second} {i : Fin 16} {l : List (Fin 16)}

theorem fireEntry_due (h : FiresAt schedule second i) :
    fireEntry schedule second s i = act schedule[i].action (.entry i) s := if_pos h

theorem fireEntry_not_due (h : ¬ FiresAt schedule second i) : fireEntry schedule second s i = s := if_neg h

theorem foldl_fireEntry_none (h : ∀ j ∈ l, ¬ FiresAt schedule second j) : l.foldl (fireEntry schedule second) s = s := by
  induction l with
  | nil => rfl
  | cons j l ih =>
    rw [List.foldl_cons, fireEntry_not_due (h j List.mem_cons_self)]
    exact ih fun k hk => h k (List.mem_cons_of_mem j hk)

theorem fireEntry_clock (i : Fin 16) (s : State) : (fireEntry schedule second s i).clock = s.clock := by
  unfold fireEntry
  split
  · exact (act_acts _ _ s).clock
  · rfl

theorem foldl_fireEntry_clock (l : List (Fin 16)) (s : State) :
    (l.foldl (fireEntry schedule second) s).clock = s.clock := by
  induction l generalizing s with
  | nil => rfl
  | cons j l ih => rw [List.foldl_cons, ih, fireEntry_clock]

/-- R164: entries of other kinds keep a level setting. -/
theorem foldl_fireEntry_levels {k : LevelKind}
    (h : ∀ j ∈ l, FiresAt schedule second j → levelKind schedule[j].action ≠ some k) :
    (l.foldl (fireEntry schedule second) s).levels.of k = s.levels.of k := by
  induction l generalizing s with
  | nil => rfl
  | cons j l ih =>
    rw [List.foldl_cons, ih fun i hi => h i (List.mem_cons_of_mem j hi)]
    by_cases hdue : FiresAt schedule second j
    · rw [fireEntry_due hdue, (act_acts _ _ s).levels]
      exact Levels.taking_of_ne _ (h j List.mem_cons_self hdue) _
    · rw [fireEntry_not_due hdue]

/-- R123: whether a call is taken rests on the part state and the engine. -/
theorem callTaken_congr (hrun : t.running = s.running) (hnight : t.night = s.night) : t.callTaken = s.callTaken := by
  simp only [State.callTaken, State.callHeard, hrun, hnight]

/-- R123: no call is taken in CALLING. -/
theorem callTaken_calling (h : s.night.state = .calling) : s.callTaken = false :=
  callTaken_eq_false (.inr (.inr (.inl h)))

/-- R163: an entry that is no Call, or a Call that is ignored, keeps the night engine. -/
theorem fireEntry_keeps_night
    (h : s.callTaken = false ∨ (FiresAt schedule second i → schedule[i].action ≠ .call)) :
    (fireEntry schedule second s i).night = s.night ∧ (fireEntry schedule second s i).running = s.running
      ∧ (fireEntry schedule second s i).tick = s.tick := by
  by_cases hdue : FiresAt schedule second i
  · rw [fireEntry_due hdue]
    have hacts := act_acts schedule[i].action (.entry i) s
    refine ⟨?_, hacts.running, hacts.tick⟩
    by_cases hcall : schedule[i].action = .call
    · rw [hcall]
      exact congrArg State.night (nightCall_ignored (h.resolve_right fun hn => hn hdue hcall))
    · exact hacts.night hcall
  · rw [fireEntry_not_due hdue]
    exact ⟨rfl, rfl, rfl⟩

theorem foldl_fireEntry_keeps_night
    (h : s.callTaken = false ∨ ∀ j ∈ l, FiresAt schedule second j → schedule[j].action ≠ .call) :
    (l.foldl (fireEntry schedule second) s).night = s.night := by
  induction l generalizing s with
  | nil => rfl
  | cons j l ih =>
    obtain ⟨hnight, hrun, -⟩ := fireEntry_keeps_night (i := j) (h.imp_right fun h => h j List.mem_cons_self)
    rw [List.foldl_cons, ih ?_, hnight]
    rw [callTaken_congr hrun hnight]
    exact h.imp_right fun h i hi => h i (List.mem_cons_of_mem j hi)

/-- R123, R163: of the Call entries of a second the first places the call, and the engine takes no other. -/
theorem foldl_fireEntry_calls (htaken : s.callTaken = true) (hi : i ∈ l) (hdue : FiresAt schedule second i)
    (hcall : schedule[i].action = .call) :
    (l.foldl (fireEntry schedule second) s).night = s.called s.night.attemptsAtCall := by
  induction l generalizing s with
  | nil => cases hi
  | cons j l ih =>
    rw [List.foldl_cons]
    by_cases hfirst : FiresAt schedule second j ∧ schedule[j].action = .call
    · have hplaced : fireEntry schedule second s j = placeCall s.night.attemptsAtCall s := by
        rw [fireEntry_due hfirst.1, hfirst.2]
        exact nightCall_taken htaken
      have hnight : (placeCall s.night.attemptsAtCall s).night = s.called s.night.attemptsAtCall :=
        (still_night (placeCall_still _ s)).trans rfl
      rw [hplaced, foldl_fireEntry_keeps_night (.inl (callTaken_calling (by rw [hnight]; rfl))), hnight]
    · obtain ⟨hnight, hrun, htick⟩ := fireEntry_keeps_night (s := s) (i := j) (.inr fun hj hc => hfirst ⟨hj, hc⟩)
      have hrest : i ∈ l := (List.mem_cons.1 hi).resolve_left fun e => hfirst ⟨e ▸ hdue, e ▸ hcall⟩
      rw [ih (by rwa [callTaken_congr hrun hnight]) hrest]
      simp only [State.called, State.timer, hnight, htick]

/-- R163: the entries before and after one in index order. -/
theorem finRange_split {n : Nat} (i : Fin n) : ∃ before after, List.finRange n = before ++ i :: after
    ∧ (∀ j ∈ before, j < i) ∧ ∀ j ∈ after, i < j := by
  obtain ⟨before, after, hsplit⟩ := List.append_of_mem (List.mem_finRange i)
  have hsorted := List.pairwise_lt_finRange n
  rw [hsplit, List.pairwise_append, List.pairwise_cons] at hsorted
  obtain ⟨-, ⟨hafter, -⟩, hbefore⟩ := hsorted
  exact ⟨before, after, hsplit, fun j hj => hbefore j hj i List.mem_cons_self, hafter⟩

/-- R164: the highest-index entry of its kind sets its level. -/
theorem foldl_fireEntry_last {k : LevelKind} (hdue : FiresAt schedule second i)
    (hkind : levelKind schedule[i].action = some k)
    (hlast : ∀ j, i < j → FiresAt schedule second j → levelKind schedule[j].action ≠ some k) :
    ((List.finRange 16).foldl (fireEntry schedule second) s).levels.of k = (schedule[i].action, .entry i) := by
  obtain ⟨before, after, hsplit, -, hafter⟩ := finRange_split i
  rw [hsplit, List.foldl_append, List.foldl_cons, foldl_fireEntry_levels fun j hj => hlast j (hafter j hj),
    fireEntry_due hdue, (act_acts _ _ _).levels]
  exact Levels.taking_of_same _ hkind _

/-- R163: the one entry of a second fires alone. -/
theorem foldl_fireEntry_single (hdue : FiresAt schedule second i) (hone : ∀ j, FiresAt schedule second j → j = i) :
    (List.finRange 16).foldl (fireEntry schedule second) s = act schedule[i].action (.entry i) s := by
  obtain ⟨before, after, hsplit, hbefore, hafter⟩ := finRange_split i
  rw [hsplit, List.foldl_append, List.foldl_cons,
    foldl_fireEntry_none fun j hj hj' => (hone j hj').not_gt (hafter j hj),
    foldl_fireEntry_none fun j hj hj' => (hone j hj').not_lt (hbefore j hj), fireEntry_due hdue]

end

/-! ## A second advance (R159, R163) -/

/-- R163: in CLOSED no entry fires, and in RUNNING the entries for the second do. -/
theorem fireEntries_closed (h : s.running = false) : fireEntries s = s := if_neg (by rw [h]; exact Bool.false_ne_true)

theorem fireEntries_running (h : s.running = true) :
    fireEntries s = (List.finRange 16).foldl (fireEntry s.schedule s.clock.time.second) s := if_pos h

theorem fireEntries_clock (s : State) : (fireEntries s).clock = s.clock := by
  unfold fireEntries
  split
  · exact foldl_fireEntry_clock _ s
  · rfl

/-- Settles O31: the clock goes on by a second, and the entries of the new second fire one after another. -/
theorem secondAdvanceFiresTheSchedule : Obligations.SecondAdvanceFiresTheSchedule := by
  rintro _ due _ s hset hdue rfl hfires rfl
  obtain ⟨u, hu⟩ : ∃ u : State, u = { s with clock := s.clock.advanced } := ⟨_, rfl⟩
  have hexec : exec .secondAdvance s = .next (fireEntries u) := by
    rw [hu]
    exact congrArg Host.Outcome.next (if_pos (by simp [hset, hdue]))
  have hfires' (i : Fin 16) : due i ↔ FiresAt u.schedule u.clock.time.second i := by
    rw [hu]
    exact hfires i
  have hrunning : u.running = s.running := by rw [hu]; rfl
  have hlevels : u.levels = s.levels := by rw [hu]
  have hschedule : u.schedule = s.schedule := by rw [hu]
  have hnight : u.night = s.night := by rw [hu]
  refine ⟨fireEntries u, hexec, ?clock, fun h => ?nothing, fun hrun k i hi hkind hlast => ?sets, fun k hk => ?keeps,
    fun h => ?ignored, fun i hi hcall hrun hcollector hstate => ?calls⟩
  case clock =>
    rw [fireEntries_clock, hu]
    rfl
  case nothing =>
    refine Eq.trans ?_ hu
    by_cases hrun : u.running = true
    · rw [fireEntries_running hrun]
      refine foldl_fireEntry_none fun j _ hj => ?_
      rcases h with h | h
      · rw [hrunning, h] at hrun; cases hrun
      · exact h j ((hfires' j).2 hj)
    · exact fireEntries_closed (by simpa using hrun)
  case sets =>
    rw [fireEntries_running (hrunning.trans hrun), ← hschedule]
    rw [← hschedule] at hkind hlast
    exact foldl_fireEntry_last ((hfires' i).1 hi) hkind fun j hj hj' => hlast j hj ((hfires' j).2 hj')
  case keeps =>
    rw [← hlevels]
    unfold fireEntries
    split
    · refine foldl_fireEntry_levels fun j _ hj => ?_
      rw [hschedule]
      exact hk j ((hfires' j).2 hj)
    · rfl
  case ignored =>
    rw [← hnight]
    unfold fireEntries
    split
    · refine foldl_fireEntry_keeps_night (h.symm.imp (fun h => ?_) fun h j _ hj => ?_)
      · exact (callTaken_congr hrunning hnight).trans (callTaken_eq_false h)
      · rw [hschedule]
        exact h j ((hfires' j).2 hj)
    · rfl
  case calls =>
    have htaken : u.callTaken = true :=
      (callTaken_congr hrunning hnight).trans ((callTaken_iff s).2 ⟨hrun, hcollector, hstate⟩)
    have hcalled : u.called u.night.attemptsAtCall = s.called s.night.attemptsAtCall := by rw [hu]; rfl
    have hdue' := (hfires' i).1 hi
    have hcall' : u.schedule[i].action = .call := by rw [hschedule]; exact hcall
    rw [fireEntries_running (hrunning.trans hrun)]
    refine ⟨(foldl_fireEntry_calls htaken (List.mem_finRange i) hdue' hcall').trans hcalled, fun hone => ?_⟩
    have halone := foldl_fireEntry_single (s := u) hdue' fun j hj => hone j ((hfires' j).2 hj)
    rw [hcall'] at halone
    rw [halone, show act .call (.entry i) u = placeCall u.night.attemptsAtCall u from nightCall_taken htaken]
    constructor
    · rw [placeCall_still, hcalled, hu]
      rfl
    · have hwrites : s.WritesAs u := by rw [hu]; exact ⟨rfl, rfl, rfl, rfl, rfl, rfl, rfl⟩
      have hwaits := hwrites.waits (placeCall_waits u.night.attemptsAtCall u)
      rwa [show u.journal = s.journal by rw [hu], show u.pool = s.pool by rw [hu]] at hwaits

end Sys2Proof.Machine

/-! SUPPORT. What a GRANT does to the engine and the clock (R128, R161), and the one RECORDS message that carries a whole
journal (R131, R200). -/

namespace Sys2Proof.Machine

/- The proofs below run one after another: run together, their waiting threads outgrow the memory a check may use. -/
set_option Elab.async false

variable {s t u : State} {m : NightSource}

/-! ## A message presented to the TRANSFER meter (R59, R131) -/

/-- R13, R192, R193: the bytes of an originated frame: 42 of headers and its payload, 60 at the least. -/
theorem length_udpFrame (n : Nat) (a b : Station) (source destination : NetAddr) (own other : Service) (payload : Bytes) :
    (udpFrame n a b source destination own other payload).length = max 60 (42 + payload.length) := by
  simp only [udpFrame_eq, ipv4Header_eq, headerFront, num16, List.length_append, length_udpDatagram, length_be48,
    length_be16, length_be32, List.length_cons, List.length_nil, List.length_replicate]
  omega

/-- R121: two states that build the same night message. -/
theorem State.WritesAs.nightMessage (h : s.WritesAs u) (kind : Nat) (fields : Bytes) :
    u.nightMessage kind fields = s.nightMessage kind fields := by
  simp only [State.nightMessage, h.settings, h.ports]

/-- R59, R131: a night message that the TRANSFER meter covers, with nothing held and no alert destination, waits in TRANSFER
as one that goes there directly. -/
theorem metered_waits (hd : s.alerts.destination = none) (hhold : s.meters.transfer.hold = []) (code : Nat)
    (fields : Bytes) (hcovered : max 60 (50 + fields.length) ≤ (s.refilledMeter .transfer).level) :
    s.nightWaits .night (BitVec.ofNat 8 code) fields
      (originate (s.nightMessage code fields) (presentMeter .transfer .transfer) s).uplink := by
  intro a hrun hhop hbusy hlimit htotal
  obtain ⟨v, hv⟩ : ∃ v : State, v = { s with freeSerial := s.freeSerial + 1 } := ⟨_, rfl⟩
  obtain ⟨f, hf⟩ : ∃ f : Frame, f = s.datagramFrame (s.nightMessage code fields) a := ⟨_, rfl⟩
  have hsent : originate (s.nightMessage code fields) (presentMeter .transfer .transfer) s
      = presentMeter .transfer .transfer f v := by
    have hresolved : resolve s none .uplink s.night.settings.collector = .ok a := congrArg stationOr hhop
    unfold originate
    rw [show resolve s none (s.nightMessage code fields).segment (s.nightMessage code fields).destination = .ok a
      from hresolved, hf, hv]
  have hlength : f.bytes.length ≤ (v.refilledMeter .transfer).level := by
    have hpayload : (s.nightMessage code fields).payload.length = 8 + fields.length := List.length_append
    have hframe : f.bytes.length = max 60 (42 + (s.nightMessage code fields).payload.length) := by
      rw [hf]
      exact length_udpFrame _ _ _ _ _ _ _ _
    rw [hframe, hpayload, hv]
    exact Nat.le_trans (by omega) hcovered
  have hdv : v.alerts.destination = none := by rw [hv]; exact hd
  have huplink : v.uplink = s.uplink := by rw [hv]
  have hrunv : v.running = s.running := by rw [hv]; rfl
  have hholdv : v.meters.transfer.hold = [] := by rw [hv]; exact hhold
  rw [hsent, presentMeter_conforms (i := .transfer) (.inr hholdv) hlength]
  have hjoined (m : ShareMeter) := (conforming_joins (s := s) (x := v.setMeter .transfer m) .transfer f rfl
    ((setMeter_running v .transfer m).trans hrunv) fun _ => (setMeter_uplink hdv .transfer m).trans huplink).2
      hrun hd hbusy hlimit htotal
  rw [hjoined, hf]
  rfl

/-! ## One RECORDS message for the whole journal (R131, R200) -/

/-- R131: records that the count and the room allow all go. -/
theorem packRecords_all {n room : Nat} {rs : List JournalRecord} (hcount : rs.length ≤ n)
    (hroom : (rs.map fun r => 16 + r.payload.length).sum ≤ room) : packRecords n room rs = rs := by
  induction rs generalizing n room with
  | nil => cases n <;> rfl
  | cons r rs ih =>
    cases n with
    | zero => cases hcount
    | succ n =>
      rw [List.map_cons, List.sum_cons] at hroom
      unfold packRecords
      rw [if_pos (by omega), ih (Nat.le_of_succ_le_succ hcount) (by omega)]

theorem length_recordBytes (r : JournalRecord) : (recordBytes r).length = 16 + r.payload.length := by
  have htime : (storeTimeBytes r.time).length = 5 := by cases r.time <;> rfl
  simp only [recordBytes, num8, num16, List.length_append, length_be32, length_be16, htime, List.length_cons,
    List.length_nil]

theorem length_flatMap_recordBytes (rs : List JournalRecord) :
    (rs.flatMap recordBytes).length = (rs.map fun r => 16 + r.payload.length).sum := by
  simp only [List.length_flatMap, length_recordBytes]

theorem sendRecords_journal (s : State) : (sendRecords s).journal = s.recordsTaken.journal :=
  let ⟨_, hq⟩ := sendRecords_quiet s
  (quiet_journal hq).trans rfl

theorem sendRecords_night (s : State) : (sendRecords s).night = s.recordsTaken.night :=
  let ⟨_, hq⟩ := sendRecords_quiet s
  (quiet_night hq).trans rfl

/-- R131: a state in DRAINING and RUNNING at the start of its journal, all of which one RECORDS message can carry. -/
structure State.SendsAll (s : State) : Prop where
  draining : s.night.state = .draining
  running : s.running = true
  rewound : s.journal.nextToSend = s.journal.oldest
  records : s.journal.records ≠ []
  span : s.journal.records.length = (s.journal.nextSeq - s.journal.oldest).toNat
  window : s.journal.records.length ≤ s.night.window
  size : (s.journal.records.map fun r => 16 + r.payload.length).sum ≤ 1400
  hold : s.meters.transfer.hold = []
  room : s.uplink.hasRoom .transfer = true

theorem State.SendsAll.outstanding (h : s.SendsAll) : s.journal.outstanding = 0 := by
  rw [Journal.outstanding, h.rewound, BitVec.sub_self]
  rfl

theorem State.SendsAll.nextRecords (h : s.SendsAll) : s.nextRecords = s.journal.records := by
  rw [State.nextRecords, h.outstanding, List.drop_zero]
  exact packRecords_all h.window h.size

theorem State.SendsAll.length_pos (h : s.SendsAll) : 0 < s.journal.records.length := List.length_pos_iff.2 h.records

theorem State.SendsAll.nextSeq_ne (h : s.SendsAll) : s.journal.nextSeq ≠ s.journal.oldest := fun e => by
  have hpos := h.length_pos
  rw [h.span, e, BitVec.sub_self] at hpos
  exact absurd hpos (Nat.lt_irrefl 0)

theorem State.SendsAll.canSend (h : s.SendsAll) : s.canSend = true := by
  have hpos := h.length_pos
  have hwindow := h.window
  have hne : s.journal.oldest ≠ s.journal.nextSeq := h.nextSeq_ne.symm
  simp only [State.canSend, h.draining, h.running, h.outstanding, h.rewound, h.room, h.hold, h.nextRecords,
    Bool.and_eq_true, decide_eq_true_eq, bne_iff_ne, Bool.not_eq_true', List.isEmpty_eq_false_iff]
  exact ⟨⟨⟨⟨⟨⟨rfl, trivial⟩, by omega⟩, hne⟩, trivial⟩, rfl⟩, h.records⟩

/-- R131: past the records carried stands the next sequence. -/
theorem State.SendsAll.nextToSend (h : s.SendsAll) : (sendRecords s).journal.nextToSend = s.journal.nextSeq := by
  rw [sendRecords_journal]
  show s.journal.nextToSend + BitVec.ofNat 32 s.nextRecords.length = _
  rw [h.nextRecords, h.span, h.rewound, BitVec.ofNat_toNat, BitVec.setWidth_eq]
  bv_omega

/-- R131, R133: one send event follows at the engine, and then none: the records are all outstanding. -/
theorem State.SendsAll.nightFollow (h : s.SendsAll) : nightFollow s = sendRecords s := by
  have hjournal := sendRecords_journal s
  obtain ⟨k, hk⟩ : ∃ k, s.night.window = k + 1 := ⟨s.night.window - 1, by
    have := h.length_pos
    have := h.window
    omega⟩
  have hlast : (sendRecords s).canSend = false := canSend_eq_false (.inl (by rw [h.nextToSend, hjournal]; rfl))
  unfold Machine.nightFollow
  rw [hk, sendWhile, if_pos h.canSend, sendWhile_of_not_canSend k hlast,
    completionTest_of_records (by rw [hjournal]; exact h.nextSeq_ne)]

/-- R130: the ack timer starts, as nothing was outstanding. -/
theorem State.SendsAll.ackTimer (h : s.SendsAll) :
    (sendRecords s).night.ackTimer = some ⟨s.tick, s.night.settings.ackTimeout⟩ := by
  rw [sendRecords_night]
  exact if_pos h.outstanding

/-- R131, R200: with the TRANSFER meter covering it the RECORDS message waits in TRANSFER. -/
theorem State.SendsAll.waits (h : s.SendsAll) (hd : s.alerts.destination = none)
    (hcovered : 55 + (s.journal.records.map fun r => 16 + r.payload.length).sum ≤ (s.refilledMeter .transfer).level) :
    s.nightWaits .night 2 (be32 s.journal.oldest ++ num8 s.journal.records.length
      ++ s.journal.records.flatMap recordBytes) (sendRecords s).uplink := by
  obtain ⟨v, hv⟩ : ∃ v, v = offer (occur (.night .recordsSent) (builtOrigin .uplink)) s.recordsTaken := ⟨_, rfl⟩
  have hdtaken : s.recordsTaken.alerts.destination = none := hd
  have hwrites : s.WritesAs v :=
    State.WritesAs.trans (t := s.recordsTaken) ⟨rfl, rfl, rfl, rfl, rfl, rfl, rfl⟩ (hv ▸ offer_writesAs hdtaken _)
  have hstill : v.still = s.recordsTaken.still := hv ▸ offer_still _ _
  have hmeters : v.meters = s.meters := (Machine.still_meters hstill).trans rfl
  have hlevels : v.levels = s.levels := (Machine.still_levels hstill).trans rfl
  have hrefilled : v.refilledMeter .transfer = s.refilledMeter .transfer := by
    simp only [State.refilledMeter, State.profileInUse, hmeters, hlevels, hwrites.tick]
  have hmessage : s.recordsMessage = v.nightMessage 2 (be32 s.journal.oldest ++ num8 s.journal.records.length
      ++ s.journal.records.flatMap recordBytes) := by
    rw [hwrites.nightMessage, State.recordsMessage, h.nextRecords, h.rewound]
  have hpos := h.length_pos
  unfold sendRecords
  rw [← hv, hmessage]
  refine hwrites.waits (metered_waits ?_ (hmeters ▸ h.hold) 2 _ ?_)
  · rw [hv, offer_destination]
    exact hd
  · have hsome : 16 ≤ (s.journal.records.map fun r => 16 + r.payload.length).sum := by
      obtain ⟨r, rs, hrs⟩ := List.exists_cons_of_ne_nil h.records
      rw [hrs, List.map_cons, List.sum_cons]
      omega
    rw [hrefilled, List.length_append, List.length_append, length_be32, length_flatMap_recordBytes, num8,
      List.length_singleton]
    omega

/-! ## The clock set by a GRANT (R161, R165) -/

/-- R165: a replay leaves the clock and the window as they are. -/
theorem replay_clock_window (s : State) : (replay s).clock = s.clock ∧ (replay s).night.window = s.night.window := by
  unfold replay
  generalize [LevelKind.profile, .labelWindow, .guestState] = l
  have hone (s : State) (k : LevelKind) :
      (replayKind s k).clock = s.clock ∧ (replayKind s k).night.window = s.night.window := by
    unfold replayKind
    split
    · exact ⟨rfl, rfl⟩
    · exact ⟨(act_acts _ _ s).clock, (act_acts _ _ s).window⟩
  induction l generalizing s with
  | nil => exact ⟨rfl, rfl⟩
  | cons k l ih => exact ⟨(ih _).1.trans (hone s k).1, (ih _).2.trans (hone s k).2⟩

theorem clockSet_keeps_window (day second : Nat) (s : State) :
    (clockSet day second s).clock = { s.clock with set := true, time := ⟨day, second⟩, sub := 0 }
      ∧ (clockSet day second s).night.window = s.night.window := by
  unfold clockSet
  dsimp only
  split
  · exact replay_clock_window _
  · exact ⟨rfl, rfl⟩

/-! ## The GRANT (R128) -/

theorem grantInRange_iff (window : Byte) (second : BitVec 32) :
    grantInRange window second = true ↔ window ≠ 0 ∧ second.toNat ≤ 86399 := by
  simp only [grantInRange, Bool.and_eq_true, bne_iff_ne, decide_eq_true_eq, ne_eq]

/-- R128: the state in DRAINING at the start of its journal, with a window. -/
def State.drainingWith (s : State) (window : Byte) : State :=
  { s with
    night := { s.night.enter .draining with window := window.toNat, shortRetries := 0 }
    journal := { s.journal with nextToSend := s.journal.oldest } }

theorem grantTaken_calling (h : s.night.state = .calling) (window : Byte) :
    grantTaken window s = s.drainingWith window := by
  unfold grantTaken
  rw [h]
  rfl

theorem grantTaken_draining (h : s.night.state = .draining) (window : Byte) :
    grantTaken window s = { s with night := { s.night with window := window.toNat } } := by
  unfold grantTaken
  rw [h]

/-- R128: what a GRANT that is taken does to the engine before its sends. -/
theorem grantTaken_asleep (h : s.night.state = .calling ∨ s.night.state = .draining) (window : Byte) :
    (grantTaken window s).asleep = ({ s with night := { s.night with
      window := window.toNat
      shortRetries := if s.night.state = .calling then 0 else s.night.shortRetries } } : State).asleep := by
  rcases h with h | h
  · rw [grantTaken_calling h, if_pos h]
    rfl
  · rw [grantTaken_draining h, if_neg (by rw [h]; nofun)]

theorem asleep_clock (h : t.asleep = s.asleep) : t.clock = s.clock :=
  show t.asleep.clock = s.asleep.clock by rw [h]

/-- Settles O34: a GRANT is taken in CALLING and DRAINING, and what follows is the clock set, the send events and the
completion test. -/
theorem grantOpensTheDrain : Obligations.GrantOpensTheDrain := by
  intro m window day second s hup hrun hfrom hwindow hsecond
  have hexec : exec (.grant m window day second) s = .next (takeGrant window day second s) :=
    congrArg Host.Outcome.next (collector_message hup hrun hfrom ((grantInRange_iff _ _).2 ⟨hwindow, hsecond⟩) _)
  have htaken (h : s.night.state = .calling ∨ s.night.state = .draining) : takeGrant window day second s
      = nightFollow (if s.night.settings.followClock then clockSet day.toNat second.toNat (grantTaken window s)
        else grantTaken window s) := if_pos h
  refine ⟨fun hcalling hdraining => ?ignored, fun hstate hfollow => ⟨_, hexec, ?follows⟩,
    fun hstate hfollow => ⟨nightFollow (grantTaken window s), ?exec, ?asleep, fun hcalling hne => ?drains,
      fun hcalling hempty => ?settles, fun size rs hcalling hrs hne hspan hcount hsize hle hhold hroom hcovered => ?sends⟩⟩
  case ignored =>
    rw [hexec]
    exact congrArg Host.Outcome.next (if_neg fun h => h.elim hcalling hdraining)
  case follows =>
    obtain ⟨hclock, hkept⟩ := clockSet_keeps_window day.toNat second.toNat (grantTaken window s)
    have hfollows := nightFollow_asleep (clockSet day.toNat second.toNat (grantTaken window s))
    have hgranted := grantTaken_asleep hstate window
    rw [htaken hstate, hfollow, if_pos rfl]
    constructor
    · rw [asleep_window hfollows, hkept, asleep_window hgranted]
    · have hkeptClock : (grantTaken window s).clock = s.clock := (asleep_clock hgranted).trans rfl
      rw [asleep_clock hfollows, hclock, hkeptClock]
  case exec => rw [hexec, htaken hstate, hfollow, if_neg Bool.false_ne_true]
  case asleep => rw [nightFollow_asleep, grantTaken_asleep hstate]
  all_goals rw [grantTaken_calling hcalling]
  case drains =>
    have hnone : (s.drainingWith window).journal.outstanding = 0 := by
      show (s.journal.oldest - s.journal.oldest).toNat = 0
      rw [BitVec.sub_self]
      rfl
    have hbegin : (s.drainingWith window).WithinWindow :=
      ⟨rfl, Nat.le_of_lt_succ window.isLt, hnone ▸ Nat.zero_le _⟩
    exact (hbegin.nightFollow hne).draining
  case settles =>
    have hwrites : s.WritesAs (s.drainingWith window) := ⟨rfl, rfl, rfl, rfl, rfl, rfl, rfl⟩
    obtain ⟨hsettling, hjournal, htimer, hwaits⟩ := nightFollow_settles (s := s.drainingWith window) rfl rfl hempty
    rw [hjournal]
    exact ⟨hsettling, rfl, htimer, hwrites.waits hwaits⟩
  case sends =>
    subst hrs hsize
    have hwrites : s.WritesAs (s.drainingWith window) := ⟨rfl, rfl, rfl, rfl, rfl, rfl, rfl⟩
    have hall : (s.drainingWith window).SendsAll := ⟨rfl, hrun, rfl, hne, hspan, hcount, hle, hhold, hroom⟩
    rw [hall.nightFollow]
    refine ⟨?_, hall.nextToSend, hall.ackTimer, fun hd => hwrites.waits ?_⟩
    · rw [sendRecords_night]
      rfl
    · exact hall.waits hd hcovered

end Sys2Proof.Machine

/-! SUPPORT. R125, R127: no backoff delay is drawn, and BACKOFF is not entered, by the meters, forwarding, the request tracker,
the send events, calls, the end of a session, the label engine and the schedule. -/

namespace Sys2Proof.Machine

/- The proofs below run one after another: run together, their waiting threads outgrow the memory a check may use. -/
set_option Elab.async false

variable {s t u : State}

/-! ## No entry into BACKOFF (R125) -/

/-- From one state to another the generator stays as it is, and BACKOFF is not entered. -/
structure Undrawn (s t : State) : Prop where
  generator : t.night.generator = s.night.generator
  state : t.night.state = .backoff → s.night.state = .backoff

theorem Undrawn.refl (s : State) : Undrawn s s := ⟨rfl, id⟩

/-- What leaves the night engine as it was. -/
theorem Undrawn.keep (h : Undrawn s t) (e : u.night = t.night := by rfl) : Undrawn s u :=
  ⟨e ▸ h.generator, e ▸ h.state⟩

theorem Undrawn.still (h : Undrawn s t) (e : u.still = t.still) : Undrawn s u := h.keep (still_night e)

theorem Undrawn.quiet (h : Undrawn s t) (e : u.quiet = t.quiet) : Undrawn s u := h.keep (quiet_night e)

/-- What leaves the generator and enters another state than BACKOFF. -/
theorem Undrawn.enter (h : Undrawn s t) (hg : u.night.generator = t.night.generator) (hs : u.night.state ≠ .backoff) :
    Undrawn s u := ⟨hg.trans h.generator, fun hb => absurd hb hs⟩

/-- An operation that is taken under a condition, and another where it fails. -/
theorem Undrawn.ite {p : Prop} [Decidable p] (ht : Undrawn s t) (hu : Undrawn s u) :
    Undrawn s (if p then t else u) := by
  split
  · exact ht
  · exact hu

theorem foldl_undrawn {α : Type} {f : State → α → State} (hf : ∀ t a, Undrawn s t → Undrawn s (f t a)) (l : List α)
    (h : Undrawn s t) : Undrawn s (l.foldl f t) := by
  induction l generalizing t with
  | nil => exact h
  | cons a l ih => exact ih (hf t a h)

/-! ## Meters and forwarding (R28, R29, R58 to R64, R75 to R77) -/

theorem setMeter_undrawn (h : Undrawn s t) (i : Meter) (m : ShareMeter) : Undrawn s (t.setMeter i m) :=
  h.keep.quiet (setMeter_quiet t i m)

theorem presentMeter_undrawn (h : Undrawn s t) (i : Meter) (q : UplinkQueue) (f : Frame) :
    Undrawn s (presentMeter i q f t) :=
  let ⟨_, hm⟩ := presentMeter_quiet i q f t
  h.keep.quiet hm

theorem releaseMeter_undrawn (h : Undrawn s t) (i : Meter) : Undrawn s (releaseMeter i t) := by
  have hreleased (t : State) (x : HeldFrame) (h : Undrawn s t) : Undrawn s (releaseOne i t x) :=
    (h.keep (u := t.chargedFor i x)).quiet (releaseOne_quiet i t x)
  unfold releaseMeter
  exact h.ite (foldl_undrawn hreleased _ (setMeter_undrawn h _ _))

theorem jointTest_undrawn (h : Undrawn s t) (a : Station) (f : Frame) : Undrawn s (jointTest a f t) := by
  have htested (g : GuestEntry → GuestEntry) (m : ShareMeter) : Undrawn s ((t.withGuest a g).setMeter .guest m) :=
    setMeter_undrawn h.keep _ _
  unfold jointTest
  dsimp only
  split
  · exact (setMeter_undrawn h _ _).still (offer_still _ _)
  · exact ((htested _ _).still (offer_still _ _)).ite
      (((htested _ _).still (presentUplink_still _ _ _)).ite ((htested _ _).still (offer_still _ _)))

theorem forwardFrame_undrawn (h : Undrawn s t) (p : Passage) (copy : LookupCopy) :
    Undrawn s (forwardFrame p copy t) := by
  unfold forwardFrame deliverForwarded
  dsimp only
  split
  · exact h.still (drop_still _ _ _)
  · split
    · exact h.still (drop_still _ _ _)
    · split
      case h_5 =>
        split
        · exact jointTest_undrawn h _ _
        · exact presentMeter_undrawn h _ _ _
        · exact h.still (presentUplink_still _ _ _)
      all_goals exact h.still (presentEgress_still _ _ _)

/-! ## The request tracker (R30, R87 to R95) -/

theorem trackNew_undrawn (h : Undrawn s t) (p : Passage) (copy : LookupCopy) (n : Fin 32) (tag : BitVec 32) :
    Undrawn s (trackNew p copy n tag t) := by
  unfold trackNew
  dsimp only
  split
  · exact h.still (offer_still _ _)
  · split
    · exact (h.still (offer_still _ _)).still (sendTracked_still _ _ _)
    · exact (h.keep.still (offer_still _ _)).still (sendTracked_still _ _ _)

theorem trackFrame_undrawn (h : Undrawn s t) (p : Passage) (copy : LookupCopy) : Undrawn s (trackFrame p copy t) := by
  have hkeyed (n : Fin 32) : Undrawn s (trackKeyed p copy n t) := by
    unfold trackKeyed
    dsimp only
    split
    · split
      · exact h.keep.still (sendTracked_still _ _ _)
      · exact trackNew_undrawn h _ _ _ _
    · exact trackNew_undrawn h _ _ _ _
  unfold trackFrame
  dsimp only
  repeat' split
  case h_2.isFalse.isFalse => exact hkeyed _
  all_goals exact h.still (drop_still _ _ _)

theorem replyFrame_undrawn (h : Undrawn s t) (p : Passage) (i : Fin 64) (r : OpenRequest) :
    Undrawn s (replyFrame p i r t) := by
  have hfreed (o : Occurrence) : Undrawn s ((if r.state = .heldOver then offer o t else t).setSlot i none) :=
    ((h.still (offer_still _ _)).ite h).keep
  unfold replyFrame
  dsimp only
  split
  · exact h.still (drop_still _ _ _)
  · split
    · exact (hfreed _).still (drop_still _ _ _)
    · exact (hfreed _).still (presentEgress_still _ _ _)

theorem expireWaiting_undrawn (h : Undrawn s t) (i : Fin 64) (r : OpenRequest) : Undrawn s (expireWaiting i r t) := by
  unfold expireWaiting
  exact ((h.still (noticed_still _ _ t)).keep.still (heldOverAfter_still _ _ _)).ite (h.keep.still (offer_still _ _))

/-! ## The night engine (R121 to R140) -/

/-- R131: send events leave the engine's state as it was. -/
theorem sendWhile_state (n : Nat) (s : State) : (sendWhile n s).night.state = s.night.state := by
  induction n generalizing s with
  | zero => rfl
  | succ n ih =>
    unfold sendWhile
    split
    · rw [ih, sendRecords_night]
      rfl
    · rfl

theorem asleep_generator (h : t.asleep = s.asleep) : t.night.generator = s.night.generator :=
  show t.asleep.night.generator = s.asleep.night.generator by rw [h]

/-- R131, R133: what follows at the engine enters no state but SETTLING. -/
theorem nightFollow_undrawn (h : Undrawn s t) : Undrawn s (nightFollow t) := by
  refine ⟨(asleep_generator (nightFollow_asleep t)).trans h.generator, fun hb => h.state ?_⟩
  rw [← sendWhile_state t.night.window t, ← hb]
  unfold nightFollow completionTest at hb ⊢
  split at hb
  · cases hb
  · next hnot => rw [if_neg hnot]

theorem placeCall_undrawn (h : Undrawn s t) (n : Nat) : Undrawn s (placeCall n t) := by
  have hnight : (placeCall n t).night = t.called n := (still_night (placeCall_still n t)).trans rfl
  exact h.enter (by rw [hnight]; rfl) (by rw [hnight]; nofun)

theorem nightCall_undrawn (h : Undrawn s t) : Undrawn s (nightCall t) := (placeCall_undrawn h _).ite h

theorem grantTaken_undrawn (h : Undrawn s t) (window : Byte) : Undrawn s (grantTaken window t) := by
  unfold grantTaken
  split
  · exact h.enter rfl nofun
  · next hstate => exact h.enter rfl (by rw [hstate]; nofun)
  · exact h

theorem takeAck_undrawn (h : Undrawn s t) (a : Station) (n : Seq) : Undrawn s (takeAck a n t) := by
  have hremoved : Undrawn s (removeAcked (t.journal.covered n) t) :=
    (h.keep (u := t.withoutOldest (t.journal.covered n))).quiet (removeAcked_quiet _ t)
  have htimed : Undrawn s (ackTimerAfter (t.journal.covered n) (removeAcked (t.journal.covered n) t)) :=
    ⟨hremoved.generator, hremoved.state⟩
  exact (h.still (offer_still _ _)).ite ((nightFollow_undrawn htimed).ite hremoved)

theorem closeSession_undrawn (h : Undrawn s t) : Undrawn s (closeSession t) := by
  have hnight : (closeSession t).night = t.night.enter .idle := (still_night (closeSession_still t)).trans rfl
  exact h.enter (by rw [hnight]; rfl) (by rw [hnight]; nofun)

theorem finishSession_undrawn (h : Undrawn s t) : Undrawn s (finishSession t) := (closeSession_undrawn h).ite h

/-! ## The label engine (R137 to R154) -/

theorem takeUpdates_undrawn (a : Station) (ws : List LabelWire) (h : Undrawn s t) :
    Undrawn s (takeUpdates a ws t).1 := by
  induction ws generalizing t with
  | nil => exact h
  | cons w ws ih =>
    unfold takeUpdates
    split
    · exact ih ((h.keep (u := t.superseding w)).still (offer_still _ _))
    · split
      · exact ih h.keep
      · exact h

theorem deliveries_undrawn (h : Undrawn s t) : Undrawn s (deliveries t) :=
  let ⟨_, hl⟩ := deliveries_still t
  h.keep.still hl

theorem labelRecovery_undrawn (h : Undrawn s t) : Undrawn s (labelRecovery t) := h.keep.quiet (labelRecovery_quiet t)

theorem freeLabelBlock_undrawn (h : Undrawn s t) : Undrawn s (freeLabelBlock t) :=
  h.keep.quiet (compareChanged_quiet .label t.pool.labelHeld { t with pool := t.pool.freeLabel 1 })

theorem giveUp_undrawn (h : Undrawn s t) (v : LabelUpdate) (why : GivenUp) (o : Origin) :
    Undrawn s (giveUp v why o t) := by
  have hfreed := freeLabelBlock_undrawn h
  have hlost : Undrawn s (loseOldest (freeLabelBlock t)) := by
    unfold loseOldest
    exact hfreed.ite ((hfreed.keep.still (offer_still _ _)).still (raise_still _ _))
  exact hlost.keep.still (offer_still _ _)

theorem returnUpdate_undrawn (h : Undrawn s t) (v : LabelUpdate) (o : Origin) : Undrawn s (returnUpdate v o t) := by
  unfold returnUpdate
  exact ((freeLabelBlock_undrawn h).still (offer_still _ _)).ite h.keep

theorem takeOutcome_undrawn (h : Undrawn s t) (number : BitVec 24) (x : LabelOutcome) (o : Origin) :
    Undrawn s (takeOutcome number x o t) := by
  have hlanded : Undrawn s (t.landed number) := h.keep
  unfold takeOutcome
  split
  · exact h.still (offer_still _ _)
  · refine deliveries_undrawn ?_
    unfold applyOutcome
    split
    · exact (freeLabelBlock_undrawn hlanded).still (offer_still _ _)
    · exact giveUp_undrawn hlanded _ _ _
    · exact (giveUp_undrawn hlanded _ _ _).ite (returnUpdate_undrawn hlanded _ _)

/-! ## Clock and schedule (R159 to R166) -/

theorem act_undrawn (h : Undrawn s t) (action : ScheduleAction) (o : LevelOrigin) : Undrawn s (act action o t) := by
  by_cases hcall : action = .call
  · subst hcall
    exact nightCall_undrawn h
  · exact h.keep ((act_acts action o t).night hcall)

theorem fireEntries_undrawn (h : Undrawn s t) : Undrawn s (fireEntries t) := by
  unfold fireEntries
  exact (foldl_undrawn (fun _ _ h => (act_undrawn h _ _).ite h) _ h).ite h

theorem replay_undrawn (h : Undrawn s t) : Undrawn s (replay t) := by
  refine foldl_undrawn (fun t k h => ?_) _ h
  unfold replayKind
  split
  · exact h
  · exact act_undrawn h _ _

theorem clockSet_undrawn (h : Undrawn s t) (day second : Nat) : Undrawn s (clockSet day second t) := by
  unfold clockSet
  exact (replay_undrawn h.keep).ite h.keep

end Sys2Proof.Machine

/-! SUPPORT. R125, R127: no message, no record of a till and no received frame draws a backoff delay or enters BACKOFF. -/

namespace Sys2Proof.Machine

/- The proofs below run one after another: run together, their waiting threads outgrow the memory a check may use. -/
set_option Elab.async false

variable {s t u : State}

/-! ## Messages (R120, R146) -/

theorem ifTaken_undrawn (h : Undrawn s t) (m : NightSource) (inRange : Bool) {take : State → State}
    (ht : Undrawn s (take t)) : Undrawn s (ifTaken m inRange take t) := ht.ite (h.still (offer_still _ _))

theorem wakeMessage_undrawn (h : Undrawn s t) (m : NightSource) : Undrawn s (wakeMessage m t) :=
  ifTaken_undrawn h m _ (nightCall_undrawn h)

/-- R161: a GRANT may set the clock, and a replay follows. -/
theorem grantMessage_undrawn (h : Undrawn s t) (m : NightSource) (window : Byte) (day : BitVec 16)
    (second : BitVec 32) : Undrawn s (grantMessage m window day second t) := by
  have htaken := grantTaken_undrawn h window
  refine ifTaken_undrawn h m _ ?_
  unfold takeGrant
  exact (nightFollow_undrawn ((clockSet_undrawn htaken _ _).ite htaken)).ite h

theorem ackMessage_undrawn (h : Undrawn s t) (m : NightSource) (n : Seq) : Undrawn s (ackMessage m n t) :=
  ifTaken_undrawn h m _ (takeAck_undrawn h _ _)

theorem labelsMessage_undrawn (h : Undrawn s t) (m : NightSource) (batch : BitVec 32) (ws : List LabelWire) :
    Undrawn s (labelsMessage m batch ws t) := by
  have hacked : Undrawn s (labelsAcked batch t.pool.labelHeld (takeUpdates m.station ws t)) :=
    (takeUpdates_undrawn m.station ws h).quiet (labelsAcked_quiet _ _ _)
  exact ifTaken_undrawn h m _ ((deliveries_undrawn hacked).ite (h.still (offer_still _ _)))

theorem finishMessage_undrawn (h : Undrawn s t) (m : NightSource) : Undrawn s (finishMessage m t) :=
  ifTaken_undrawn h m _ (finishSession_undrawn h)

theorem overUplink_undrawn (h : Undrawn s t) (a : Station) {take : State → State} (ht : Undrawn s (take t)) :
    Undrawn s (overUplink a take t) := h.ite ((h.still (drop_still _ _ _)).ite ht)

theorem nightDatagram_undrawn (h : Undrawn s t) (a : Station) (b : NetAddr) (v : Service) (payload : Bytes) :
    Undrawn s (nightDatagram a b v payload t) := by
  unfold nightDatagram
  split
  · exact wakeMessage_undrawn h _
  · exact grantMessage_undrawn h _ _ _ _
  · exact ackMessage_undrawn h _ _
  · exact labelsMessage_undrawn h _ _ _
  · exact finishMessage_undrawn h _
  · exact h.still (offer_still _ _)

theorem outcomeMessage_undrawn (h : Undrawn s t) (a : Station) (n : BitVec 24) (v : Byte) :
    Undrawn s (outcomeMessage a n v t) := by
  unfold outcomeMessage
  split
  · exact h.still (drop_still _ _ _)
  · exact (h.still (drop_still _ _ _)).ite (takeOutcome_undrawn h _ _ _)

theorem overLabel_undrawn (h : Undrawn s t) (a : Station) {take : State → State} (ht : Undrawn s (take t)) :
    Undrawn s (overLabel a take t) :=
  h.ite ((h.still (drop_still _ _ _)).ite ((h.still (drop_still _ _ _)).ite ht))

theorem baseStationDatagram_undrawn (h : Undrawn s t) (a : Station) (payload : Bytes) :
    Undrawn s (baseStationDatagram a payload t) := by
  unfold baseStationDatagram
  split
  · exact deliveries_undrawn h.keep
  · exact outcomeMessage_undrawn h _ _ _
  · exact h.still (drop_still _ _ _)

/-! ## The spool unit (R101 to R107) -/

theorem appendNew_undrawn (h : Undrawn s t) (p : Passage) (copy : LookupCopy) (n : Fin 32) (number : Seq) :
    Undrawn s (appendNew p copy n number t) := by
  have happended (payload : Bytes) : Undrawn s (append n number payload t) :=
    Undrawn.quiet (h.keep (u := ({ t with
      journal := { t.journal with
        records := t.journal.records ++ [newRecord t n number payload], nextSeq := t.journal.nextSeq + 1 }
      pool := t.pool.takeJournal (blocksFor payload.length) } : State).withLastAccepted n number))
      (compareChanged_quiet _ _ _)
  unfold appendNew
  dsimp only
  split
  · exact nightFollow_undrawn ((happended _).still (answerTill_still ..))
  · exact h.still (answerTill_still ..)

theorem checkRecord_undrawn (h : Undrawn s t) (p : Passage) (copy : LookupCopy) (n : Fin 32) :
    Undrawn s (checkRecord p copy n t) := by
  unfold checkRecord deduplicate
  dsimp only
  repeat' split
  case h_1 => exact appendNew_undrawn h _ _ _ _
  case h_2.isFalse.isTrue => exact appendNew_undrawn h _ _ _ _
  case h_2.isFalse.isFalse => exact appendNew_undrawn (h.still (offer_still _ _)) _ _ _ _
  all_goals exact h.still (answerTill_still ..)

theorem spoolFrame_undrawn (h : Undrawn s t) (p : Passage) (copy : LookupCopy) : Undrawn s (spoolFrame p copy t) := by
  unfold spoolFrame
  dsimp only
  repeat' split
  case h_2.isFalse.isFalse.isFalse => exact checkRecord_undrawn h _ _ _
  all_goals exact h.still (drop_still _ _ _)

/-! ## The receive path (R5 to R12, R25, R71 to R73, R91) -/

theorem joinRequests_undrawn (h : Undrawn s t) (port : Segment) (a : Station) (r : Request) :
    Undrawn s (joinRequests port a r t) := by
  unfold joinRequests setAlertDestination
  split
  · split
    · exact h.keep.still (alertTest_still _)
    · exact h.keep
  · exact h.still (offer_still _ _)

theorem lookupFrame_undrawn (h : Undrawn s t) (p : Passage) : Undrawn s (lookupFrame p t) := by
  have hlooked : Undrawn s (t.lookedUp p) := h.keep.still (lookedUp_still t p)
  rw [lookupFrame_eq]
  unfold takeAction
  split
  · exact forwardFrame_undrawn hlooked _ _
  · exact trackFrame_undrawn hlooked _ _
  · exact spoolFrame_undrawn hlooked _ _
  · exact hlooked.still (drop_still _ _ _)

theorem passOn_undrawn (h : Undrawn s t) (p : Passage) : Undrawn s (passOn p t) := by
  unfold passOn
  split
  · split
    · exact replyFrame_undrawn h _ _ _
    · exact lookupFrame_undrawn h _
  · exact lookupFrame_undrawn h _

theorem deliverLocal_undrawn (p : Passage) (h : Undrawn s t) : Undrawn s (deliverLocal p t) := by
  have hdropped (r : DropReason) (o : Origin) : Undrawn s (drop r o t) := h.still (drop_still r o t)
  have hnight := nightDatagram_undrawn h (sourceStation p.bytes) p.ip.source (p.ip.sourceService.getD 0)
    (udpPayload p.bytes p.ip)
  have hlabel := baseStationDatagram_undrawn h (sourceStation p.bytes) (udpPayload p.bytes p.ip)
  have hrunning : Undrawn s (deliverRunning p t) := (hnight.ite (hdropped _ _)).ite
    ((hlabel.ite (hdropped _ _)).ite ((hdropped _ _).ite (passOn_undrawn h p)))
  unfold deliverLocal
  exact ((joinRequests_undrawn h _ _ _).ite (hdropped _ _)).ite (hrunning.ite (hdropped _ _))

/-- R8, R9, R71 to R73: what follows the source check follows it in a state with the engine as it was. -/
theorem sourceCheck_undrawn (h : Undrawn s t) {next : Option (Fin 32) → State → State}
    (hn : ∀ i u, Undrawn s u → Undrawn s (next i u)) (port : Segment) (a : Station) (b : NetAddr) (n : Nat) :
    Undrawn s (sourceCheck port a b n next t) := by
  have hdropped (r : DropReason) (o : Origin) : Undrawn s (drop r o t) := h.still (drop_still r o t)
  have hunknown : Undrawn s (unknownGuest a b n (next none) t) := by
    unfold unknownGuest
    refine (hdropped _ _).ite ((hn _ _ h.keep).ite ?_)
    split
    · exact hdropped _ _
    · next v _ =>
      have hevicted : Undrawn s (t.withTable (without t.guest.table v.station)) := h.keep
      exact hn _ _ (hevicted.still (offer_still _ _)).keep
  have hguest : Undrawn s (guestSource a b n (next none) t) := by
    unfold guestSource knownGuest
    refine (hdropped _ _).ite ((hdropped _ _).ite ?_)
    split
    · exact (hdropped _ _).ite ((hdropped _ _).ite (hn _ _ h.keep))
    · exact hunknown
  unfold sourceCheck
  split
  · exact hn _ _ h
  · split
    · split
      · exact hn _ _ h
      · exact hdropped _ _
    · exact hguest
    · exact hn _ _ h

theorem receiveFrame_undrawn (h : Undrawn s t) (port : Segment) (fcs : Bool) (bs : Bytes) :
    Undrawn s (receiveFrame port fcs bs t) := by
  have hsorted {t : State} (h : Undrawn s t) : Undrawn s (sortFrame port bs t) := by
    have hdropped : Undrawn s (drop .unsupported (receivedOrigin port (sourceStation bs)) t) :=
      h.still (drop_still _ _ t)
    have hipv4 : Undrawn s (ipv4Frame port bs t) := by
      unfold ipv4Frame
      split
      · exact hdropped
      · exact sourceCheck_undrawn h (fun _ _ => deliverLocal_undrawn _) _ _ _ _
    have harp : Undrawn s (sourceCheck port (sourceStation bs) (word32 bs 28) bs.length
        (fun _ u => arpFrame port bs u) t) :=
      sourceCheck_undrawn h (fun _ u hu => hu.still (arpFrame_still _ _ u)) _ _ _ _
    exact (hdropped.ite hipv4).ite (harp.ite ((joinRequests_undrawn h _ _ _).ite hdropped))
  unfold receiveFrame
  exact h.ite ((h.still (offer_still _ _)).ite (h.ite (hsorted (h.still (offer_still _ _)))))

end Sys2Proof.Machine

/-! SUPPORT. R125: which commands draw a backoff delay, the expiry of the call timer and of the ack timer and link loss on
UPLINK, and what they draw. -/

namespace Sys2Proof.Machine

/- The proofs below run one after another: run together, their waiting threads outgrow the memory a check may use. -/
set_option Elab.async false

variable {c : Instr} {s t u : State}

/-! ## The command event (R183, R188) -/

section
variable {q : Requester} {i : Instr} {code : Nat} {run : State → CmdResult}

theorem openCommand_undrawn (hrun : ∀ t, Undrawn s t → Undrawn s (run t).state) :
    Undrawn s (openCommand q i code run s) :=
  (hrun _ ((Undrawn.refl s).keep (takeRequest_night i s))).still (openCommand_still q i code run s)

theorem lockedCommand_undrawn (hrun : ∀ t, Undrawn s t → Undrawn s (run t).state) :
    Undrawn s (lockedCommand q i code run s) :=
  openCommand_undrawn fun t ht => by
    split
    · exact (hrun t ht).keep
    · exact ht

/-- A command whose run leaves the night engine as it was. -/
theorem openCommand_night_kept (h : ∀ t, (run t).state.night = t.night) : Undrawn s (openCommand q i code run s) :=
  openCommand_undrawn fun t ht => ht.keep (h t)

/-- A lock-requiring command whose run leaves the night engine as it was. -/
theorem lockedCommand_night_kept (h : ∀ t, (run t).state.night = t.night) : Undrawn s (lockedCommand q i code run s) :=
  lockedCommand_undrawn fun t ht => ht.keep (h t)

end

/-! ## The writes (R187) -/

section
variable {α : Type} {first : BitVec 32} {entries : List α}

/-- A write of a table with one index whose entry leaves the night engine as it was. -/
theorem writeSingle_night {take : α → State → CmdResult} (h : ∀ w s, (take w s).state.night = s.night) (s : State) :
    (writeSingle first entries take s).state.night = s.night :=
  writeSingle_state (P := fun t => t.night = s.night) rfl fun w => h w s

/-- A write of a table with several indices whose entries leave the night engine as it was. -/
theorem writeMany_night {low high : Nat} {take : State → CmdResult} (h : (take s).state.night = s.night) :
    (writeMany low high first entries take s).state.night = s.night :=
  writeMany_state (P := fun t => t.night = s.night) rfl h

theorem writeNamed_night {low high : Nat} {fault : Option Nat} {take : State → CmdResult}
    (h : (take s).state.night = s.night) : (writeNamed low high first entries fault take s).state.night = s.night :=
  writeNamed_state (P := fun t => t.night = s.night) rfl h

end

/-- R147: a PORTS write is followed by delivery events. -/
theorem writePortsRun_undrawn (h : Undrawn s t) (first : BitVec 32) (es : List PortsWrite) :
    Undrawn s (writePortsRun first es t).state := by
  refine writeSingle_state h fun w => ?_
  unfold writePortsEntry
  split
  · exact h
  · split
    · exact h
    · split
      · exact h
      · exact deliveries_undrawn h.keep

theorem writeMetersRun_undrawn (h : Undrawn s t) (first : BitVec 32) (es : List MeterWrite) :
    Undrawn s (writeMetersRun first es t).state := by
  refine writeMany_state h ?_
  dsimp only
  split
  · exact h
  · exact foldl_undrawn (fun _ _ h => setMeter_undrawn h _ _) _ h

/-- R119: a NIGHT write changes the settings alone. -/
theorem writeNightRun_undrawn (h : Undrawn s t) (first : BitVec 32) (es : List NightWrite) :
    Undrawn s (writeNightRun first es t).state := writeSingle_state h fun _ => ⟨h.generator, h.state⟩

theorem writeOfficeRun_night (first : BitVec 32) (es : List OfficeStation) (s : State) :
    (writeOfficeRun first es s).state.night = s.night := by
  refine writeMany_night ?_
  dsimp only
  split <;> rfl

theorem writeWindowRun_night (k : BankId) (first : BitVec 32) (es : List WindowWrite) (s : State) :
    (writeWindowRun k first es s).state.night = s.night := by
  unfold writeWindowRun
  split
  · rfl
  · exact writeNamed_night rfl

theorem writeDefaultsRun_night (k : BankId) (first : BitVec 32) (es : List DefaultWrite) (s : State) :
    (writeDefaultsRun k first es s).state.night = s.night := by
  unfold writeDefaultsRun
  split
  · rfl
  · exact writeNamed_night rfl

theorem writeIdentityRun_night (first : BitVec 32) (es : List (BitVec 32)) (s : State) :
    (writeIdentityRun first es s).state.night = s.night := by
  refine writeMany_night ?_
  dsimp only
  split <;> rfl

theorem writeScheduleRun_night (first : BitVec 32) (es : List ScheduleWrite) (s : State) :
    (writeScheduleRun first es s).state.night = s.night := by
  refine writeMany_night ?_
  split <;> rfl

theorem writeThresholdsRun_night (first : BitVec 32) (es : List PairWrite) (s : State) :
    (writeThresholdsRun first es s).state.night = s.night := writeMany_night rfl

theorem writeTillsRun_night (first : BitVec 32) (es : List TillWrite) (s : State) :
    (writeTillsRun first es s).state.night = s.night := writeNamed_night (by simp only [doneClamped])

/-- R187: what the bytes of a WRITE spell does what the write of its table does. -/
theorem writeRunOf_undrawn {q : Requester} {table : Byte} {first : BitVec 32} {count : BitVec 16} {data : Bytes}
    {run : State → CmdResult} (hrun : writeRunOf q table first count data = some run) (h : Undrawn s t) :
    Undrawn s (run t).state := by
  unfold writeRunOf at hrun
  split at hrun <;> cases hrun
  case h_1 => exact writePortsRun_undrawn h _ _
  case h_2 => exact h.keep (writeOfficeRun_night _ _ t)
  case h_3 => exact h.keep (writeWindowRun_night _ _ _ t)
  case h_4 => exact h.keep (writeDefaultsRun_night _ _ _ t)
  case h_5 => exact h.keep (writeIdentityRun_night _ _ t)
  case h_7 => exact writeMetersRun_undrawn h _ _
  case h_8 => exact h.keep (writeThresholdsRun_night _ _ t)
  case h_10 => exact h.keep (writeTillsRun_night _ _ t)
  case h_13 => exact writeNightRun_undrawn h _ _
  case h_15 => exact h.keep (writeScheduleRun_night _ _ t)
  case h_18 => exact h
  all_goals exact h.keep (writeSingle_night (fun _ _ => rfl) t)

/-! ## The other commands -/

theorem withCursor_night (s : State) (p : Party) (x : Cursor) : (s.withCursor p x).night = s.night := by
  cases p <;> rfl

theorem readTable_night (q : Requester) (table : Byte) (first : BitVec 32) (count : BitVec 16) (s : State) :
    (readTable q table first count s).state.night = s.night := by
  unfold readTable
  split
  · rfl
  · split
    · rfl
    · exact withCursor_night _ _ _

theorem readOn_night (q : Requester) (count : BitVec 16) (s : State) : (readOn q count s).state.night = s.night := by
  unfold readOn
  split
  · rfl
  · exact withCursor_night _ _ _

theorem swapRun_night (s : State) : (swapRun s).state.night = s.night := by
  unfold swapRun
  split <;> rfl

theorem barRun_night (a : Station) (s : State) : (barRun a s).state.night = s.night := by
  unfold barRun
  split <;> rfl

theorem unbarRun_night (a : Station) (s : State) : (unbarRun a s).state.night = s.night := by
  unfold unbarRun
  split
  · rfl
  · split <;> rfl

theorem configureRun_night (ws : Vector CounterWrite 8) (g : GroupControls) (s : State) :
    (configureRun ws g s).state.night = s.night := by
  unfold configureRun
  split <;> rfl

theorem startRun_night (form : Byte) (s : State) : (startRun form s).state.night = s.night := by
  unfold startRun
  split <;> rfl

theorem clearRun_night (ns : List Byte) (s : State) : (clearRun ns s).state.night = s.night := by
  unfold clearRun
  split <;> rfl

theorem alertClearRun_night (xs : List Byte) (s : State) : (alertClearRun xs s).state.night = s.night := by
  unfold alertClearRun
  split <;> rfl

theorem claimRun_night (p : Party) (s : State) : (claimRun p s).state.night = s.night := by
  unfold claimRun
  split <;> rfl

theorem releaseRun_night (p : Party) (s : State) : (releaseRun p s).state.night = s.night := by
  unfold releaseRun
  split <;> rfl

/-- R116: JOURNAL DISCARD leaves the engine as it was. -/
theorem discardRun_night (s : State) : (discardRun s).state.night = s.night := by
  unfold discardRun
  split
  · exact (quiet_night (compareChanged_quiet _ _ _)).trans rfl
  · rfl

theorem profileRun_night (v : Byte) (s : State) : (profileRun v s).state.night = s.night := by
  unfold profileRun
  split
  · exact (act_acts .dayProfile .command s).night nofun
  · exact (act_acts .nightProfile .command s).night nofun
  · rfl

theorem labelsRun_night (v : Byte) (s : State) : (labelsRun v s).state.night = s.night := by
  unfold labelsRun
  split
  · next g _ =>
    obtain ⟨_, hl⟩ := setLabelWindow_quiet g .command s
    exact (quiet_night hl).trans rfl
  · rfl

theorem guestRun_night (v : Byte) (s : State) : (guestRun v s).state.night = s.night := by
  unfold guestRun
  split
  · exact (congrArg State.night (setGuestState_eq _ .command s)).trans rfl
  · rfl

theorem openRun_undrawn (h : Undrawn s t) : Undrawn s (openRun t).state := by
  have hopened : Undrawn s (t.withPart .running) := h.keep
  unfold openRun
  split
  · exact h
  · exact (replay_undrawn hopened).ite hopened

/-- R17, R135: the forced stop leads to IDLE. -/
theorem closeRun_undrawn (h : Undrawn s t) : Undrawn s (closeRun t).state := by
  have hclosing : Undrawn s t.closing := h.keep
  have hstopped : Undrawn s (forcedStop t.closing) := hclosing.ite (closeSession_undrawn hclosing)
  unfold closeRun
  split
  · exact labelRecovery_undrawn (hstopped.keep (u := (forcedStop t.closing).trackerEmptied))
  · exact h

/-- R18, R140: forwarding restart leads to IDLE. -/
theorem restartPart_undrawn (h : Undrawn s t) : Undrawn s (restartPart t) := by
  have hrestarting : Undrawn s t.restarting := h.keep
  have hmeters : Undrawn s (meterList.foldl restartMeter t.restarting) :=
    foldl_undrawn (fun _ _ h => setMeter_undrawn h _ _) _ hrestarting
  rw [restartPart_eq]
  exact labelRecovery_undrawn (hmeters.enter rfl nofun)

theorem callRun_undrawn (h : Undrawn s t) : Undrawn s (callRun t).state := by
  unfold callRun
  split
  · exact nightCall_undrawn h
  · exact h

theorem stopRun_undrawn (h : Undrawn s t) : Undrawn s (stopRun t).state := by
  unfold stopRun
  split
  · exact h
  · exact closeSession_undrawn h

theorem adjustQueuesRun_undrawn (h : Undrawn s t) (w : QueueLimitsWrite) :
    Undrawn s (adjustQueuesRun w t).state := by
  unfold adjustQueuesRun
  split
  · exact h
  · exact nightFollow_undrawn h.keep

theorem afterLinkUp_undrawn (h : Undrawn s t) (g : Segment) : Undrawn s (afterLinkUp g t) := by
  have hdeparted : Undrawn s (if g = .uplink then nightFollow (depart t) else t) :=
    (nightFollow_undrawn (h.still (depart_still t))).ite h
  unfold afterLinkUp
  exact (hdeparted.still (alertTest_still _)).ite hdeparted

/-! ## The draw (R124, R125, R132, R136) -/

/-- R125: BACKOFF is entered, with the generator's next value drawn and the delay it gives started at the tick. -/
structure Draws (s t : State) : Prop where
  before : s.night.state ≠ .backoff
  state : t.night.state = .backoff
  attempts : t.night.attempts = s.night.attempts
  generator : t.night.generator = nextGenerator s.night.generator
  timer : t.night.backoffTimer = some ⟨s.tick, backoffDelay t.night.generator s.night.attempts⟩

/-- R124, R132: a failed call or session draws a delay or leads to FAILED. -/
theorem failSession_draws (hstate : s.night.state ≠ .backoff) :
    Undrawn s (failSession { s with night := s.night.retried })
      ∨ Draws s (failSession { s with night := s.night.retried }) := by
  have hgenerator : s.night.retried.generator = s.night.generator := by rw [retried_eq]
  have hattempts := retried_attempts s.night
  unfold failSession
  split
  · refine .inr ⟨hstate, rfl, hattempts, congrArg nextGenerator hgenerator, ?_⟩
    rw [← hattempts]
    rfl
  · refine .inl ((Undrawn.refl s).enter ?_ ?_)
    · rw [still_night (raise_still _ _)]
      exact hgenerator
    · rw [still_night (raise_still _ _)]
      nofun

theorem ackExpires_draws (hstate : s.night.state = .draining) :
    Undrawn s (ackExpires s) ∨ Draws s (ackExpires s) := by
  by_cases hlimit : s.night.shortRetries < s.night.settings.shortLimit
  · rw [ackExpires_retries hlimit]
    refine .inl (nightFollow_undrawn ⟨?_, fun hb => ?_⟩)
    · rw [State.retrying, retried_eq]
    · rw [State.retrying, retried_eq] at hb
      exact hb
  · rw [ackExpires_fails (Nat.le_of_not_lt hlimit)]
    exact failSession_draws (by rw [hstate]; nofun)

/-- R136: link loss on UPLINK draws a delay in a session. -/
theorem nightLinkLoss_draws (hnight : u.night = s.night) (htick : u.tick = s.tick) :
    Undrawn s (nightLinkLoss u) ∨ Draws s (nightLinkLoss u) := by
  by_cases hsession : u.night.state = .calling ∨ u.night.state = .draining ∨ u.night.state = .settling
  · have hlost : nightLinkLoss u = { u with night := u.night.backedOff u.tick } := if_pos hsession
    have hbefore : s.night.state ≠ .backoff := fun hb => by simp [hnight, hb] at hsession
    rw [hlost, hnight, htick]
    exact .inr ⟨hbefore, rfl, rfl, rfl, rfl⟩
  · have hkept : nightLinkLoss u = u := if_neg hsession
    rw [hkept]
    exact .inl ((Undrawn.refl s).keep hnight)

theorem afterLinkLoss_draws (g : Segment) (hnight : u.night = s.night) (htick : u.tick = s.tick) :
    Undrawn s (afterLinkLoss g u) ∨ Draws s (afterLinkLoss g u) := by
  have same : Undrawn s u := (Undrawn.refl s).keep hnight
  cases g with
  | uplink => exact nightLinkLoss_draws (u := u.uplinkEmptied) hnight htick
  | label => exact .inl (labelRecovery_undrawn (same.keep (u := u.withEgress .label [])))
  | till => exact .inl same.keep
  | guest => exact .inl same.keep
  | office => exact .inl same.keep

/-! ## Every command -/

/-- R125: every command but device reset leaves the draw alone, or draws at an entry into BACKOFF. -/
theorem exec_draws (h : exec c s = .next t) (hreset : c ≠ .deviceReset) : Undrawn s t ∨ Draws s t := by
  have same : Undrawn s s := .refl s
  have of_ite {p : Prop} [Decidable p] {t : State} (h : p → Undrawn s t ∨ Draws s t) :
      Undrawn s (if p then t else s) ∨ Draws s (if p then t else s) := by
    split
    · next hp => exact h hp
    · exact .inl same
  cases c <;> cases h
  case deviceReset => exact absurd rfl hreset
  case linkLoss g => exact of_ite fun _ => afterLinkLoss_draws g rfl rfl
  case callTimerExpiry => exact of_ite fun hp => failSession_draws (by rw [hp.1]; nofun)
  case ackTimerExpiry => exact of_ite fun hp => ackExpires_draws hp.1
  all_goals refine .inl ?_
  case linkUp g v => exact afterLinkUp_undrawn same.keep g
  case frameReceived g fcs bs => exact receiveFrame_undrawn same g fcs bs
  case egressTransmissionEnd p => exact Undrawn.ite same.keep same
  case uplinkTransmissionEnd => exact (nightFollow_undrawn (same.keep.still (depart_still _))).ite same
  case msTickAdvance => exact same.keep
  case meterRelease m =>
    have hreleased := releaseMeter_undrawn same m
    exact same.ite ((nightFollow_undrawn hreleased).ite hreleased)
  case guestAging => exact Undrawn.ite same.keep same
  case secondAdvance => exact (fireEntries_undrawn same.keep).ite same
  case waitingExpiry i =>
    split
    · exact expireWaiting_undrawn same _ _
    · exact same
  case heldOverExpiry i =>
    split
    · exact same.keep.still (offer_still _ _)
    · exact same
  case wake m => exact overUplink_undrawn same _ (wakeMessage_undrawn same m)
  case grant m w d x => exact overUplink_undrawn same _ (grantMessage_undrawn same m w d x)
  case ack m n => exact overUplink_undrawn same _ (ackMessage_undrawn same m n)
  case labelsMessage m b ws => exact overUplink_undrawn same _ (labelsMessage_undrawn same m b ws)
  case finish m => exact overUplink_undrawn same _ (finishMessage_undrawn same m)
  case backoffTimerExpiry => exact (placeCall_undrawn same _).ite same
  case settleTimerExpiry => exact (closeSession_undrawn same).ite same
  case ready a n => exact overLabel_undrawn same _ (deliveries_undrawn same.keep)
  case outcome a n v => exact overLabel_undrawn same _ (outcomeMessage_undrawn same a n v)
  case pacingTimerExpiry => exact (deliveries_undrawn same.keep).ite same
  case outcomeTimeout n =>
    split
    · exact takeOutcome_undrawn same _ _ _
    · exact same
  case alertTimerExpiry => exact (same.keep.still (alertTest_still _)).ite same
  case leaseExpiry => exact Undrawn.ite same.keep same
  case write q x i n bs =>
    split
    · next hrun => exact lockedCommand_undrawn fun _ => writeRunOf_undrawn hrun
    · exact openCommand_night_kept fun _ => rfl
  case read q x i n => exact openCommand_night_kept (readTable_night q x i n)
  case readNext q n => exact openCommand_night_kept (readOn_night q n)
  case writePorts q i es => exact lockedCommand_undrawn fun _ h => writePortsRun_undrawn h i es
  case writeMeters q i es => exact lockedCommand_undrawn fun _ h => writeMetersRun_undrawn h i es
  case writeNight q i es => exact lockedCommand_undrawn fun _ h => writeNightRun_undrawn h i es
  case writeOfficeStations q i es => exact lockedCommand_night_kept (writeOfficeRun_night i es)
  case writeWindow q k i es => exact lockedCommand_night_kept (writeWindowRun_night k i es)
  case writeDefaults q k i es => exact lockedCommand_night_kept (writeDefaultsRun_night k i es)
  case writeBankIdentity q i es => exact lockedCommand_night_kept (writeIdentityRun_night i es)
  case writeThresholds q i es => exact lockedCommand_night_kept (writeThresholdsRun_night i es)
  case writeTills q i es => exact lockedCommand_night_kept (writeTillsRun_night i es)
  case writeSchedule q i es => exact lockedCommand_night_kept (writeScheduleRun_night i es)
  case swap q => exact lockedCommand_night_kept swapRun_night
  case openPart q => exact lockedCommand_undrawn fun _ => openRun_undrawn
  case closePart q => exact lockedCommand_undrawn fun _ => closeRun_undrawn
  case restart q => exact lockedCommand_undrawn fun _ => restartPart_undrawn
  case setClock q d x => exact lockedCommand_undrawn fun _ h => clockSet_undrawn h _ _
  case profile q v => exact lockedCommand_night_kept (profileRun_night v)
  case labels q v => exact lockedCommand_night_kept (labelsRun_night v)
  case guest q v => exact lockedCommand_night_kept (guestRun_night v)
  case call q => exact lockedCommand_undrawn fun _ => callRun_undrawn
  case stop q => exact lockedCommand_undrawn fun _ => stopRun_undrawn
  case journalDiscard q => exact lockedCommand_night_kept discardRun_night
  case adjustQueues q w => exact lockedCommand_undrawn fun _ h => adjustQueuesRun_undrawn h w
  case bar q a => exact lockedCommand_night_kept (barRun_night a)
  case unbar q a => exact lockedCommand_night_kept (unbarRun_night a)
  case countersConfigure q ws g => exact lockedCommand_night_kept (configureRun_night ws g)
  case countersStart q => exact lockedCommand_night_kept (startRun_night q.form)
  case countersClear q ns => exact lockedCommand_night_kept (clearRun_night ns)
  case alertClear q xs => exact lockedCommand_night_kept (alertClearRun_night xs)
  case claim q => exact openCommand_night_kept (claimRun_night q.party)
  case release q => exact openCommand_night_kept (releaseRun_night q.party)
  case identify => exact openCommand_night_kept fun _ => rfl
  case unknownCommand => exact openCommand_night_kept fun _ => rfl
  case labelClear => exact lockedCommand_night_kept fun _ => rfl
  all_goals exact lockedCommand_night_kept (writeSingle_night fun _ _ => rfl)

/-! ## The delay (R125) -/

theorem nextGenerator_toNat (g : BitVec 16) : (nextGenerator g).toNat = (25173 * g.toNat + 13849) % 65536 := by
  have hfactor : (25173 : BitVec 16).toNat = 25173 := by decide
  have hterm : (13849 : BitVec 16).toNat = 13849 := by decide
  rw [nextGenerator, BitVec.toNat_add, BitVec.toNat_mul, Nat.mod_add_mod, hfactor, hterm]

/-- R125: the table of the delay ranges, in which high - low equals low. -/
theorem backoffLow_of_range {attempts low high : Nat}
    (h : (attempts, low, high) ∈ [(1, 1000, 2000), (2, 2000, 4000), (3, 4000, 8000), (4, 8000, 16000),
        (5, 16000, 32000), (6, 32000, 64000)] ∨ (7 ≤ attempts ∧ low = 64000 ∧ high = 128000)) :
    backoffLow attempts = low ∧ high - low = low := by
  rcases h with h | ⟨hattempts, rfl, rfl⟩
  · simp only [List.mem_cons, Prod.mk.injEq, List.not_mem_nil, or_false] at h
    rcases h with ⟨rfl, rfl, rfl⟩ | ⟨rfl, rfl, rfl⟩ | ⟨rfl, rfl, rfl⟩ | ⟨rfl, rfl, rfl⟩ | ⟨rfl, rfl, rfl⟩
      | ⟨rfl, rfl, rfl⟩
    all_goals simp [backoffLow, clamp]
  · have hclamp : clamp 1 7 attempts = 7 := by
      rw [clamp_eq_max_min (by omega)]
      omega
    rw [backoffLow, hclamp]
    omega

/-- Settles O38: each command leaves the generator and enters no BACKOFF, or draws at its entry. -/
theorem backoffDelayIsDrawnAtEachEntry : Obligations.BackoffDelayIsDrawnAtEachEntry := by
  intro c s t h hreset
  rcases exec_draws h hreset with hkept | hdraws
  · exact ⟨fun hne => absurd hkept.generator hne, fun hbefore hafter => absurd (hkept.state hafter) hbefore⟩
  · refine ⟨fun _ => ⟨hdraws.before, hdraws.state⟩, fun _ _ => ⟨hdraws.attempts, ?generator, fun low high hrange => ?delay⟩⟩
    case generator => rw [hdraws.generator, nextGenerator_toNat]
    case delay =>
      obtain ⟨hlow, hspan⟩ := backoffLow_of_range hrange
      rw [hdraws.timer, backoffDelay, hlow, hspan]

end Sys2Proof.Machine

/-! SUPPORT. The bounds of the label lists: at most 16 updates in flight, and one update for each label number in either list
(R144, R145); and that every change of the stock keeps them. -/

namespace Sys2Proof.Machine

/- The proofs below run one after another: run together, their waiting threads outgrow the memory a check may use. -/
set_option Elab.async false

variable {s t : State}

/-! ## One update for each label number -/

/-- R144, R145: no two updates of a list have one label number. -/
def OneEach (updates : List LabelUpdate) : Prop := (updates.map (·.number)).Nodup

theorem holdsLabel_iff {updates : List LabelUpdate} {number : BitVec 24} :
    holdsLabel updates number = true ↔ number ∈ updates.map (·.number) := by
  simp only [holdsLabel, List.any_eq_true, beq_iff_eq, List.mem_map]

theorem holdsLabel_eq_false_iff {updates : List LabelUpdate} {number : BitVec 24} :
    holdsLabel updates number = false ↔ number ∉ updates.map (·.number) := by
  rw [← holdsLabel_iff, Bool.not_eq_true]

section
variable {updates : List LabelUpdate} (h : OneEach updates)
include h

theorem OneEach.sublist {rest : List LabelUpdate} (hrest : rest.Sublist updates) : OneEach rest :=
  List.Nodup.sublist (hrest.map _) h

/-- R137, R147, R150: an update for a new label number joins the tail. -/
theorem OneEach.join {u : LabelUpdate} (hu : holdsLabel updates u.number = false) : OneEach (updates ++ [u]) := by
  have hnew := holdsLabel_eq_false_iff.1 hu
  rw [OneEach, List.map_append, List.nodup_append']
  exact ⟨h, List.nodup_singleton _, List.disjoint_singleton.2 hnew⟩

/-- R144: an update superseded in its place keeps its label number. -/
theorem OneEach.supersedeIn (w : LabelWire) : OneEach (supersedeIn updates w) := by
  have hnumbers : (Machine.supersedeIn updates w).map (·.number) = updates.map (·.number) := by
    rw [Machine.supersedeIn, List.map_map]
    refine List.map_congr_left fun u _ => ?_
    show LabelUpdate.number (if u.number = w.number then u.superseded w else u) = u.number
    split <;> rfl
  rw [OneEach, hnumbers]
  exact h

/-- R154: of the updates in flight, those whose label number is not queued return to the head. -/
theorem OneEach.recovered {inFlight : List LabelUpdate} (hflight : OneEach inFlight) :
    OneEach ((inFlight.filter fun u => !holdsLabel updates u.number).map LabelUpdate.returned ++ updates) := by
  have hnumbers (l : List LabelUpdate) : (l.map LabelUpdate.returned).map (·.number) = l.map (·.number) := by
    rw [List.map_map]
    rfl
  rw [OneEach, List.map_append, hnumbers, List.nodup_append']
  refine ⟨hflight.sublist List.filter_sublist, h, fun number hreturned hqueued => ?_⟩
  obtain ⟨u, hu, rfl⟩ := List.mem_map.1 hreturned
  have hfree := (List.mem_filter.1 hu).2
  rw [holdsLabel_iff.2 hqueued] at hfree
  exact absurd hfree (by decide)

end

/-! ## The label lists of the stock (R144, R145) -/

/-- The label law, of the stock. -/
structure Stock.Labelled (x : Stock) : Prop where
  room : x.inFlight.length ≤ 16
  inFlight : OneEach x.inFlight
  queue : OneEach x.queue

/-- R144, R145: every change of the stock keeps the bounds of the label lists. -/
theorem Stock.Change.labelled {x y : Stock} (hc : x.Change y) (h : x.Labelled) : y.Labelled := by
  obtain ⟨hroom, hflight, hqueue⟩ := h
  cases hc with
  | reset => exact ⟨Nat.zero_le _, List.nodup_nil, List.nodup_nil⟩
  | queued u hnew _ => exact ⟨hroom, hflight, hqueue.join hnew⟩
  | superseded w => exact ⟨hroom, hflight, hqueue.supersedeIn w⟩
  | delivered u v hlt hfind hnumber =>
    have hfree : holdsLabel x.inFlight v.number = false := by
      have hdeliverable := List.find?_some hfind
      rwa [Bool.not_eq_true', ← hnumber] at hdeliverable
    refine ⟨?_, hflight.join hfree, hqueue.sublist List.eraseP_sublist⟩
    rw [List.length_append, List.length_singleton]
    exact hlt
  | freed number _ =>
    exact ⟨List.length_eraseP_le.trans hroom, hflight.sublist List.eraseP_sublist, hqueue⟩
  | returned u _ hnew =>
    exact ⟨List.length_eraseP_le.trans hroom, hflight.sublist List.eraseP_sublist, hqueue.join hnew⟩
  | recovered => exact ⟨Nat.zero_le _, List.nodup_nil, hqueue.recovered hflight⟩
  | appended | sent | rewound | acked | discarded => exact ⟨hroom, hflight, hqueue⟩

theorem labelLaw_iff : LabelLaw s ↔ s.stock.Labelled :=
  ⟨fun ⟨hroom, hflight, hqueue⟩ => ⟨hroom, hflight, hqueue⟩,
    fun ⟨hroom, hflight, hqueue⟩ => ⟨hroom, hflight, hqueue⟩⟩

/-- R144, R145: the label law goes on through every change of the stock. -/
theorem Stocks.labelLaw (h : Stocks s t) (hlaw : LabelLaw s) : LabelLaw t := by
  have key {y : Stock} (hy : Relation.ReflTransGen Stock.Change s.stock y) : y.Labelled := by
    induction hy with
    | refl => exact labelLaw_iff.1 hlaw
    | tail _ hc ih => exact hc.labelled ih
  exact labelLaw_iff.2 (key h)

/-- R183: a step is a command, or nothing where none waits. -/
theorem step_stocks (h : step s = .next t) : Stocks s t := by
  unfold step at h
  split at h
  · exact (Stocks.refl s).keep.trans (exec_stocks h)
  · split at h
    · exact exec_stocks h
    · cases h
      exact .refl s

/-- Settles O10: a step is changes of the stock, and each of them keeps the bounds of the label lists. -/
theorem everyStepKeepsTheLabelLaw : Obligations.EveryStepKeepsTheLabelLaw :=
  fun _ _ hlaw h => (step_stocks h).labelLaw hlaw

end Sys2Proof.Machine

/-! SUPPORT. The messages of the base station and the expiry of the pacing timer (R146, R147), and what an outcome makes of an
update in flight (R149 to R152). -/

namespace Sys2Proof.Machine

/- The proofs below run one after another: run together, their waiting threads outgrow the memory a check may use. -/
set_option Elab.async false

variable {s : State}

/-! ## READY and the pacing timer (R146, R147) -/

/-- R10, R16: a message of the base station reaches the engine in RUNNING, with LABEL UP and the base station known. -/
theorem baseStation_message (hup : s.up .label = true) (hrun : s.running = true)
    (hknown : s.ports.baseStation.isSome = true) (station : Station) (take : State → State) :
    overLabel station take s = take s := by
  simp [overLabel, hup, hrun, Option.isNone_eq_false_iff.2 hknown]

/-- R146, R147: the state that waits for delivery events alone: a credit, and no pacing timer. -/
def State.readied (s : State) (credit : Nat) : State :=
  { s with label := { s.label with credit := credit, pacingTimer := none } }

/-- R146: a READY with no pacing timer running sets the credit, and the delivery events follow. -/
theorem exec_ready (hup : s.up .label = true) (hrun : s.running = true) (hknown : s.ports.baseStation.isSome = true)
    (hidle : s.label.pacingTimer = none) (station : Station) (slots : Byte) :
    exec (.ready station slots) s = .next (deliveries (s.readied (min 16 slots.toNat))) := by
  have hready : { s with label := { s.label with credit := min 16 slots.toNat } } = s.readied (min 16 slots.toNat) := by
    rw [State.readied, ← hidle]
  have htaken := baseStation_message hup hrun hknown station (readyMessage slots)
  exact congrArg Host.Outcome.next (htaken.trans (congrArg deliveries hready))

/-- R147: at its expiry the pacing timer stops, and the delivery events follow. -/
theorem exec_pacingTimerExpiry (hdue : timerDue s.tick s.label.pacingTimer = true) :
    exec .pacingTimerExpiry s = .next (deliveries (s.readied s.label.credit)) :=
  congrArg Host.Outcome.next (if_pos hdue)

/-- Settles O41: both events lead to the delivery events from a state with a credit and no pacing timer. -/
theorem deliveryEventSendsTheFirstFreeUpdate : Obligations.DeliveryEventSendsTheFirstFreeUpdate := by
  intro c station slots credit b s hup hrun hb hc
  have hexec : exec c s = .next (deliveries (s.readied credit)) := by
    rcases hc with ⟨rfl, rfl, hidle⟩ | ⟨rfl, rfl, hdue⟩
    · exact exec_ready hup hrun (by rw [hb]; rfl) hidle station slots
    · exact exec_pacingTimerExpiry hdue
  rw [hexec]
  obtain ⟨hclosed, hopened⟩ := deliveries_delivers (s.readied credit)
  constructor
  · rintro (hwindow | hcredit)
    · exact congrArg Host.Outcome.next (hclosed (.inr (.inl hwindow)))
    · exact congrArg Host.Outcome.next (hclosed (.inr (.inr (.inr (.inr (.inl hcredit))))))
  · intro before after u hwindow hcredit hroom hpacing hqueue hbefore hu
    obtain ⟨v, hv, hstill, hegress⟩ :=
      hopened b before after u hrun hwindow hup hb hcredit rfl hroom hqueue hbefore hu
    have hpaced : (s.readied credit).label.settings.pacing ≠ 0 := Nat.ne_of_gt hpacing
    rw [if_neg hpaced] at hv hstill
    refine ⟨v, congrArg Host.Outcome.next hv, hstill, fun hfree => ?_⟩
    exact ⟨_, (hegress hfree).2, rfl, rfl⟩

/-! ## What an outcome does to its update (R149 to R152) -/

theorem freeLabelBlock_quiet (s : State) :
    (freeLabelBlock s).quiet = ({ s with pool := s.pool.freeLabel 1 } : State).quiet :=
  compareChanged_quiet _ _ _

/-- R152: the undelivered list with a record at its tail, a full one without its oldest. -/
def LabelEngine.listing (l : LabelEngine) (r : UndeliveredRecord) : LabelEngine :=
  { l with undelivered := (if l.undelivered.length < 256 then l.undelivered else l.undelivered.drop 1) ++ [r] }

/-- R152: a full undelivered list loses its oldest record. -/
theorem loseOldest_still (s : State) : (loseOldest s).still = ({ s with label := { s.label with
    undelivered := if s.label.undelivered.length < 256 then s.label.undelivered else s.label.undelivered.drop 1 } } :
      State).still := by
  unfold loseOldest
  split
  · rfl
  · exact (raise_still _ _).trans (offer_still _ _)

/-- R152: an update given up frees its block and enters the undelivered list. -/
theorem giveUp_quiet (u : LabelUpdate) (why : GivenUp) (origin : Origin) (s : State) :
    (giveUp u why origin s).quiet = ({ s with
      label := s.label.listing ⟨u.number, u.page, u.attempts, why⟩
      pool := s.pool.freeLabel 1 } : State).quiet := by
  have hfreed := freeLabelBlock_quiet s
  have hlabel : (freeLabelBlock s).label = s.label := (quiet_label hfreed).trans rfl
  have hlost := quiet_of_still (loseOldest_still (freeLabelBlock s))
  rw [hlabel] at hlost
  have hlostLabel := (quiet_label hlost).trans rfl
  have hwith (v : State) (l : LabelEngine) : ({ v with label := l } : State).quiet = { v.quiet with label := l } := rfl
  refine (quiet_of_still (offer_still _ _)).trans ?_
  rw [hlostLabel, hwith, hlost, hwith, hfreed]
  rfl

/-- R149: a delivered update frees its block. -/
theorem applyOutcome_delivered_quiet (u : LabelUpdate) (origin : Origin) (s : State) :
    (applyOutcome u .delivered origin s).quiet = ({ s with pool := s.pool.freeLabel 1 } : State).quiet :=
  (quiet_of_still (offer_still _ _)).trans (freeLabelBlock_quiet s)

theorem applyOutcome_rejected (u : LabelUpdate) (origin : Origin) (s : State) :
    applyOutcome u (.givenUp .rejected) origin s = giveUp u .rejected origin s := rfl

/-- R149, R151: what an Absent or a Busy outcome does. -/
theorem applyOutcome_failed {why : GivenUp} (h : why ≠ .rejected) (u : LabelUpdate) (origin : Origin) (s : State) :
    applyOutcome u (.givenUp why) origin s
      = if s.label.settings.attemptLimit ≤ u.failed.attempts then giveUp u.failed why origin s
        else returnUpdate u.failed origin s := by
  cases why with
  | rejected => exact absurd rfl h
  | absent => rfl
  | busy => rfl

/-- R150: a newer queued update for its label number discards an update that would return, and its block is freed. -/
theorem returnUpdate_superseded_quiet {u : LabelUpdate} (h : holdsLabel s.label.queue u.number = true)
    (origin : Origin) : (returnUpdate u origin s).quiet = ({ s with pool := s.pool.freeLabel 1 } : State).quiet := by
  rw [returnUpdate, if_pos h]
  exact (quiet_of_still (offer_still _ _)).trans (freeLabelBlock_quiet s)

/-- R150: an update returns to the tail of the label queue. -/
theorem returnUpdate_returns {u : LabelUpdate} (h : holdsLabel s.label.queue u.number = false) (origin : Origin) :
    returnUpdate u origin s = { s with label := { s.label with queue := s.label.queue ++ [u.returned] } } :=
  if_neg (by rw [h]; exact Bool.false_ne_true)

theorem giveUp_levels (u : LabelUpdate) (why : GivenUp) (origin : Origin) (s : State) :
    (giveUp u why origin s).levels = s.levels := (quiet_levels (giveUp_quiet u why origin s)).trans rfl

theorem returnUpdate_levels (u : LabelUpdate) (origin : Origin) (s : State) :
    (returnUpdate u origin s).levels = s.levels := by
  by_cases h : holdsLabel s.label.queue u.number = true
  · exact (quiet_levels (returnUpdate_superseded_quiet h origin)).trans rfl
  · rw [returnUpdate_returns (Bool.eq_false_iff.2 h)]

theorem applyOutcome_levels (u : LabelUpdate) (x : LabelOutcome) (origin : Origin) (s : State) :
    (applyOutcome u x origin s).levels = s.levels := by
  unfold applyOutcome
  split
  · exact (quiet_levels (applyOutcome_delivered_quiet u origin s)).trans rfl
  · exact giveUp_levels _ _ _ _
  · split
    · exact giveUp_levels _ _ _ _
    · exact returnUpdate_levels _ _ _

/-! ## An outcome taken (R149, R151) -/

section
variable {number : BitVec 24}

/-- R146: OUTCOME is handed to the engine, for a label number and an outcome that have a meaning. -/
theorem exec_outcome (hup : s.up .label = true) (hrun : s.running = true) (hknown : s.ports.baseStation.isSome = true)
    (hnumber : number ≠ 0) {value : Byte} {x : LabelOutcome} (hvalue : labelOutcomeOf value = some x)
    (station : Station) :
    exec (.outcome station number value) s = .next (takeOutcome number x (receivedOrigin .label station) s) := by
  have hmessage : outcomeMessage station number value s = takeOutcome number x (receivedOrigin .label station) s := by
    simp only [outcomeMessage, hvalue, if_neg hnumber]
  exact congrArg Host.Outcome.next ((baseStation_message hup hrun hknown station _).trans hmessage)

/-- R146, R201: the outcomes are 1 to 4. -/
theorem labelOutcomeOf_isSome {value : Byte} (hlow : 1 ≤ value.toNat) (hhigh : value.toNat ≤ 4) :
    ∃ x, labelOutcomeOf value = some x := by
  have hcases : value.toNat = 1 ∨ value.toNat = 2 ∨ value.toNat = 3 ∨ value.toNat = 4 := by omega
  unfold labelOutcomeOf
  rcases hcases with h | h | h | h
  all_goals
    rw [h]
    exact ⟨_, rfl⟩

/-- R149: an outcome for a label number not in flight is Stray-Outcome. -/
theorem takeOutcome_stray (h : ∀ u ∈ s.label.inFlight, u.number ≠ number) (x : LabelOutcome) (origin : Origin) :
    takeOutcome number x origin s = offer (occur (.label .strayOutcome) origin) s := by
  have hnone : s.label.inFlight.find? (·.number == number) = none :=
    List.find?_eq_none.2 fun u hu => by simpa using h u hu
  rw [takeOutcome, hnone]

/-- R149, R155: with the label window closed an outcome is applied to its update, and no delivery event follows. -/
theorem takeOutcome_closed {u : LabelUpdate} (hfind : s.label.inFlight.find? (·.number == number) = some u)
    (hclosed : s.levels.labelWindow.value = .closed) (x : LabelOutcome) (origin : Origin) :
    takeOutcome number x origin s = applyOutcome u x origin (s.landed number) := by
  rw [takeOutcome, hfind]
  refine deliverWhile_closed 16 (deliveryOpen_eq_false.2 (.inr (.inl ?_)))
  rw [applyOutcome_levels]
  exact hclosed

/-- R151: OUTCOME_TIMEOUT, at the deadline of an update in flight, is an outcome Absent. -/
theorem exec_outcomeTimeout {u : LabelUpdate} {d : Tick}
    (hfind : s.label.inFlight.find? (·.number == number) = some u) (hdeadline : u.deadline = some d)
    (hreached : (s.tick - d).toNat < 2 ^ 31) :
    exec (.outcomeTimeout number) s = .next (takeOutcome number (.givenUp .absent) (builtOrigin .label) s) := by
  have hdue : dueUpdate s number = some u := by
    simp only [dueUpdate, hfind, hdeadline]
    exact if_pos (decide_eq_true hreached)
  show Host.Outcome.next _ = _
  rw [hdue]

variable {before after : List LabelUpdate} {u : LabelUpdate} (hflight : s.label.inFlight = before ++ u :: after)
  (hu : u.number = number) (hbefore : ∀ x ∈ before, x.number ≠ number)
include hflight hu hbefore

/-- R149: the update an outcome is for. -/
theorem find_inFlight : s.label.inFlight.find? (·.number == number) = some u := by
  have hnone : before.find? (·.number == number) = none :=
    List.find?_eq_none.2 fun x hx => by simpa using hbefore x hx
  rw [hflight, List.find?_append, hnone, List.find?_cons_of_pos (by simpa using hu)]
  rfl

/-- R149: the update leaves the in-flight list. -/
theorem landed_eq :
    s.landed number = { s with label := { s.label with inFlight := before ++ after } } := by
  rw [State.landed, hflight, List.eraseP_append_right _ fun x hx => by simpa using hbefore x hx,
    List.eraseP_cons_of_pos (by simpa using hu)]

end

/-- Settles O42: the update leaves the in-flight list, and its outcome is applied to the state without it. -/
theorem outcomeEndsTheFlight : Obligations.OutcomeEndsTheFlight := by
  intro station number s hnumber hup hrun hknown hclosed
  have hexec {value : Byte} {x : LabelOutcome} (hvalue : labelOutcomeOf value = some x) :=
    exec_outcome hup hrun hknown hnumber hvalue station
  refine ⟨fun hstray value hlow hhigh => ?stray, fun before after u freed listed hflight hu hbefore hfreed hlisted => ?_⟩
  case stray =>
    obtain ⟨x, hx⟩ := labelOutcomeOf_isSome hlow hhigh
    exact (hexec hx).trans (congrArg Host.Outcome.next (takeOutcome_stray hstray x _))
  obtain rfl : listed = fun v why => { s.label with inFlight := before ++ after }.listing
      ⟨v.number, v.page, v.attempts, why⟩ := funext fun v => funext fun why => hlisted v why
  subst hfreed
  have hfind := find_inFlight hflight hu hbefore
  have htaken (x : LabelOutcome) (origin : Origin) : takeOutcome number x origin s
      = applyOutcome u x origin { s with label := { s.label with inFlight := before ++ after } } := by
    rw [takeOutcome_closed hfind hclosed, landed_eq hflight hu hbefore]
  refine ⟨⟨_, hexec (x := .delivered) rfl, ?delivered⟩, ⟨_, hexec (x := .givenUp .rejected) rfl, ?rejected⟩,
    fun c why u' hc hu' => ?failed⟩
  case delivered =>
    rw [htaken]
    exact applyOutcome_delivered_quiet _ _ _
  case rejected =>
    rw [htaken]
    exact giveUp_quiet _ _ _ _
  case failed =>
    obtain rfl : u' = u.failed := hu'
    have hfailed : why ≠ .rejected ∧ ∃ origin, exec c s = .next (takeOutcome number (.givenUp why) origin s) := by
      rcases hc with ⟨rfl, rfl⟩ | ⟨rfl, rfl⟩ | ⟨rfl, rfl, d, hdeadline, hreached⟩
      · exact ⟨nofun, _, hexec rfl⟩
      · exact ⟨nofun, _, hexec rfl⟩
      · exact ⟨nofun, _, exec_outcomeTimeout hfind hdeadline hreached⟩
    obtain ⟨hwhy, origin, hexec⟩ := hfailed
    refine ⟨_, hexec, ?_⟩
    rw [htaken, applyOutcome_failed hwhy]
    refine ⟨fun hlimit => ?listed, fun hbelow hqueued => ?superseded, fun hbelow hnew => ?returned⟩
    case listed =>
      rw [if_pos hlimit]
      exact giveUp_quiet _ _ _ _
    case superseded =>
      rw [if_neg (Nat.not_le.2 hbelow)]
      exact returnUpdate_superseded_quiet (hu ▸ hqueued) origin
    case returned =>
      rw [if_neg (Nat.not_le.2 hbelow), returnUpdate_returns (hu ▸ hnew)]
      rfl

end Sys2Proof.Machine

/-! SUPPORT. The schedule entry a replay takes for each level setting (R165), and the replay at SET CLOCK and OPEN
(R160, R190). -/

namespace Sys2Proof.Machine

variable {s t u : State}

/-! ## The latest entry (R165) -/

section
variable {schedule : Vector ScheduleEntry 16} {second : Nat} {k : LevelKind} {i j : Fin 16} {l : List (Fin 16)}
  {P : Fin 16 → Prop}

/-- R165: no two entries are the latest with a property. -/
theorem IsLatest.unique (hi : IsLatest schedule P i) (hj : IsLatest schedule P j) : i = j := by
  have hij := hj.2 i hi.1
  have hji := hi.2 j hj.1
  omega

/-- R165: a further entry is taken unless its second lies before the one taken so far. -/
theorem latest_append (l : List (Fin 16)) (i : Fin 16) : latest schedule (l ++ [i])
    = some ((latest schedule l).elim i fun b => if schedule[b].second ≤ schedule[i].second then i else b) := by
  rw [latest, List.foldl_append, ← latest, List.foldl_cons, List.foldl_nil]
  cases latest schedule l with
  | none => rfl
  | some b => exact (apply_ite some _ i b).symm

theorem eq_nil_of_latest_eq_none (h : latest schedule l = none) : l = [] := by
  rcases List.eq_nil_or_concat l with rfl | ⟨before, i, rfl⟩
  · rfl
  · rw [List.concat_eq_append, latest_append] at h
    cases h

/-- R165: of entries in index order the one taken is the latest: a later one displaces it at an equal second too. -/
theorem isLatest_of_latest (hsorted : l.Pairwise (· < ·)) (h : latest schedule l = some i) :
    IsLatest schedule (· ∈ l) i := by
  induction l using List.reverseRecOn generalizing i with
  | nil => cases h
  | append_singleton l x ih =>
    obtain ⟨hinit, -, hbelow⟩ := List.pairwise_append.1 hsorted
    rw [latest_append] at h
    cases hbest : latest schedule l with
    | none =>
      obtain rfl := eq_nil_of_latest_eq_none hbest
      rw [hbest] at h
      obtain rfl := Option.some.inj h
      refine ⟨List.mem_singleton_self x, fun j hj => ?_⟩
      obtain rfl := List.mem_singleton.1 hj
      exact .inr ⟨rfl, le_rfl⟩
    | some b =>
      obtain ⟨hmem, hmax⟩ := ih hinit hbest
      rw [hbest] at h
      obtain rfl := Option.some.inj h
      rw [Option.elim_some]
      split
      next hle =>
        refine ⟨List.mem_append_right l (List.mem_singleton_self x), fun j hj => ?_⟩
        rcases List.mem_append.1 hj with hj | hj
        · have hlt := hbelow j hj x (List.mem_singleton_self x)
          have hb := hmax j hj
          omega
        · obtain rfl := List.mem_singleton.1 hj
          exact .inr ⟨rfl, le_rfl⟩
      next hgt =>
        refine ⟨List.mem_append_left _ hmem, fun j hj => ?_⟩
        rcases List.mem_append.1 hj with hj | hj
        · exact hmax j hj
        · obtain rfl := List.mem_singleton.1 hj
          exact .inl (Nat.lt_of_not_le hgt)

/-- R165: the latest of the entries with a property is the one taken. -/
theorem latest_eq_some (hsorted : l.Pairwise (· < ·)) (hmem : ∀ j, j ∈ l ↔ P j) (h : IsLatest schedule P i) :
    latest schedule l = some i := by
  obtain rfl : (· ∈ l) = P := funext fun j => propext (hmem j)
  cases hbest : latest schedule l with
  | none =>
    obtain rfl := eq_nil_of_latest_eq_none hbest
    cases h.1
  | some b => rw [(isLatest_of_latest hsorted hbest).unique h]

/-! ## The entry a replay takes (R165) -/

theorem mem_entriesOf : i ∈ entriesOf schedule k
    ↔ schedule[i].enabled = true ∧ levelKind schedule[i].action = some k := by
  simp only [entriesOf, List.mem_filter, List.mem_finRange, true_and, Bool.and_eq_true, beq_iff_eq]

theorem mem_entriesOf_by : i ∈ (entriesOf schedule k).filter (fun i => decide (schedule[i].second ≤ second))
    ↔ schedule[i].enabled = true ∧ levelKind schedule[i].action = some k ∧ schedule[i].second ≤ second := by
  rw [List.mem_filter, mem_entriesOf, decide_eq_true_iff, and_assoc]

theorem entriesOf_sorted (schedule : Vector ScheduleEntry 16) (k : LevelKind) :
    (entriesOf schedule k).Pairwise (· < ·) := (List.pairwise_lt_finRange 16).filter _

/-- R165: the latest entry at or before the time of day is taken. -/
theorem replayed_of_earlier (h : IsLatest schedule (fun j => schedule[j].enabled = true
    ∧ levelKind schedule[j].action = some k ∧ schedule[j].second ≤ second) i) : replayed schedule second k = some i := by
  rw [replayed, latest_eq_some ((entriesOf_sorted schedule k).filter _) (fun _ => mem_entriesOf_by) h]

/-- R165: with every entry after the time of day the latest of all is taken. -/
theorem replayed_of_later (h : IsLatest schedule (fun j => schedule[j].enabled = true
      ∧ levelKind schedule[j].action = some k) i)
    (hlater : ∀ j : Fin 16, schedule[j].enabled = true → levelKind schedule[j].action = some k →
      second < schedule[j].second) : replayed schedule second k = some i := by
  have hnone : (entriesOf schedule k).filter (fun i => decide (schedule[i].second ≤ second)) = [] :=
    List.eq_nil_iff_forall_not_mem.2 fun j hj => by
      obtain ⟨henabled, hkind, hle⟩ := mem_entriesOf_by.1 hj
      exact absurd hle (Nat.not_le.2 (hlater j henabled hkind))
  rw [replayed, hnone]
  exact latest_eq_some (entriesOf_sorted schedule k) (fun _ => mem_entriesOf) h

/-- R165: the entry taken is an enabled one of the kind. -/
theorem mem_entriesOf_of_replayed (h : replayed schedule second k = some i) : i ∈ entriesOf schedule k := by
  unfold replayed at h
  split at h
  next hbest =>
    obtain rfl := Option.some.inj h
    exact List.mem_of_mem_filter (isLatest_of_latest ((entriesOf_sorted schedule k).filter _) hbest).1
  next => exact (isLatest_of_latest (entriesOf_sorted schedule k) h).1

theorem replayed_eq_none (h : ∀ j : Fin 16, schedule[j].enabled = true → levelKind schedule[j].action ≠ some k) :
    replayed schedule second k = none := by
  refine Option.eq_none_iff_forall_ne_some.2 fun i hi => ?_
  obtain ⟨henabled, hkind⟩ := mem_entriesOf.1 (mem_entriesOf_of_replayed hi)
  exact h i henabled hkind

end

/-! ## The replay (R165) -/

/-- R165: what a replay leaves as it was, and what the entries it takes rest on. -/
structure ReplayFrame (s t : State) : Prop where
  clock : t.clock = s.clock
  schedule : t.schedule = s.schedule
  running : t.running = s.running
  night : t.night = s.night
  journal : t.journal = s.journal

theorem ReplayFrame.refl (s : State) : ReplayFrame s s := ⟨rfl, rfl, rfl, rfl, rfl⟩

theorem ReplayFrame.trans (h : ReplayFrame s t) (h' : ReplayFrame t u) : ReplayFrame s u where
  clock := h'.clock.trans h.clock
  schedule := h'.schedule.trans h.schedule
  running := h'.running.trans h.running
  night := h'.night.trans h.night
  journal := h'.journal.trans h.journal

/-- R162: an action other than a Call stays off the night engine. -/
theorem Acts.replayFrame {action : ScheduleAction} {origin : LevelOrigin} (h : Acts action origin s t)
    (hcall : action ≠ .call) : ReplayFrame s t :=
  let ⟨_, _, _, _, hq⟩ := h.quiet
  { clock := h.clock
    schedule := (quiet_schedule hq).trans rfl
    running := h.running
    night := h.night hcall
    journal := (quiet_journal hq).trans rfl }

/-- R165: a level setting as a replay leaves it. -/
def State.replayedLevel (s : State) (k : LevelKind) : ScheduleAction × LevelOrigin :=
  (replayed s.schedule s.clock.time.second k).elim (s.levels.of k) fun i => (s.schedule[i].action, .replay i)

section
variable {k : LevelKind} {i : Fin 16}

theorem replayKind_none (h : replayed s.schedule s.clock.time.second k = none) : replayKind s k = s := by
  rw [replayKind, h]

theorem replayKind_some (h : replayed s.schedule s.clock.time.second k = some i) :
    replayKind s k = act s.schedule[i].action (.replay i) s := by
  rw [replayKind, h]

/-- R165: the entry a replay takes is of its kind, so it is no Call. -/
theorem levelKind_of_replayed (h : replayed s.schedule s.clock.time.second k = some i) :
    levelKind s.schedule[i].action = some k := (mem_entriesOf.1 (mem_entriesOf_of_replayed h)).2

theorem replayKind_frame (s : State) (k : LevelKind) : ReplayFrame s (replayKind s k) := by
  cases h : replayed s.schedule s.clock.time.second k with
  | none => rw [replayKind_none h]; exact .refl s
  | some i =>
    rw [replayKind_some h]
    refine (act_acts _ _ s).replayFrame fun hcall => ?_
    have hkind := levelKind_of_replayed h
    rw [hcall] at hkind
    cases hkind

/-- R165: the replay of a kind sets its own level setting. -/
theorem replayKind_level (s : State) (k : LevelKind) : (replayKind s k).levels.of k = s.replayedLevel k := by
  unfold State.replayedLevel
  cases h : replayed s.schedule s.clock.time.second k with
  | none => rw [replayKind_none h]; rfl
  | some i =>
    rw [replayKind_some h, (act_acts _ _ s).levels]
    exact Levels.taking_of_same _ (levelKind_of_replayed h) _

/-- R165: the replay of a kind keeps the other level settings. -/
theorem replayKind_level_of_ne {k' : LevelKind} (hne : k' ≠ k) : (replayKind s k').levels.of k = s.levels.of k := by
  cases h : replayed s.schedule s.clock.time.second k' with
  | none => rw [replayKind_none h]
  | some i =>
    rw [replayKind_some h, (act_acts _ _ s).levels]
    exact Levels.taking_of_ne _ (by rw [levelKind_of_replayed h]; exact fun e => hne (Option.some.inj e)) _

variable {l : List LevelKind}

theorem foldl_replayKind_frame (l : List LevelKind) (s : State) : ReplayFrame s (l.foldl replayKind s) := by
  induction l generalizing s with
  | nil => exact .refl s
  | cons k l ih => exact (replayKind_frame s k).trans (ih _)

theorem foldl_replayKind_level_of_not_mem (h : k ∉ l) : (l.foldl replayKind s).levels.of k = s.levels.of k := by
  induction l generalizing s with
  | nil => rfl
  | cons k' l ih =>
    obtain ⟨hne, hrest⟩ := not_or.1 (mt List.mem_cons.2 h)
    rw [List.foldl_cons, ih hrest, replayKind_level_of_ne (Ne.symm hne)]

theorem ReplayFrame.replayedLevel (h : ReplayFrame s t) (hlevel : t.levels.of k = s.levels.of k) :
    t.replayedLevel k = s.replayedLevel k := by
  simp only [State.replayedLevel, h.schedule, h.clock, hlevel]

/-- R165: of kinds replayed one after another each sets its own level setting, as if alone. -/
theorem foldl_replayKind_level (hl : l.Nodup) (hk : k ∈ l) : (l.foldl replayKind s).levels.of k = s.replayedLevel k := by
  induction l generalizing s with
  | nil => cases hk
  | cons k' l ih =>
    obtain ⟨hnew, hrest⟩ := List.nodup_cons.1 hl
    rw [List.foldl_cons]
    by_cases hkind : k' = k
    · rw [foldl_replayKind_level_of_not_mem (hkind ▸ hnew), hkind, replayKind_level]
    · rw [ih hrest ((List.mem_cons.1 hk).resolve_left (Ne.symm hkind)),
        (replayKind_frame s k').replayedLevel (replayKind_level_of_ne hkind)]

theorem replay_frame (s : State) : ReplayFrame s (replay s) := foldl_replayKind_frame _ s

theorem replay_level (s : State) (k : LevelKind) : (replay s).levels.of k = s.replayedLevel k :=
  foldl_replayKind_level (by decide) (by cases k <;> decide)

/-- R165: a level setting takes the entry the replay takes for it. -/
theorem replay_level_some (h : replayed s.schedule s.clock.time.second k = some i) :
    (replay s).levels.of k = (s.schedule[i].action, .replay i) := by
  rw [replay_level, State.replayedLevel, h]
  rfl

/-- R165: a level setting with no enabled entry stays. -/
theorem replay_level_none (h : replayed s.schedule s.clock.time.second k = none) :
    (replay s).levels.of k = s.levels.of k := by
  rw [replay_level, State.replayedLevel, h]
  rfl

end

/-! ## SET CLOCK and OPEN (R160, R190) -/

@[simp] theorem takeRequest_clock (i : Instr) (s : State) : (takeRequest i s).clock = s.clock :=
  takeRequest_keeps State.clock (fun _ _ => rfl) i s

/-- R160: the state with a clock. -/
def State.withClock (s : State) (clock : Clock) : State := { s with clock := clock }

theorem clockSet_closed (h : s.running = false) (day second : Nat) :
    clockSet day second s = s.withClock { s.clock with set := true, time := ⟨day, second⟩, sub := 0 } :=
  if_neg (ne_true_of_eq_false h)

theorem clockSet_running (h : s.running = true) (day second : Nat) :
    clockSet day second s = replay (s.withClock { s.clock with set := true, time := ⟨day, second⟩, sub := 0 }) :=
  if_pos h

theorem openRun_replays (hclosed : s.running = false) (hclock : s.clock.set = true) :
    openRun s = done (replay (s.withPart .running)) := by
  rw [openRun, if_neg (ne_true_of_eq_false hclosed), if_pos hclock]

/-- R160, R183: SET CLOCK from the lock's holder sets the clock, its second held to 86,399, and answers with the reading. -/
theorem exec_setClock {q : Requester} (hlock : s.holds q.party = true) (day : BitVec 16) (second : BitVec 32) :
    exec (.setClock q day second) s
      = .next (answerTo q 0x08 (if 86399 < second.toNat then .adjusted else .ok)
        (be16 day ++ be32 (BitVec.ofNat 32 (min 86399 second.toNat)))
        (renewLease (clockSet day.toNat (min 86399 second.toNat) (takeRequest (.setClock q day second) s)))) := by
  have hclamp : clamp 0 86399 second.toNat = min 86399 second.toNat := by
    rw [clamp_eq_max_min (Nat.zero_le _), Nat.zero_max]
  have hstatus : okUnless (min 86399 second.toNat != second.toNat)
      = if 86399 < second.toNat then .adjusted else .ok := by
    rw [bne_eq_decide_ne, okUnless]
    exact if_congr (by rw [decide_eq_true_iff]; omega) rfl rfl
  refine lockedCommand_answers hlock ?_
  rw [setClockRun, hclamp, hstatus]
  rfl

/-- R190, R183: OPEN from the lock's holder of a closed part whose clock is set opens the part and replays. -/
theorem exec_openPart_replays {q : Requester} (hlock : s.holds q.party = true) (hclosed : s.running = false)
    (hclock : s.clock.set = true) : exec (.openPart q) s = .next (answerTo q 0x06 .ok []
      (renewLease (replay ((takeRequest (.openPart q) s).withPart .running)))) :=
  lockedCommand_answers hlock (openRun_replays (by rwa [takeRequest_running]) (by rwa [takeRequest_clock]))

/-- Settles O55: in CLOSED the clock alone is set; otherwise the command replays a state with the new clock, in RUNNING, whose
schedule and level settings are the ones before it. -/
theorem clockSetReplaysTheSchedule : Obligations.ClockSetReplaysTheSchedule := by
  intro c q day second shown clock answer s hlock hcommand
  constructor
  case left =>
    rintro hclosed rfl
    rcases hcommand with ⟨-, rfl, rfl, hanswer⟩ | ⟨hopen, -⟩
    · rw [exec_setClock hlock, hanswer, clockSet_closed (by rwa [takeRequest_running]), takeRequest_clock]
      rfl
    · cases hopen
  case right =>
    intro hreplays
    have hexec : ∃ v : State, exec c s = .next (answer (replay v)) ∧ v.running = true ∧ v.clock = clock
        ∧ clock.time = shown ∧ v.schedule = s.schedule ∧ v.levels = s.levels ∧ v.night = s.night
        ∧ v.journal = s.journal := by
      rcases hcommand with ⟨rfl, rfl, rfl, hanswer⟩ | ⟨rfl, hclosed, hclock, rfl, rfl, hanswer⟩
      case inl =>
        have hrun : (takeRequest (.setClock q day second) s).running = true := by
          rw [takeRequest_running]
          exact hreplays.resolve_right nofun
        refine ⟨(takeRequest (.setClock q day second) s).withClock
            { s.clock with set := true, time := ⟨day.toNat, min 86399 second.toNat⟩, sub := 0 },
          ?_, hrun, rfl, rfl, takeRequest_schedule _ s, takeRequest_levels _ s, takeRequest_night _ s,
          takeRequest_journal _ s⟩
        rw [exec_setClock hlock, hanswer, clockSet_running hrun, takeRequest_clock]
      case inr =>
        refine ⟨(takeRequest (.openPart q) s).withPart .running, ?_, rfl, takeRequest_clock _ s, rfl,
          takeRequest_schedule _ s, takeRequest_levels _ s, takeRequest_night _ s, takeRequest_journal _ s⟩
        rw [exec_openPart_replays hlock hclosed hclock, hanswer]
    obtain ⟨v, hnext, hrun, rfl, rfl, hschedule, hlevels, hnight, hjournal⟩ := hexec
    have hframe := replay_frame v
    rw [← hschedule, ← hlevels]
    exact ⟨replay v, hnext, hframe.clock, hframe.running.trans hrun, hframe.night.trans hnight,
      hframe.journal.trans hjournal, hframe.schedule,
      fun k i hlatest => replay_level_some (hlatest.elim replayed_of_earlier fun h => replayed_of_later h.1 h.2),
      fun k hnone => replay_level_none (replayed_eq_none hnone)⟩

end Sys2Proof.Machine

/-! SUPPORT. One step of the part (R183), IDENTIFY (R185, R197), and the change lock: CLAIM, RELEASE and the expiry of the
lease (R188, R189). -/

namespace Sys2Proof.Machine

/- The proofs below run one after another: run together, their waiting threads outgrow the memory a check may use. -/
set_option Elab.async false

variable {s : State}

/-! ## One step (R183) -/

theorem step_of_pending {c : Instr} {rest : List Instr} (h : s.pending = c :: rest) :
    step s = exec c { s with pending := rest } := by
  rw [step, h]

/-- Settles O1: the queue of waiting commands is looked at first. -/
theorem stepRunsTheFrontCommand : Obligations.StepRunsTheFrontCommand := fun _ _ _ h => step_of_pending h

/-! ## IDENTIFY (R185, R197) -/

theorem partStateByte (s : State) :
    num8 (if s.running then 1 else 0) = [if s.agent.partState = .running then (1 : Byte) else 0] := by
  cases h : s.agent.partState <;> simp [State.running, h] <;> rfl

theorem activeBankByte (k : BankId) : num8 (if k = .a then 0 else 1) = [if k = .a then (0 : Byte) else 1] := by
  cases k <;> rfl

theorem holderByte (p : Option Party) :
    num8 (holderCode p) = [match p with | none => 0 | some .localParty => 1 | some .remoteParty => 2] := by
  rcases p with - | - | - <;> rfl

theorem nightStateByte (n : NightState) : num8 (nightStateCode n) = [match n with
    | .idle => 0 | .calling => 1 | .draining => 2 | .settling => 3 | .backoff => 4 | .failed => 5] := by
  cases n <;> rfl

/-- R185, R191: the lease time left in seconds, rounded up. -/
theorem leaseLeft_eq (s : State) : s.leaseLeft = match s.agent.leaseTimer with
    | none => 0
    | some t => (t.duration - (s.tick - t.start).toNat + 999) / 1000 := by
  unfold State.leaseLeft
  cases s.agent.leaseTimer with
  | none => exact Nat.div_eq_of_lt (show 0 + 999 < 1000 by decide)
  | some t => rfl

/-- R185, R197: the fields of the IDENTIFY response, written out. -/
theorem identifyBytes_eq (s : State) : identifyBytes s =
    ([0x4F, 0x5A, 0x19, 0x10, 1] : Bytes) ++ be48 s.station
      ++ ([if s.agent.partState = .running then 1 else 0, if s.classifier.active = .a then 0 else 1] : Bytes)
      ++ be32 s.classifier.bankA.identity ++ be32 s.classifier.bankB.identity
      ++ ([match s.agent.holder with | none => 0 | some .localParty => 1 | some .remoteParty => 2] : Bytes)
      ++ be16 (BitVec.ofNat 16 s.leaseLeft)
      ++ ([match s.night.state with
        | .idle => 0 | .calling => 1 | .draining => 2 | .settling => 3 | .backoff => 4 | .failed => 5] : Bytes) := by
  have hpart : num16 0x4F5A ++ num16 6416 ++ num8 1 = ([0x4F, 0x5A, 0x19, 0x10, 1] : Bytes) := by decide
  rw [identifyBytes, hpart, partStateByte, activeBankByte, holderByte, nightStateByte, num16]
  simp only [List.append_assoc, List.cons_append, List.nil_append]

/-- What IDENTIFY reports does not speak of the request queue. -/
theorem identifyBytes_takeRequest (i : Instr) (s : State) : identifyBytes (takeRequest i s) = identifyBytes s := by
  obtain ⟨_, htaken⟩ := takeRequest_eq i s
  rw [htaken]
  rfl

theorem exec_identify (q : Requester) (s : State) : exec (.identify q) s
    = .next (answerTo q 0x01 .ok (identifyBytes s) (takeRequest (.identify q) s)) := by
  rw [← identifyBytes_takeRequest (.identify q) s]
  rfl

/-- An answer leaves the agent as it was. -/
theorem answerTo_agent (q : Requester) (code : Nat) (status : Status) (fields : Bytes) (s : State) :
    (answerTo q code status fields s).agent = s.agent := still_agent (respond_still q code _)

/-- Settles O44: the answer is `identifyBytes_eq`, and IDENTIFY changes the request queue alone. -/
theorem identifyReportsThePart : Obligations.IdentifyReportsThePart := by
  intro q left s hleft
  obtain rfl : left = s.leaseLeft := hleft.trans (leaseLeft_eq s).symm
  refine ⟨_, exec_identify q s,
    congrArg (answerTo q 0x01 .ok · (takeRequest (.identify q) s)) (identifyBytes_eq s), ?_⟩
  obtain ⟨_, htaken⟩ := takeRequest_eq (.identify q) s
  rw [answerTo_agent, htaken]
  exact ⟨rfl, rfl, rfl, rfl⟩

/-! ## The change lock (R188, R189) -/

theorem holds_iff (s : State) (p : Party) : s.holds p = true ↔ s.agent.holder = some p := beq_iff_eq

theorem takeRequest_holder (i : Instr) (s : State) : (takeRequest i s).agent.holder = s.agent.holder := by
  obtain ⟨_, htaken⟩ := takeRequest_eq i s
  rw [htaken]

theorem takeRequest_lease (i : Instr) (s : State) : (takeRequest i s).agent.lease = s.agent.lease := by
  obtain ⟨_, htaken⟩ := takeRequest_eq i s
  rw [htaken]

theorem claimRun_granted {p : Party} (h : s.agent.holder = none ∨ s.agent.holder = some p) :
    claimRun p s = done (renewLease { s with agent := { s.agent with holder := some p } }) := if_pos h

theorem claimRun_locked {p p' : Party} (h : s.agent.holder = some p') (hne : p' ≠ p) :
    claimRun p s = ⟨s, .locked, [num8 (holderCode (some p'))]⟩ := by
  rw [claimRun, if_neg (by rw [h]; exact fun hor => hor.elim nofun fun he => hne (Option.some.inj he)), h]

theorem releaseRun_taken {p : Party} (h : s.agent.holder = some p) :
    releaseRun p s = done { s with agent := { s.agent with holder := none, leaseTimer := none } } :=
  if_pos ((holds_iff s p).2 h)

theorem releaseRun_refused {p : Party} (h : s.agent.holder ≠ some p) : releaseRun p s = refused .noLock s :=
  if_neg fun hholds => h ((holds_iff s p).1 hholds)

/-- R183: what a command without the lock's test gives in one part is its answer. -/
theorem openCommand_answers {q : Requester} {i : Instr} {code : Nat} {run : State → CmdResult} {u : State}
    {status : Status} {fields : Bytes} (hrun : run (takeRequest i s) = ⟨u, status, [fields]⟩) :
    (.next (openCommand q i code run s) : Host.Outcome State Fault Refusal)
      = .next (answerTo q code status fields u) := by
  rw [openCommand, hrun]
  rfl

/-- Settles O47: the table of R188, a row each, and the expiry of the lease timer. -/
theorem claimReleaseAndLease : Obligations.ClaimReleaseAndLease := by
  intro q s
  refine ⟨fun h => ?granted, fun p hp hne => ?locked, fun h => ?released, fun h => ?noLock, fun hdue => ?expired,
    fun hdue => ?kept⟩
  case granted =>
    refine openCommand_answers ?_
    rw [claimRun_granted (by rwa [takeRequest_holder]), renewLease, ← takeRequest_tick (.claim q) s,
      ← takeRequest_lease (.claim q) s]
    rfl
  case locked =>
    refine openCommand_answers ?_
    rw [claimRun_locked ((takeRequest_holder _ s).trans hp) hne, holderByte]
    cases p <;> rfl
  case released => exact openCommand_answers (releaseRun_taken (by rwa [takeRequest_holder]))
  case noLock => exact openCommand_answers (releaseRun_refused (by rwa [takeRequest_holder]))
  case expired => exact congrArg Host.Outcome.next (if_pos hdue)
  case kept => exact congrArg Host.Outcome.next (if_neg (ne_true_of_eq_false hdue))

end Sys2Proof.Machine

/-! SUPPORT. The alert frame in its bytes, and the expiry of the alert timer (R174, R178, R192, R198). -/

namespace Sys2Proof.Machine

/- The proofs below run one after another: run together, their waiting threads outgrow the memory a check may use. -/
set_option Elab.async false

variable {s : State}

/-! ## The send test (R178) -/

theorem AlertUnit.anyPending_eq_false {a : AlertUnit} (h : ∀ i : Fin 14, a.pending[i] = none) : a.anyPending = false := by
  rw [AlertUnit.anyPending, List.any_eq_false]
  intro x hx
  obtain ⟨i, hi, rfl⟩ := Vector.mem_iff_getElem.1 (Vector.mem_toList_iff.1 hx)
  have hnone : a.pending[i] = none := h ⟨i, hi⟩
  rw [hnone]
  exact Bool.false_ne_true

/-- R178: with no source pending, or on a management port that is DOWN, nothing is sent. -/
theorem alertTest_of_not_ready (h : s.alertReady = false) : alertTest s = s := by
  unfold alertTest
  split
  · rfl
  · exact if_neg (ne_true_of_eq_false h)

/-- R178: without a destination, with nothing pending, or with the management port DOWN, nothing is sent. -/
theorem alertTest_sends_nothing (h : s.alerts.destination = none ∨ (∀ i : Fin 14, s.alerts.pending[i] = none)
    ∨ s.up s.ports.managementPort = false) : alertTest s = s := by
  rcases h with hd | hpending | hdown
  · exact alertTest_of_no_destination hd
  · exact alertTest_of_not_ready (by rw [State.alertReady, AlertUnit.anyPending_eq_false hpending]; rfl)
  · exact alertTest_of_not_ready (by rw [State.alertReady, hdown, Bool.and_false]; rfl)

/-! ## The counter sources (R174) -/

/-- R174: the counter sources have the codes 13 and 14. -/
theorem newCounterSource_iff (a : AlertUnit) : a.newCounterSource = true
    ↔ a.pending[(12 : Fin 14)] = some .new ∨ a.pending[(13 : Fin 14)] = some .new := by
  simp only [AlertUnit.newCounterSource, alertIndex, Bool.or_eq_true, beq_iff_eq]

/-! ## The frame (R192, R198) -/

/-- R192, R198: the sample's presence byte and its 16 bytes, zeros when it is absent. -/
theorem alertSampleBytes_eq (new : Bool) (r : SampleRecord) : alertSampleBytes new r = match r with
    | .held x => if new = true then 1 :: sampleBytes x else List.replicate 17 0
    | _ => List.replicate 17 0 := by
  cases r with
  | held x => cases new <;> rfl
  | _ => rfl

/-- R195, R198: an alert frame starts as a response part with tag 0 and command code 0x80. -/
theorem responseBytes_alert (fields : Bytes) : responseBytes 0 0x80 0 0 true fields = [0, 0, 0x80, 0, 0, 1, 0, 0] ++ fields := by
  rw [responseBytes_onePart]
  rfl

/-! ## The expiry of the alert timer (R178) -/

/-- The state with the alert timer stopped. -/
def State.alertTimerStopped (s : State) : State := { s with alerts := { s.alerts with timer := none } }

theorem exec_alertTimerExpiry (h : timerDue s.tick s.alerts.timer = true) :
    exec .alertTimerExpiry s = .next (alertTest s.alertTimerStopped) := congrArg Host.Outcome.next (if_pos h)

/-- Settles O43: the expiry is the send test with the timer stopped, which sends `State.alertFrame` or nothing. -/
theorem alertTimerSendsTheAlertFrame : Obligations.AlertTimerSendsTheAlertFrame := by
  intro s hdue
  rw [exec_alertTimerExpiry hdue]
  refine ⟨fun h => congrArg Host.Outcome.next (alertTest_sends_nothing h), fun d p hd hpending hport hup hroom => ?_⟩
  have hsent := alertTest_sends (s := s.alertTimerStopped) hport hd hpending rfl hup hroom
  refine ⟨_, s.alertTimerStopped.alertFrame d, rfl, by rw [hsent]; rfl, (alertTest_still _).trans rfl, ?bytes,
    by rw [hsent]; rfl, fun h12 h13 => ?keeps, fun hnew => ?alerted⟩
  case bytes =>
    simp only [State.alertFrame, responseBytes_alert, alertSampleBytes_eq, newCounterSource_iff]
    rfl
  case keeps =>
    rw [hsent]
    exact if_neg fun hnew => ((newCounterSource_iff _).1 hnew).elim h12 h13
  case alerted =>
    have hcounters : (alertTest s.alertTimerStopped).counters = s.counters.counterAlert := by
      rw [hsent]
      exact if_pos ((newCounterSource_iff _).2 hnew)
    rw [hcounters]
    exact ⟨rfl, rfl, rfl, rfl, rfl⟩

end Sys2Proof.Machine

/-! SUPPORT. COUNTERS Configure, Start and Clear (R172, R183). -/

namespace Sys2Proof.Machine

/- The proofs below run one after another: run together, their waiting threads outgrow the memory a check may use. -/
set_option Elab.async false

variable {s : State}

@[simp] theorem takeRequest_counters (i : Instr) (s : State) : (takeRequest i s).counters = s.counters :=
  takeRequest_keeps State.counters (fun _ _ => rfl) i s

/-! ## Configure (R171, R172) -/

/-- R171, R172: a written counter is at fault by its selector or by its condition. -/
theorem counterFieldsOf_isNone_iff (w : CounterWrite) : (counterFieldsOf w).isNone = true
    ↔ selectorOf w.kind w.qualifier = none ∨ 3 ≤ w.condition.toNat := by
  have hcondition : conditions[w.condition.toNat]? = none ↔ 3 ≤ w.condition.toNat := List.getElem?_eq_none_iff
  unfold counterFieldsOf
  rw [← hcondition]
  cases selectorOf w.kind w.qualifier <;> cases conditions[w.condition.toNat]? <;> simp

/-- R172: a counter configured with a meaning takes what is written and keeps its value and overflow flag. -/
theorem Counter.configured_fields {w : CounterWrite} (h : (counterFieldsOf w).isNone = false) (c : Counter) :
    (c.configured w).value = c.value ∧ (c.configured w).overflow = c.overflow ∧ (c.configured w).run = w.run
      ∧ selectorOf w.kind w.qualifier = some (c.configured w).selector
      ∧ conditions[w.condition.toNat]? = some (c.configured w).condition := by
  unfold Counter.configured
  cases hfields : counterFieldsOf w with
  | none => simp [hfields] at h
  | some f =>
    obtain ⟨selector, hselector, condition, hcondition, rfl⟩ :
        ∃ x, selectorOf w.kind w.qualifier = some x ∧ ∃ y, conditions[w.condition.toNat]? = some y ∧ (x, y) = f := by
      simpa [counterFieldsOf, Option.bind_eq_some_iff] using hfields
    exact ⟨rfl, rfl, rfl, hselector, hcondition⟩

theorem configureRun_taken {ws : Vector CounterWrite 8} (h : ∀ i : Fin 8, (counterFieldsOf ws[i]).isNone = false)
    (group : GroupControls) (s : State) : configureRun ws group s = done { s with counters := { s.counters with
      counters := Vector.ofFn fun i => s.counters.counters[i].configured ws[i], group := group } } := by
  rw [configureRun, find?_finRange_eq_none.2 h]

/-- R172: a refusal names the first counter at fault. -/
theorem configureRun_refused {ws : Vector CounterWrite 8} {i : Fin 8} (h : (counterFieldsOf ws[i]).isNone = true)
    (hlow : ∀ j, j < i → (counterFieldsOf ws[j]).isNone = false) (group : GroupControls) (s : State) :
    configureRun ws group s = refusedAt .badValue (i.val + 1) s := by
  rw [configureRun, find?_finRange_eq_some h hlow]

/-! ## Start and Clear (R172) -/

theorem startRun_taken (s : State) : startRun 2 s = done { s with counters := s.counters.started } := if_pos rfl

theorem clearRun_taken {ns : List Byte} (h : ∀ n ∈ ns, 1 ≤ n.toNat ∧ n.toNat ≤ 8) (s : State) :
    clearRun ns s = done { s with counters := s.counters.cleared ns } :=
  if_pos (List.all_eq_true.2 fun n hn => decide_eq_true (h n hn))

theorem clearRun_refused {ns : List Byte} {n : Byte} (hn : n ∈ ns) (h : n = 0 ∨ 8 < n.toNat) (s : State) :
    clearRun ns s = refused .badIndex s := by
  refine if_neg fun hall => ?_
  obtain ⟨hlow, hhigh⟩ := of_decide_eq_true (List.all_eq_true.1 hall n hn)
  rcases h with rfl | h
  · exact absurd hlow (by decide)
  · omega

/-- R172: a counter is cleared where its number is among the ones named. -/
theorem cleared_eq {u : CounterUnit} {ns : List Byte} {counters : Vector Counter 8}
    (h : ∀ i : Fin 8, counters[i] = if BitVec.ofNat 8 (i.val + 1) ∈ ns then
      { u.counters[i] with value := 0, overflow := false } else u.counters[i]) :
    u.cleared ns = { u with counters := counters } := by
  rw [CounterUnit.cleared]
  congr
  refine Vector.ext fun j hj => ?_
  rw [Vector.getElem_ofFn]
  exact (if_congr (any_code_iff ns ⟨j, by omega⟩) rfl rfl).trans (h ⟨j, hj⟩).symm

/-! ## The obligation -/

/-- Settles O59: each form is a command of the lock's holder, answered with its run's result. -/
theorem countersCommands : Obligations.CountersCommands := by
  intro q s hlock
  refine ⟨fun ws group fault hfault => ?configure, ?start, fun form hform => ?noForm,
    fun ns counters hcounters => ⟨fun hns => ?cleared, fun n hn h => ?badIndex⟩⟩
  case configure =>
    have hnone (i : Fin 8) : (counterFieldsOf ws[i]).isNone = true ↔ fault i :=
      (counterFieldsOf_isNone_iff _).trans (hfault i).symm
    have hsome {i : Fin 8} (h : ¬ fault i) : (counterFieldsOf ws[i]).isNone = false :=
      Bool.eq_false_iff.2 fun hi => h ((hnone i).1 hi)
    refine ⟨fun h => ⟨Vector.ofFn fun i => s.counters.counters[i].configured ws[i], ?_, fun i => ?_⟩,
      fun i hi hlow => lockedCommand_answers hlock
        (configureRun_refused ((hnone i).2 hi) (fun j hj => hsome (hlow j hj)) group _)⟩
    · refine lockedCommand_answers hlock ?_
      rw [configureRun_taken (fun i => hsome (h i)), takeRequest_counters]
      rfl
    · have hi : (Vector.ofFn fun i : Fin 8 => s.counters.counters[i].configured ws[i])[i]
          = s.counters.counters[i].configured ws[i] := Vector.getElem_ofFn _
      rw [hi]
      exact Counter.configured_fields (hsome (h i)) _
  case start =>
    refine lockedCommand_answers hlock ?_
    rw [startRun_taken, takeRequest_counters]
    rfl
  case noForm => exact lockedCommand_answers hlock (startRun_refused hform _)
  case cleared =>
    refine lockedCommand_answers hlock ?_
    rw [clearRun_taken hns, takeRequest_counters, cleared_eq hcounters]
    rfl
  case badIndex => exact lockedCommand_answers hlock (clearRun_refused hn h _)

end Sys2Proof.Machine

/-! SUPPORT. A WRITE in bytes (R187, R195, R196). -/

namespace Sys2Proof.Machine

/- The proofs below run one after another: run together, their waiting threads outgrow the memory a check may use. -/
set_option Elab.async false

variable {s : State} {q : Requester} {code : Byte} {first : BitVec 32} {count : BitVec 16} {data : Bytes}

/-! ## What a WRITE spells (R187, R196) -/

/-- R187, R196: a command that answers as a WRITE does: by a run under the lock, or UNKNOWN where there is none. -/
def WritesBy (q : Requester) (run : Option (State → CmdResult)) (c : Instr) : Prop :=
  ∀ s, exec c s = .next (match run with
    | some run => lockedCommand q c 0x04 run s
    | none => openCommand q c 0x04 (refused .unknown) s)

/-- R187: WRITE itself. -/
theorem write_writesBy (q : Requester) (code : Byte) (first : BitVec 32) (count : BitVec 16) (data : Bytes) :
    WritesBy q (writeRunOf q code first count data) (.write q code first count data) := fun _ => rfl

/-- R187: the row of a table, or UNKNOWN where the bytes are too short, answers as the WRITE that spells it. -/
theorem decodeWrite_writesBy (q : Requester) (code : Byte) (first : BitVec 32) (count : BitVec 16) (data : Bytes) :
    WritesBy q (writeRunOf q code first count data) (decodeWrite q code first count data) := by
  unfold writeRunOf
  generalize hc : decodeWrite q code first count data = c
  have hspelt := hc
  unfold decodeWrite at hc
  split at hc
  case h_20 =>
    subst hc
    have h := write_writesBy q code first count data
    rw [writeRunOf, hspelt] at h
    exact h
  all_goals
    dsimp only at hc
    split at hc
    all_goals
      subst hc
      exact fun _ => rfl

/-- R183: with an empty request queue a command takes no request. -/
theorem takeRequest_of_empty (h : s.agent.queue = []) (i : Instr) : takeRequest i s = s := by
  rw [takeRequest, h]

/-- What a command does with no request queued is what its answer and its run are. -/
theorem WritesBy.exec_eq {run : Option (State → CmdResult)} {c c' : Instr} (h : WritesBy q run c) (h' : WritesBy q run c')
    (hempty : s.agent.queue = []) : exec c s = exec c' s := by
  rw [h s, h' s]
  simp only [lockedCommand, openCommand, takeRequest_of_empty hempty]

/-! ## Tables that cannot be written (R187) -/

/-- R187: a read-only table, or a code without meaning, spells WRITE itself. -/
theorem decodeWrite_of_unwritable (h : code.toNat ∈ [0, 12, 15, 17, 18, 20, 22, 23, 24, 26, 27] ∨ 30 ≤ code.toNat) :
    decodeWrite q code first count data = .write q code first count data := by
  simp only [List.mem_cons, List.not_mem_nil, or_false] at h
  unfold decodeWrite
  split
  case h_20 => rfl
  all_goals omega

theorem writeRunOf_of_unwritable (h : code.toNat ∈ [0, 12, 15, 17, 18, 20, 22, 23, 24, 26, 27] ∨ 30 ≤ code.toNat) :
    writeRunOf q code first count data = some (refused .badIndex) := by
  rw [writeRunOf, decodeWrite_of_unwritable h]

/-- R187, R188: a WRITE in bytes whose run is known, from the lock's holder. -/
theorem exec_write_of_run {run : State → CmdResult} (h : writeRunOf q code first count data = some run) (s : State) :
    exec (.write q code first count data) s = .next (lockedCommand q (.write q code first count data) 0x04 run s) := by
  rw [write_writesBy, h]

/-! ## AGENT (R191, R196) -/

/-- R196: code 29 with one entry spells the write of AGENT with the number of its first two bytes. -/
theorem decodeWrite_agent (q : Requester) (first : BitVec 32) (v : BitVec 16) (rest : Bytes) :
    decodeWrite q 29 first 1 (be16 v ++ rest) = .writeAgent q first [v] := by
  have hread : (readMany read16 1).fields (be16 v ++ rest) = some [v] := congrArg (fun x => some [x]) (halves16 v)
  show (match (readMany read16 1).fields (be16 v ++ rest) with
    | some es => Instr.writeAgent q first es
    | none => .unknownCommand q 0x04) = _
  rw [hread]

theorem writeRunOf_agent (q : Requester) (first : BitVec 32) (v : BitVec 16) (rest : Bytes) :
    writeRunOf q 29 first 1 (be16 v ++ rest) = some (writeAgentRun first [v]) := by
  rw [writeRunOf, decodeWrite_agent]

/-! ## The obligation -/

/-- Settles O52: WRITE and the row it spells answer by one run; two runs are named. -/
theorem writeBytesSpellTheirTablesWrite : Obligations.WriteBytesSpellTheirTablesWrite := by
  intro q code first count data s
  refine ⟨fun hempty => (write_writesBy _ _ _ _ _).exec_eq (decodeWrite_writesBy _ _ _ _ _) hempty,
    fun hlock hcode => ?readOnly, ?agent⟩
  case readOnly =>
    rw [exec_write_of_run (writeRunOf_of_unwritable hcode)]
    exact lockedCommand_answers hlock rfl
  case agent =>
    rintro v rest hlock rfl rfl rfl rfl
    have hclamp : clamp 60 3600 v.toNat = max 60 (min 3600 v.toNat) := clamp_eq_max_min (by decide) _
    have hstatus : okUnless (max 60 (min 3600 v.toNat) != v.toNat)
        = if v.toNat < 60 ∨ 3600 < v.toNat then .adjusted else .ok := by
      rw [bne_eq_decide_ne, okUnless]
      exact if_congr (by rw [decide_eq_true_iff]; omega) rfl rfl
    rw [exec_write_of_run (writeRunOf_agent q 0 v rest), ← hclamp, ← hstatus, ← hclamp,
      ← takeRequest_tick (.write q 29 0 1 (be16 v ++ rest)) s]
    exact congrArg Host.Outcome.next (lockedCommand_writeSingle _ _ v _ _ _ hlock)

end Sys2Proof.Machine

/-! SUPPORT. With no command waiting, a step carries out the head request (R183): every command that a request spells takes it
from the queue, and its run leaves the queue as it is. -/

namespace Sys2Proof.Machine

/- The proofs below run one after another: run together, their waiting threads outgrow the memory a check may use. -/
set_option Elab.async false

variable {s t : State}

/-! ## The agent through the engines -/

theorem asleep_agent (h : t.asleep = s.asleep) : t.agent = s.agent :=
  show t.asleep.agent = s.asleep.agent by rw [h]

theorem foldl_agent {α : Type} {f : State → α → State} (hf : ∀ s a, (f s a).agent = s.agent) (l : List α) (s : State) :
    (l.foldl f s).agent = s.agent := by
  induction l generalizing s with
  | nil => rfl
  | cons a l ih => rw [List.foldl_cons, ih, hf]

theorem deliveries_agent (s : State) : (deliveries s).agent = s.agent :=
  let ⟨_, h⟩ := deliveries_still s
  (still_agent h).trans rfl

theorem writeMeter_agent (s : State) (x : Meter × (Profile × Profile)) : (writeMeter s x).agent = s.agent :=
  (quiet_agent (setMeter_quiet s x.1 _)).trans rfl

theorem act_agent (action : ScheduleAction) (origin : LevelOrigin) (s : State) : (act action origin s).agent = s.agent :=
  let ⟨_, _, _, _, h⟩ := (act_acts action origin s).quiet
  (quiet_agent h).trans rfl

theorem setLabelWindow_agent (v : Gate) (o : LevelOrigin) (s : State) : (setLabelWindow v o s).agent = s.agent :=
  let ⟨_, h⟩ := setLabelWindow_quiet v o s
  (quiet_agent h).trans rfl

theorem setGuestState_agent (v : Gate) (o : LevelOrigin) (s : State) : (setGuestState v o s).agent = s.agent :=
  (congrArg State.agent (setGuestState_eq v o s)).trans rfl

theorem replay_agent (s : State) : (replay s).agent = s.agent := by
  refine foldl_agent (fun s k => ?_) _ s
  cases h : replayed s.schedule s.clock.time.second k with
  | none => rw [replayKind_none h]
  | some i => rw [replayKind_some h, act_agent]

theorem clockSet_agent (day second : Nat) (s : State) : (clockSet day second s).agent = s.agent := by
  unfold clockSet
  dsimp only
  split
  · exact replay_agent _
  · rfl

theorem nightCall_agent (s : State) : (nightCall s).agent = s.agent := by
  unfold nightCall
  split
  · exact (still_agent (placeCall_still _ s)).trans rfl
  · rfl

theorem closeSession_agent (s : State) : (closeSession s).agent = s.agent := (still_agent (closeSession_still s)).trans rfl

/-! ## Runs that keep the request queue -/

/-- A command's run that neither takes nor adds a request. -/
def KeepsRequests (run : State → CmdResult) : Prop := ∀ s, (run s).state.agent.queue = s.agent.queue

/-- What leaves the agent as it was leaves its queue. -/
theorem queue_of_agent (h : t.agent = s.agent) : t.agent.queue = s.agent.queue := congrArg Agent.queue h

section
variable {α : Type} {first : BitVec 32} {entries : List α}

theorem writeSingle_keepsRequests {take : α → State → CmdResult} (h : ∀ w, KeepsRequests (take w)) :
    KeepsRequests (writeSingle first entries take) := fun s =>
  writeSingle_state (P := fun t => t.agent.queue = s.agent.queue) rfl fun w => h w s

theorem writeMany_queue {low high : Nat} {take : State → CmdResult}
    (h : (take s).state.agent.queue = s.agent.queue) :
    (writeMany low high first entries take s).state.agent.queue = s.agent.queue :=
  writeMany_state (P := fun t => t.agent.queue = s.agent.queue) rfl h

theorem writeNamed_queue {low high : Nat} {fault : Option Nat} {take : State → CmdResult}
    (h : (take s).state.agent.queue = s.agent.queue) :
    (writeNamed low high first entries fault take s).state.agent.queue = s.agent.queue :=
  writeNamed_state (P := fun t => t.agent.queue = s.agent.queue) rfl h

end

theorem writePortsRun_keepsRequests (first : BitVec 32) (es : List PortsWrite) :
    KeepsRequests (writePortsRun first es) := by
  refine writeSingle_keepsRequests fun w s => ?_
  unfold writePortsEntry
  split
  · rfl
  · split
    · rfl
    · split
      · rfl
      · exact queue_of_agent (deliveries_agent _)

theorem writeOfficeRun_keepsRequests (first : BitVec 32) (es : List OfficeStation) :
    KeepsRequests (writeOfficeRun first es) := by
  refine fun s => writeMany_queue ?_
  dsimp only
  split <;> rfl

theorem writeWindowRun_keepsRequests (k : BankId) (first : BitVec 32) (es : List WindowWrite) :
    KeepsRequests (writeWindowRun k first es) := by
  intro s
  unfold writeWindowRun
  split
  · rfl
  · exact writeNamed_queue rfl

theorem writeDefaultsRun_keepsRequests (k : BankId) (first : BitVec 32) (es : List DefaultWrite) :
    KeepsRequests (writeDefaultsRun k first es) := by
  intro s
  unfold writeDefaultsRun
  split
  · rfl
  · exact writeNamed_queue rfl

theorem writeIdentityRun_keepsRequests (first : BitVec 32) (es : List (BitVec 32)) :
    KeepsRequests (writeIdentityRun first es) := by
  refine fun s => writeMany_queue ?_
  dsimp only
  split <;> rfl

theorem writeMetersRun_keepsRequests (first : BitVec 32) (es : List MeterWrite) :
    KeepsRequests (writeMetersRun first es) := by
  refine fun s => writeMany_queue ?_
  dsimp only
  split
  · rfl
  · exact queue_of_agent (foldl_agent writeMeter_agent _ s)

theorem writeScheduleRun_keepsRequests (first : BitVec 32) (es : List ScheduleWrite) :
    KeepsRequests (writeScheduleRun first es) := by
  refine fun s => writeMany_queue ?_
  split <;> rfl

theorem writeTillsRun_keepsRequests (first : BitVec 32) (es : List TillWrite) :
    KeepsRequests (writeTillsRun first es) := fun _ => writeNamed_queue (by simp only [doneClamped])

/-- R187: what the bytes of a WRITE spell keeps the request queue. -/
theorem writeRunOf_keepsRequests {q : Requester} {code : Byte} {first : BitVec 32} {count : BitVec 16} {data : Bytes}
    {run : State → CmdResult} (h : writeRunOf q code first count data = some run) : KeepsRequests run := by
  unfold writeRunOf at h
  split at h <;> cases h
  case h_1 => exact writePortsRun_keepsRequests _ _
  case h_2 => exact writeOfficeRun_keepsRequests _ _
  case h_3 => exact writeWindowRun_keepsRequests _ _ _
  case h_4 => exact writeDefaultsRun_keepsRequests _ _ _
  case h_5 => exact writeIdentityRun_keepsRequests _ _
  case h_7 => exact writeMetersRun_keepsRequests _ _
  case h_8 => exact fun _ => writeMany_queue rfl
  case h_10 => exact writeTillsRun_keepsRequests _ _
  case h_15 => exact writeScheduleRun_keepsRequests _ _
  case h_18 => exact fun _ => rfl
  all_goals exact writeSingle_keepsRequests fun _ _ => rfl

theorem readFrom_keepsRequests (q : Requester) (table : Table) (first count : Nat) :
    KeepsRequests (readFrom q table first count) := by
  intro s
  show (s.withCursor q.party _).agent.queue = _
  unfold State.withCursor
  split <;> rfl

theorem readTable_keepsRequests (q : Requester) (table : Byte) (first : BitVec 32) (count : BitVec 16) :
    KeepsRequests (readTable q table first count) := by
  intro s
  unfold readTable
  split
  · rfl
  · split
    · rfl
    · exact readFrom_keepsRequests _ _ _ _ s

theorem readOn_keepsRequests (q : Requester) (count : BitVec 16) : KeepsRequests (readOn q count) := by
  intro s
  unfold readOn
  split
  · rfl
  · exact readFrom_keepsRequests _ _ _ _ s

theorem swapRun_keepsRequests : KeepsRequests swapRun := by
  intro s
  unfold swapRun
  split <;> rfl

theorem openRun_keepsRequests : KeepsRequests openRun := by
  intro s
  unfold openRun
  split
  · rfl
  · show (if _ then _ else _ : State).agent.queue = _
    split
    · exact (queue_of_agent (replay_agent (s.withPart .running))).trans rfl
    · rfl

theorem closeRun_keepsRequests : KeepsRequests closeRun := by
  intro s
  unfold closeRun
  split
  · exact (queue_of_agent (quiet_agent (closePart_quiet s))).trans rfl
  · rfl

theorem restart_keepsRequests : KeepsRequests fun s => done (restartPart s) := fun s =>
  queue_of_agent ((quiet_agent (restartPart_quiet s)).trans rfl)

theorem setClockRun_keepsRequests (day : BitVec 16) (second : BitVec 32) : KeepsRequests (setClockRun day second) :=
  fun s => queue_of_agent (clockSet_agent _ _ s)

theorem profileRun_keepsRequests (v : Byte) : KeepsRequests (profileRun v) := by
  intro s
  unfold profileRun
  split
  · exact queue_of_agent (act_agent .dayProfile .command s)
  · exact queue_of_agent (act_agent .nightProfile .command s)
  · rfl

theorem labelsRun_keepsRequests (v : Byte) : KeepsRequests (labelsRun v) := by
  intro s
  unfold labelsRun
  split
  · exact queue_of_agent (setLabelWindow_agent _ .command s)
  · rfl

theorem guestRun_keepsRequests (v : Byte) : KeepsRequests (guestRun v) := by
  intro s
  unfold guestRun
  split
  · exact queue_of_agent (setGuestState_agent _ .command s)
  · rfl

theorem callRun_keepsRequests : KeepsRequests callRun := by
  intro s
  unfold callRun
  split
  · exact queue_of_agent (nightCall_agent s)
  · rfl

theorem stopRun_keepsRequests : KeepsRequests stopRun := by
  intro s
  unfold stopRun
  split
  · rfl
  · exact queue_of_agent (closeSession_agent s)

theorem discardRun_keepsRequests : KeepsRequests discardRun := by
  intro s
  unfold discardRun
  split
  · exact queue_of_agent ((quiet_agent (compareChanged_quiet _ _ _)).trans rfl)
  · rfl

theorem adjustQueuesRun_keepsRequests (w : QueueLimitsWrite) : KeepsRequests (adjustQueuesRun w) := by
  intro s
  unfold adjustQueuesRun
  split
  · rfl
  · exact queue_of_agent ((asleep_agent (nightFollow_asleep _)).trans rfl)

theorem barRun_keepsRequests (a : Station) : KeepsRequests (barRun a) := by
  intro s
  unfold barRun
  split <;> rfl

theorem unbarRun_keepsRequests (a : Station) : KeepsRequests (unbarRun a) := by
  intro s
  unfold unbarRun
  split
  · rfl
  · split <;> rfl

theorem configureRun_keepsRequests (ws : Vector CounterWrite 8) (group : GroupControls) :
    KeepsRequests (configureRun ws group) := by
  intro s
  unfold configureRun
  split <;> rfl

theorem startRun_keepsRequests (form : Byte) : KeepsRequests (startRun form) := by
  intro s
  unfold startRun
  split <;> rfl

theorem clearRun_keepsRequests (ns : List Byte) : KeepsRequests (clearRun ns) := by
  intro s
  unfold clearRun
  split <;> rfl

theorem alertClearRun_keepsRequests (codes : List Byte) : KeepsRequests (alertClearRun codes) := by
  intro s
  unfold alertClearRun
  split <;> rfl

theorem claimRun_keepsRequests (p : Party) : KeepsRequests (claimRun p) := by
  intro s
  unfold claimRun
  split <;> rfl

theorem releaseRun_keepsRequests (p : Party) : KeepsRequests (releaseRun p) := by
  intro s
  unfold releaseRun
  split <;> rfl

/-! ## Commands that take their request (R183) -/

/-- R183: a command of the agent: answered once its request is taken, by a run that keeps the rest of the queue. -/
def TakesRequest (c : Instr) : Prop :=
  ∃ q code run, KeepsRequests run ∧ ∀ s, exec c s = .next (openCommand q c code run s)

section
variable {c : Instr} {q : Requester} {code : Nat} {run : State → CmdResult}

theorem TakesRequest.of_open (h : KeepsRequests run)
    (hexec : ∀ s, exec c s = .next (openCommand q c code run s) := by exact fun _ => rfl) : TakesRequest c :=
  ⟨q, code, run, h, hexec⟩

/-- R188: the lock's test and the renewal of the lease keep the queue. -/
theorem TakesRequest.of_locked (h : KeepsRequests run)
    (hexec : ∀ s, exec c s = .next (lockedCommand q c code run s) := by exact fun _ => rfl) : TakesRequest c := by
  refine ⟨q, code, _, fun s => ?_, hexec⟩
  split
  · exact h s
  · rfl

theorem TakesRequest.of_writesBy {run : Option (State → CmdResult)} (h : ∀ r, run = some r → KeepsRequests r)
    (hexec : WritesBy q run c) : TakesRequest c := by
  cases run with
  | none => exact .of_open (fun _ => rfl) hexec
  | some run => exact .of_locked (h run rfl) hexec

/-- R183: the request that spells a command leaves the queue. -/
theorem takeRequest_of_head {r : Request} {rest : List Request} (hq : s.agent.queue = r :: rest)
    (hr : decodeRequest r = c) : takeRequest c s = { s with agent := { s.agent with queue := rest } } := by
  rw [takeRequest, hq]
  exact if_pos hr

theorem TakesRequest.exec_queue (h : TakesRequest c) {r : Request} {rest : List Request}
    (hq : s.agent.queue = r :: rest) (hr : decodeRequest r = c) :
    ∃ t, exec c s = .next t ∧ t.agent.queue = rest := by
  obtain ⟨q, code, run, hrun, hexec⟩ := h
  refine ⟨_, hexec s, ?_⟩
  rw [still_agent (openCommand_still q c code run s), hrun, takeRequest_of_head hq hr]

end

/-! ## What a request spells (R195) -/

/-- Whatever a reader takes from a message has a property. -/
def Yields {α : Type} (P : α → Prop) (reader : Reader α) : Prop := ∀ bs x rest, reader bs = some (x, rest) → P x

section
variable {α β : Type} {P : α → Prop}

theorem Yields.pure {x : α} (h : P x) : Yields P (pure x) := by
  rintro _ _ _ ⟨⟩
  exact h

theorem Yields.bind {reader : Reader β} {next : β → Reader α} (h : ∀ x, Yields P (next x)) :
    Yields P (reader >>= next) := by
  intro bs y rest hread
  obtain ⟨⟨x, bs'⟩, -, hnext⟩ := Option.bind_eq_some_iff.1 hread
  exact h x bs' y rest hnext

theorem Yields.fields {reader : Reader α} (h : Yields P reader) {bs : Bytes} {x : α} (hx : reader.fields bs = some x) :
    P x := by
  obtain ⟨⟨y, rest⟩, hread, rfl⟩ := Option.map_eq_some_iff.1 hx
  exact h bs y rest hread

end

theorem readConfigure_yields (q : Requester) : Yields TakesRequest (readConfigure q) := by
  unfold readConfigure
  iterate 13 refine .bind fun _ => ?_
  exact .pure (.of_locked (configureRun_keepsRequests _ _))

theorem readCounters_yields (q : Requester) : Yields TakesRequest (readCounters q) := by
  refine .bind fun form => ?_
  split
  · exact readConfigure_yields q
  · exact .bind fun _ => .pure (.of_locked (clearRun_keepsRequests _))
  · exact .pure (.of_locked (startRun_keepsRequests _))

theorem readWrite_yields (q : Requester) : Yields TakesRequest (readWrite q) := by
  intro bs c rest hread
  unfold readWrite at hread
  split at hread
  · cases hread
    exact .of_writesBy (fun _ => writeRunOf_keepsRequests) (decodeWrite_writesBy _ _ _ _ _)
  · cases hread

/-- R183, R195: every listed command code is read as a command that takes its request. -/
theorem commandReader_yields {q : Requester} {code : Byte} {reader : Reader Instr}
    (h : commandReader q code = some reader) : Yields TakesRequest reader := by
  unfold commandReader at h
  split at h <;> cases h
  case h_1 => exact .pure (.of_open fun _ => rfl)
  case h_2 => exact .bind fun _ => .bind fun _ => .bind fun _ => .pure (.of_open (readTable_keepsRequests _ _ _ _))
  case h_3 => exact .bind fun _ => .pure (.of_open (readOn_keepsRequests _ _))
  case h_4 => exact readWrite_yields q
  case h_5 => exact .pure (.of_locked swapRun_keepsRequests)
  case h_6 => exact .pure (.of_locked openRun_keepsRequests)
  case h_7 => exact .pure (.of_locked closeRun_keepsRequests)
  case h_8 => exact .bind fun _ => .bind fun _ => .pure (.of_locked (setClockRun_keepsRequests _ _))
  case h_9 => exact .bind fun _ => .pure (.of_locked (labelsRun_keepsRequests _))
  case h_10 => exact .bind fun _ => .pure (.of_locked (guestRun_keepsRequests _))
  case h_11 => exact .pure (.of_locked callRun_keepsRequests)
  case h_12 => exact .pure (.of_locked stopRun_keepsRequests)
  case h_13 => exact .pure (.of_locked discardRun_keepsRequests)
  case h_14 =>
    exact .bind fun _ => .bind fun _ => .bind fun _ => .bind fun _ =>
      .pure (.of_locked (adjustQueuesRun_keepsRequests _))
  case h_15 => exact .pure (.of_locked restart_keepsRequests)
  case h_16 => exact .bind fun _ => .pure (.of_locked (profileRun_keepsRequests _))
  case h_17 => exact .bind fun _ => .pure (.of_locked (barRun_keepsRequests _))
  case h_18 => exact .bind fun _ => .pure (.of_locked (unbarRun_keepsRequests _))
  case h_19 => exact readCounters_yields q
  case h_20 => exact .bind fun _ => .pure (.of_locked (alertClearRun_keepsRequests _))
  case h_21 => exact .pure (.of_locked fun _ => rfl)
  case h_22 => exact .pure (.of_open (claimRun_keepsRequests _))
  case h_23 => exact .pure (.of_open (releaseRun_keepsRequests _))

theorem unknownCommand_takesRequest (q : Requester) (code : Byte) : TakesRequest (.unknownCommand q code) :=
  .of_open fun _ => rfl

/-- R183: a queued request spells a command that takes it. -/
theorem decodeRequest_takesRequest (r : Request) : TakesRequest (decodeRequest r) := by
  unfold decodeRequest
  split
  · exact unknownCommand_takesRequest _ _
  · next hreader =>
    split
    · next hfields => exact (commandReader_yields hreader).fields hfields
    · exact unknownCommand_takesRequest _ _

/-! ## The obligation -/

theorem step_of_idle (hpending : s.pending = []) (hempty : s.agent.queue = []) : step s = .next s := by
  rw [step, hpending]
  dsimp only
  rw [hempty]

theorem step_of_request {r : Request} {rest : List Request} (hpending : s.pending = [])
    (hq : s.agent.queue = r :: rest) : step s = exec (decodeRequest r) s := by
  rw [step, hpending]
  dsimp only
  rw [hq]

/-- Settles O2: the command the head request spells takes it, and its run keeps the others. -/
theorem stepWithNothingPendingTakesARequest : Obligations.StepWithNothingPendingTakesARequest := by
  refine fun s hpending => ⟨step_of_idle hpending, fun r rest hq => ⟨step_of_request hpending hq, ?_⟩⟩
  rw [step_of_request hpending hq]
  exact (decodeRequest_takesRequest r).exec_queue hq rfl

end Sys2Proof.Machine
